-- ==== Sys2Proof/Word.lean ====
section
/-! DEFINITION. The word types of the machine: a word is 32 bits, a byte 8 (spec/00_scope.md R12). -/

namespace Sys2Proof

/-- A word: 32 bits. -/
abbrev Word := BitVec 32

/-- A byte: 8 bits. -/
abbrev Byte := BitVec 8

end Sys2Proof
end

