-- ==== Sys2Proof/Syntax.lean ====
section
/-! DEFINITION. The abstract syntax: one constructor for each row of spec/opcode_table.json, with the fields the row
leaves free as its arguments. -/

namespace Sys2Proof

/-- The fifteen conditions of R481; b1111 is not a condition. -/
inductive Cond
  | eq | ne | cs | cc | mi | pl | vs | vc | hi | ls | ge | lt | gt | le | al
deriving DecidableEq, Repr

/-- A core register number, 0 to 15. -/
abbrev RegNum := Fin 16

/-- The four shift types of R482. -/
inductive ShiftKind
  | lsl | lsr | asr | ror
deriving DecidableEq, Repr

/-- The immediate shifter operand: imm8 rotated right by twice rot (R482). -/
structure ImmOp where
  rot : BitVec 4
  imm8 : BitVec 8
deriving DecidableEq, Repr

/-- The register shifter operand with an immediate shift (R482). -/
structure ShiftOp where
  amount : BitVec 5
  kind : ShiftKind
  rm : RegNum
deriving DecidableEq, Repr

/-- The addressing bits of a load or store: P, U and W (R504, R506, R507). -/
structure AddrMode where
  p : Bool
  u : Bool
  w : Bool
deriving DecidableEq, Repr

/-- The addressing bits of LDC and STC: P, U, N and W (R261). -/
structure CoprocMode where
  p : Bool
  u : Bool
  n : Bool
  w : Bool
deriving DecidableEq, Repr

/-- The offset of a halfword, signed or doubleword transfer (R506): immH:immL, or Rm with bits [11:8] should be
zero. -/
inductive HalfOffset
  | imm (v : BitVec 8)
  | reg (sbz : BitVec 4) (rm : RegNum)
deriving DecidableEq, Repr

/-- The instructions, in the order of spec/opcode_table.json. -/
inductive Instr
  /-- Read ID Code Register (R283). -/
  | mrcId (c : Cond) (rd : RegNum)
  /-- Read Cache Type Register (R284). -/
  | mrcCacheType (c : Cond) (rd : RegNum)
  /-- Read TCM Status Register (R285). -/
  | mrcTcmStatus (c : Cond) (rd : RegNum)
  /-- Read ID Code Register (alias, Opcode_2 = 3) (R286). -/
  | mrcIdAlias3 (c : Cond) (rd : RegNum)
  /-- Read ID Code Register (alias, Opcode_2 = 4) (R286). -/
  | mrcIdAlias4 (c : Cond) (rd : RegNum)
  /-- Read ID Code Register (alias, Opcode_2 = 5) (R286). -/
  | mrcIdAlias5 (c : Cond) (rd : RegNum)
  /-- Read ID Code Register (alias, Opcode_2 = 6) (R286). -/
  | mrcIdAlias6 (c : Cond) (rd : RegNum)
  /-- Read ID Code Register (alias, Opcode_2 = 7) (R286). -/
  | mrcIdAlias7 (c : Cond) (rd : RegNum)
  /-- Read Control Register (R290). -/
  | mrcControl (c : Cond) (rd : RegNum)
  /-- Write Control Register (R291). -/
  | mcrControl (c : Cond) (rd : RegNum)
  /-- Read Translation Table Base Register (R310). -/
  | mrcTtbr (c : Cond) (rd : RegNum)
  /-- Write Translation Table Base Register (R311). -/
  | mcrTtbr (c : Cond) (rd : RegNum)
  /-- Read Domain Access Control Register (R313). -/
  | mrcDacr (c : Cond) (rd : RegNum)
  /-- Write Domain Access Control Register (R314). -/
  | mcrDacr (c : Cond) (rd : RegNum)
  /-- Read Data Fault Status Register (R318). -/
  | mrcDfsr (c : Cond) (rd : RegNum)
  /-- Write Data Fault Status Register (R319). -/
  | mcrDfsr (c : Cond) (rd : RegNum)
  /-- Read Instruction Fault Status Register (R320). -/
  | mrcIfsr (c : Cond) (rd : RegNum)
  /-- Write Instruction Fault Status Register (R321). -/
  | mcrIfsr (c : Cond) (rd : RegNum)
  /-- Read Fault Address Register (R323). -/
  | mrcFar (c : Cond) (rd : RegNum)
  /-- Write Fault Address Register (R324). -/
  | mcrFar (c : Cond) (rd : RegNum)
  /-- Wait for interrupt (R371). -/
  | mcrWaitForInterrupt (c : Cond) (rd : RegNum)
  /-- Invalidate ICache (R351). -/
  | mcrInvalidateICache (c : Cond) (rd : RegNum)
  /-- Invalidate ICache single entry (MVA) (R352). -/
  | mcrInvalidateICacheMva (c : Cond) (rd : RegNum)
  /-- Invalidate ICache single entry (Set/Way) (R353). -/
  | mcrInvalidateICacheSetWay (c : Cond) (rd : RegNum)
  /-- Invalidate DCache (R355). -/
  | mcrInvalidateDCache (c : Cond) (rd : RegNum)
  /-- Invalidate DCache single entry (MVA) (R356). -/
  | mcrInvalidateDCacheMva (c : Cond) (rd : RegNum)
  /-- Invalidate DCache single entry (Set/Way) (R357). -/
  | mcrInvalidateDCacheSetWay (c : Cond) (rd : RegNum)
  /-- Invalidate ICache and DCache (R350). -/
  | mcrInvalidateCaches (c : Cond) (rd : RegNum)
  /-- Clean DCache single entry (MVA) (R360). -/
  | mcrCleanDCacheMva (c : Cond) (rd : RegNum)
  /-- Clean DCache single entry (Set/Way) (R361). -/
  | mcrCleanDCacheSetWay (c : Cond) (rd : RegNum)
  /-- Drain write buffer (R370). -/
  | mcrDrainWriteBuffer (c : Cond) (rd : RegNum)
  /-- Prefetch ICache line (MVA) (R354). -/
  | mcrPrefetchICacheLine (c : Cond) (rd : RegNum)
  /-- Clean and invalidate DCache entry (MVA) (R362). -/
  | mcrCleanInvalidateDCacheMva (c : Cond) (rd : RegNum)
  /-- Clean and invalidate DCache entry (Set/Way) (R363). -/
  | mcrCleanInvalidateDCacheSetWay (c : Cond) (rd : RegNum)
  /-- Test and clean DCache (R365). -/
  | mrcTestClean (c : Cond) (rd : RegNum)
  /-- Test, clean and invalidate DCache (R368). -/
  | mrcTestCleanInvalidate (c : Cond) (rd : RegNum)
  /-- Invalidate set-associative TLB (unified) (R330). -/
  | mcrInvalidateTlb (c : Cond) (rd : RegNum)
  /-- Invalidate TLB single entry (MVA) (unified) (R331). -/
  | mcrInvalidateTlbEntry (c : Cond) (rd : RegNum)
  /-- Invalidate set-associative TLB (instruction form) (R330). -/
  | mcrInvalidateITlb (c : Cond) (rd : RegNum)
  /-- Invalidate TLB single entry (MVA) (instruction form) (R331). -/
  | mcrInvalidateITlbEntry (c : Cond) (rd : RegNum)
  /-- Invalidate set-associative TLB (data form) (R330). -/
  | mcrInvalidateDTlb (c : Cond) (rd : RegNum)
  /-- Invalidate TLB single entry (MVA) (data form) (R331). -/
  | mcrInvalidateDTlbEntry (c : Cond) (rd : RegNum)
  /-- Read DCache Lockdown Register (R380). -/
  | mrcDCacheLockdown (c : Cond) (rd : RegNum)
  /-- Write DCache Lockdown Register (R381). -/
  | mcrDCacheLockdown (c : Cond) (rd : RegNum)
  /-- Read ICache Lockdown Register (R382). -/
  | mrcICacheLockdown (c : Cond) (rd : RegNum)
  /-- Write ICache Lockdown Register (R383). -/
  | mcrICacheLockdown (c : Cond) (rd : RegNum)
  /-- Read Data TCM Region Register (R388). -/
  | mrcDTcmRegion (c : Cond) (rd : RegNum)
  /-- Write Data TCM Region Register (R389). -/
  | mcrDTcmRegion (c : Cond) (rd : RegNum)
  /-- Read Instruction TCM Region Register (R390). -/
  | mrcITcmRegion (c : Cond) (rd : RegNum)
  /-- Write Instruction TCM Region Register (R391). -/
  | mcrITcmRegion (c : Cond) (rd : RegNum)
  /-- Read TLB Lockdown Register (R335). -/
  | mrcTlbLockdown (c : Cond) (rd : RegNum)
  /-- Write TLB Lockdown Register (R336). -/
  | mcrTlbLockdown (c : Cond) (rd : RegNum)
  /-- Read FCSE PID Register (R340). -/
  | mrcFcsePid (c : Cond) (rd : RegNum)
  /-- Write FCSE PID Register (R341). -/
  | mcrFcsePid (c : Cond) (rd : RegNum)
  /-- Read Context ID Register (R343). -/
  | mrcContextId (c : Cond) (rd : RegNum)
  /-- Write Context ID Register (R344). -/
  | mcrContextId (c : Cond) (rd : RegNum)
  /-- Read Debug Override Register (R400). -/
  | mrcDebugOverride (c : Cond) (rd : RegNum)
  /-- Write Debug Override Register (R401). -/
  | mcrDebugOverride (c : Cond) (rd : RegNum)
  /-- Read Debug and Test Address Register (R403). -/
  | mrcDebugTestAddress (c : Cond) (rd : RegNum)
  /-- Write Debug and Test Address Register (R403). -/
  | mcrDebugTestAddress (c : Cond) (rd : RegNum)
  /-- Read Memory Region Remap Register (R430). -/
  | mrcMemoryRegionRemap (c : Cond) (rd : RegNum)
  /-- Write Memory Region Remap Register (R430). -/
  | mcrMemoryRegionRemap (c : Cond) (rd : RegNum)
  /-- Read Trace Control Register (R405). -/
  | mrcTraceControl (c : Cond) (rd : RegNum)
  /-- Write Trace Control Register (R405). -/
  | mcrTraceControl (c : Cond) (rd : RegNum)
  /-- Read tag in main TLB entry (R410). -/
  | mrcMainTlbTag4 (c : Cond) (rd : RegNum)
  /-- Write tag in main TLB entry (R411). -/
  | mcrMainTlbTag4 (c : Cond) (rd : RegNum)
  /-- Read PA and access permission data in main TLB entry (R412). -/
  | mrcMainTlbPa4 (c : Cond) (rd : RegNum)
  /-- Write PA and access permission data in main TLB entry (R413). -/
  | mcrMainTlbPa4 (c : Cond) (rd : RegNum)
  /-- Transfer main TLB entry into RAM (R414). -/
  | mcrMainTlbTransfer4 (c : Cond) (rd : RegNum)
  /-- Read tag in lockdown TLB entry (R415). -/
  | mrcLockTlbTag4 (c : Cond) (rd : RegNum)
  /-- Write tag in lockdown TLB entry (R416). -/
  | mcrLockTlbTag4 (c : Cond) (rd : RegNum)
  /-- Read PA and access permission data in lockdown TLB entry (R417). -/
  | mrcLockTlbPa4 (c : Cond) (rd : RegNum)
  /-- Write PA and access permission data in lockdown TLB entry (R418). -/
  | mcrLockTlbPa4 (c : Cond) (rd : RegNum)
  /-- Transfer lockdown TLB entry into RAM (R419). -/
  | mcrLockTlbTransfer4 (c : Cond) (rd : RegNum)
  /-- Read tag in main TLB entry (Opcode_1 = 5 alias, rule R409) (R410). -/
  | mrcMainTlbTag5 (c : Cond) (rd : RegNum)
  /-- Write tag in main TLB entry (Opcode_1 = 5 alias, rule R409) (R411). -/
  | mcrMainTlbTag5 (c : Cond) (rd : RegNum)
  /-- Read PA and access permission data in main TLB entry (Opcode_1 = 5 alias, rule R409) (R412). -/
  | mrcMainTlbPa5 (c : Cond) (rd : RegNum)
  /-- Write PA and access permission data in main TLB entry (Opcode_1 = 5 alias, rule R409) (R413). -/
  | mcrMainTlbPa5 (c : Cond) (rd : RegNum)
  /-- Transfer main TLB entry into RAM (Opcode_1 = 5 alias, rule R409) (R414). -/
  | mcrMainTlbTransfer5 (c : Cond) (rd : RegNum)
  /-- Read tag in lockdown TLB entry (Opcode_1 = 5 alias, rule R409) (R415). -/
  | mrcLockTlbTag5 (c : Cond) (rd : RegNum)
  /-- Write tag in lockdown TLB entry (Opcode_1 = 5 alias, rule R409) (R416). -/
  | mcrLockTlbTag5 (c : Cond) (rd : RegNum)
  /-- Read PA and access permission data in lockdown TLB entry (Opcode_1 = 5 alias, rule R409) (R417). -/
  | mrcLockTlbPa5 (c : Cond) (rd : RegNum)
  /-- Write PA and access permission data in lockdown TLB entry (Opcode_1 = 5 alias, rule R409) (R418). -/
  | mcrLockTlbPa5 (c : Cond) (rd : RegNum)
  /-- Transfer lockdown TLB entry into RAM (Opcode_1 = 5 alias, rule R409) (R419). -/
  | mcrLockTlbTransfer5 (c : Cond) (rd : RegNum)
  /-- Read Cache Debug Control Register (R425). -/
  | mrcCacheDebugControl (c : Cond) (rd : RegNum)
  /-- Write Cache Debug Control Register (R425). -/
  | mcrCacheDebugControl (c : Cond) (rd : RegNum)
  /-- Read MMU Debug Control Register (R427). -/
  | mrcMmuDebugControl (c : Cond) (rd : RegNum)
  /-- Write MMU Debug Control Register (R427). -/
  | mcrMmuDebugControl (c : Cond) (rd : RegNum)
  /-- Write to register c0: Unpredictable (R287). -/
  | cp15WriteC0 (c : Cond) (op1 : BitVec 3) (rd : RegNum) (crm : BitVec 4) (op2 : BitVec 3)
  /-- Access to c4: Unpredictable (R316). -/
  | cp15AccessC4 (c : Cond) (op1 : BitVec 3) (l : Bool) (rd : RegNum) (crm : BitVec 4) (op2 : BitVec 3)
  /-- Access to c11: Unpredictable (R338). -/
  | cp15AccessC11 (c : Cond) (op1 : BitVec 3) (l : Bool) (rd : RegNum) (crm : BitVec 4) (op2 : BitVec 3)
  /-- Access to c12: Unpredictable (R338). -/
  | cp15AccessC12 (c : Cond) (op1 : BitVec 3) (l : Bool) (rd : RegNum) (crm : BitVec 4) (op2 : BitVec 3)
  /-- Access to c14: reserved, treated as Unpredictable (R338). -/
  | cp15AccessC14 (c : Cond) (op1 : BitVec 3) (l : Bool) (rd : RegNum) (crm : BitVec 4) (op2 : BitVec 3)
  /-- Read of write-only c8: Unpredictable (R333). -/
  | cp15ReadC8 (c : Cond) (rd : RegNum) (crm : BitVec 4) (op2 : BitVec 3)
  /-- Any MRC or MCR to CP15 that matches no row above: Unpredictable in a privileged mode, Undefined in User mode (R257). -/
  | cp15Other (c : Cond) (op1 : BitVec 3) (l : Bool) (crn : BitVec 4) (rd : RegNum) (crm : BitVec 4) (op2 : BitVec 3)
  /-- CDP to CP15: Undefined instruction exception in every mode (R258). -/
  | cdpCp15 (c : Cond) (op1 : BitVec 4) (crn crd : BitVec 4) (op2 : BitVec 3) (crm : BitVec 4)
  /-- MCRR to CP15: Undefined instruction exception in every mode (R258). -/
  | mcrrCp15 (c : Cond) (rn rd : RegNum) (op : BitVec 4) (crm : BitVec 4)
  /-- MRRC to CP15: Undefined instruction exception in every mode (R258). -/
  | mrrcCp15 (c : Cond) (rn rd : RegNum) (op : BitVec 4) (crm : BitVec 4)
  /-- LDC to CP15: Undefined instruction exception in every mode (R258). -/
  | ldcCp15 (c : Cond) (a : CoprocMode) (rn : RegNum) (crd : BitVec 4) (imm8 : BitVec 8)
  /-- STC to CP15: Undefined instruction exception in every mode (R258). -/
  | stcCp15 (c : Cond) (a : CoprocMode) (rn : RegNum) (crd : BitVec 4) (imm8 : BitVec 8)
  /-- MCRR to an external coprocessor (R461). -/
  | mcrrExt (c : Cond) (rn rd : RegNum) (cp : BitVec 4) (op : BitVec 4) (crm : BitVec 4)
  /-- MRRC from an external coprocessor (R461). -/
  | mrrcExt (c : Cond) (rn rd : RegNum) (cp : BitVec 4) (op : BitVec 4) (crm : BitVec 4)
  /-- CDP to an external coprocessor (R463). -/
  | cdpExt (c : Cond) (op1 : BitVec 4) (crn crd : BitVec 4) (cp : BitVec 4) (op2 : BitVec 3) (crm : BitVec 4)
  /-- MCR to an external coprocessor (R461). -/
  | mcrExt (c : Cond) (op1 : BitVec 3) (crn : BitVec 4) (rd : RegNum) (cp : BitVec 4) (op2 : BitVec 3) (crm : BitVec 4)
  /-- MRC from an external coprocessor (R461). -/
  | mrcExt (c : Cond) (op1 : BitVec 3) (crn : BitVec 4) (rd : RegNum) (cp : BitVec 4) (op2 : BitVec 3) (crm : BitVec 4)
  /-- LDC to an external coprocessor (R464). -/
  | ldcExt (c : Cond) (a : CoprocMode) (rn : RegNum) (crd : BitVec 4) (cp : BitVec 4) (imm8 : BitVec 8)
  /-- STC from an external coprocessor (R464). -/
  | stcExt (c : Cond) (a : CoprocMode) (rn : RegNum) (crd : BitVec 4) (cp : BitVec 4) (imm8 : BitVec 8)
  /-- Coprocessor instruction in the unconditional space (cond = b1111, bits [27:26] = 11, bits [25:24] != 11) (R470). -/
  | coprocUnconditional (top : BitVec 2) (mid : BitVec 12) (cp : BitVec 4) (low : BitVec 8)
  /-- AND immediate operand (R490). -/
  | andImm (c : Cond) (s : Bool) (rn rd : RegNum) (op : ImmOp)
  /-- AND register operand with immediate shift (bit 4 = 0) (R490). -/
  | andReg (c : Cond) (s : Bool) (rn rd : RegNum) (op : ShiftOp)
  /-- EOR immediate operand (R492). -/
  | eorImm (c : Cond) (s : Bool) (rn rd : RegNum) (op : ImmOp)
  /-- EOR register operand with immediate shift (bit 4 = 0) (R492). -/
  | eorReg (c : Cond) (s : Bool) (rn rd : RegNum) (op : ShiftOp)
  /-- SUB immediate operand (R488). -/
  | subImm (c : Cond) (s : Bool) (rn rd : RegNum) (op : ImmOp)
  /-- SUB register operand with immediate shift (bit 4 = 0) (R488). -/
  | subReg (c : Cond) (s : Bool) (rn rd : RegNum) (op : ShiftOp)
  /-- RSB immediate operand (R489). -/
  | rsbImm (c : Cond) (s : Bool) (rn rd : RegNum) (op : ImmOp)
  /-- RSB register operand with immediate shift (bit 4 = 0) (R489). -/
  | rsbReg (c : Cond) (s : Bool) (rn rd : RegNum) (op : ShiftOp)
  /-- ADD immediate operand (R486). -/
  | addImm (c : Cond) (s : Bool) (rn rd : RegNum) (op : ImmOp)
  /-- ADD register operand with immediate shift (bit 4 = 0) (R486). -/
  | addReg (c : Cond) (s : Bool) (rn rd : RegNum) (op : ShiftOp)
  /-- ADC immediate operand (R498). -/
  | adcImm (c : Cond) (s : Bool) (rn rd : RegNum) (op : ImmOp)
  /-- ADC register operand with immediate shift (bit 4 = 0) (R498). -/
  | adcReg (c : Cond) (s : Bool) (rn rd : RegNum) (op : ShiftOp)
  /-- SBC immediate operand (R499). -/
  | sbcImm (c : Cond) (s : Bool) (rn rd : RegNum) (op : ImmOp)
  /-- SBC register operand with immediate shift (bit 4 = 0) (R499). -/
  | sbcReg (c : Cond) (s : Bool) (rn rd : RegNum) (op : ShiftOp)
  /-- RSC immediate operand (R501). -/
  | rscImm (c : Cond) (s : Bool) (rn rd : RegNum) (op : ImmOp)
  /-- RSC register operand with immediate shift (bit 4 = 0) (R501). -/
  | rscReg (c : Cond) (s : Bool) (rn rd : RegNum) (op : ShiftOp)
  /-- TST immediate operand (R496). -/
  | tstImm (c : Cond) (rn : RegNum) (sbz : BitVec 4) (op : ImmOp)
  /-- TST register operand with immediate shift (bit 4 = 0) (R496). -/
  | tstReg (c : Cond) (rn : RegNum) (sbz : BitVec 4) (op : ShiftOp)
  /-- TEQ immediate operand (R497). -/
  | teqImm (c : Cond) (rn : RegNum) (sbz : BitVec 4) (op : ImmOp)
  /-- TEQ register operand with immediate shift (bit 4 = 0) (R497). -/
  | teqReg (c : Cond) (rn : RegNum) (sbz : BitVec 4) (op : ShiftOp)
  /-- CMP immediate operand (R494). -/
  | cmpImm (c : Cond) (rn : RegNum) (sbz : BitVec 4) (op : ImmOp)
  /-- CMP register operand with immediate shift (bit 4 = 0) (R494). -/
  | cmpReg (c : Cond) (rn : RegNum) (sbz : BitVec 4) (op : ShiftOp)
  /-- CMN immediate operand (R495). -/
  | cmnImm (c : Cond) (rn : RegNum) (sbz : BitVec 4) (op : ImmOp)
  /-- CMN register operand with immediate shift (bit 4 = 0) (R495). -/
  | cmnReg (c : Cond) (rn : RegNum) (sbz : BitVec 4) (op : ShiftOp)
  /-- ORR immediate operand (R491). -/
  | orrImm (c : Cond) (s : Bool) (rn rd : RegNum) (op : ImmOp)
  /-- ORR register operand with immediate shift (bit 4 = 0) (R491). -/
  | orrReg (c : Cond) (s : Bool) (rn rd : RegNum) (op : ShiftOp)
  /-- MOV immediate operand (R484). -/
  | movImm (c : Cond) (s : Bool) (sbz : BitVec 4) (rd : RegNum) (op : ImmOp)
  /-- MOV register operand with immediate shift (bit 4 = 0) (R484). -/
  | movReg (c : Cond) (s : Bool) (sbz : BitVec 4) (rd : RegNum) (op : ShiftOp)
  /-- BIC immediate operand (R493). -/
  | bicImm (c : Cond) (s : Bool) (rn rd : RegNum) (op : ImmOp)
  /-- BIC register operand with immediate shift (bit 4 = 0) (R493). -/
  | bicReg (c : Cond) (s : Bool) (rn rd : RegNum) (op : ShiftOp)
  /-- MVN immediate operand (R485). -/
  | mvnImm (c : Cond) (s : Bool) (sbz : BitVec 4) (rd : RegNum) (op : ImmOp)
  /-- MVN register operand with immediate shift (bit 4 = 0) (R485). -/
  | mvnReg (c : Cond) (s : Bool) (sbz : BitVec 4) (rd : RegNum) (op : ShiftOp)
  /-- pseudo-instruction: ADD Rd, pc, #imm (R487). -/
  | adrAhead (c : Cond) (rd : RegNum) (op : ImmOp)
  /-- pseudo-instruction: SUB Rd, pc, #imm (R487). -/
  | adrBehind (c : Cond) (rd : RegNum) (op : ImmOp)
  /-- Branch (R502). -/
  | b (c : Cond) (imm24 : BitVec 24)
  /-- Branch with link (R502). -/
  | bl (c : Cond) (imm24 : BitVec 24)
  /-- Branch and exchange (R503). -/
  | bx (c : Cond) (rm : RegNum)
  /-- Branch with link and exchange (register) (R503). -/
  | blx (c : Cond) (rm : RegNum)
  /-- LDR immediate offset (R504). -/
  | ldrImm (c : Cond) (a : AddrMode) (rn rd : RegNum) (off : BitVec 12)
  /-- LDR register offset (R504). -/
  | ldrReg (c : Cond) (a : AddrMode) (rn rd : RegNum) (op : ShiftOp)
  /-- STR immediate offset (R504). -/
  | strImm (c : Cond) (a : AddrMode) (rn rd : RegNum) (off : BitVec 12)
  /-- STR register offset (R504). -/
  | strReg (c : Cond) (a : AddrMode) (rn rd : RegNum) (op : ShiftOp)
  /-- LDRB immediate offset (R504). -/
  | ldrbImm (c : Cond) (a : AddrMode) (rn rd : RegNum) (off : BitVec 12)
  /-- LDRB register offset (R504). -/
  | ldrbReg (c : Cond) (a : AddrMode) (rn rd : RegNum) (op : ShiftOp)
  /-- STRB immediate offset (R504). -/
  | strbImm (c : Cond) (a : AddrMode) (rn rd : RegNum) (off : BitVec 12)
  /-- STRB register offset (R504). -/
  | strbReg (c : Cond) (a : AddrMode) (rn rd : RegNum) (op : ShiftOp)
  /-- LDRH (R506). -/
  | ldrh (c : Cond) (a : AddrMode) (rn rd : RegNum) (off : HalfOffset)
  /-- STRH (R506). -/
  | strh (c : Cond) (a : AddrMode) (rn rd : RegNum) (off : HalfOffset)
  /-- LDRSB (R506). -/
  | ldrsb (c : Cond) (a : AddrMode) (rn rd : RegNum) (off : HalfOffset)
  /-- LDRSH (R506). -/
  | ldrsh (c : Cond) (a : AddrMode) (rn rd : RegNum) (off : HalfOffset)
  /-- LDRD (R506). -/
  | ldrd (c : Cond) (a : AddrMode) (rn rd : RegNum) (off : HalfOffset)
  /-- STRD (R506). -/
  | strd (c : Cond) (a : AddrMode) (rn rd : RegNum) (off : HalfOffset)
  /-- Load multiple (R507). -/
  | ldm (c : Cond) (a : AddrMode) (caret : Bool) (rn : RegNum) (list : BitVec 16)
  /-- Store multiple (R507). -/
  | stm (c : Cond) (a : AddrMode) (caret : Bool) (rn : RegNum) (list : BitVec 16)
  /-- Swap word (R508). -/
  | swp (c : Cond) (rn rd rm : RegNum)
  /-- Swap byte (R508). -/
  | swpb (c : Cond) (rn rd rm : RegNum)
  /-- Preload data: no operation on this processor (R509). -/
  | pld (i u : Bool) (rn : RegNum) (off : BitVec 12)
  /-- Move status register to register (R510). -/
  | mrs (c : Cond) (r : Bool) (rd : RegNum)
  /-- Move register to status register (R510). -/
  | msrReg (c : Cond) (r : Bool) (mask : BitVec 4) (rm : RegNum)
  /-- Move immediate to status register (R510). -/
  | msrImm (c : Cond) (r : Bool) (mask : BitVec 4) (op : ImmOp)
  /-- Software interrupt (R511). -/
  | swi (c : Cond) (imm24 : BitVec 24)
  /-- cond 011 x...x 1 xxxx: Undefined instruction exception (R514). -/
  | udf (c : Cond) (hi : BitVec 20) (lo : BitVec 4)
deriving DecidableEq, Repr

end Sys2Proof
end

