-- ==== Sys2Proof/Machine/Bits.lean ====
section
/-! DEFINITION. Bit fields of words: the field positions shared by the decoder and the encoder, and byte lanes
(spec/00_scope.md R12, R13). -/

namespace Sys2Proof

/-- The 4-bit code of a condition (R481). -/
def Cond.bits : Cond → BitVec 4
  | .eq => 0#4
  | .ne => 1#4
  | .cs => 2#4
  | .cc => 3#4
  | .mi => 4#4
  | .pl => 5#4
  | .vs => 6#4
  | .vc => 7#4
  | .hi => 8#4
  | .ls => 9#4
  | .ge => 10#4
  | .lt => 11#4
  | .gt => 12#4
  | .le => 13#4
  | .al => 14#4

/-- The condition a 4-bit code names; none for b1111 (R481). -/
def condOf (b : BitVec 4) : Option Cond :=
  [Cond.eq, .ne, .cs, .cc, .mi, .pl, .vs, .vc, .hi, .ls, .ge, .lt, .gt, .le, .al].find? fun c => c.bits = b

/-- The 2-bit type of a shift (R482). -/
def ShiftKind.bits : ShiftKind → BitVec 2
  | .lsl => 0#2
  | .lsr => 1#2
  | .asr => 2#2
  | .ror => 3#2

/-- The shift a 2-bit type names (R482). -/
def shiftKindOf (b : BitVec 2) : ShiftKind :=
  if b = 0#2 then .lsl else if b = 1#2 then .lsr else if b = 2#2 then .asr else .ror

/-- The register a 4-bit field names. -/
def regOf (b : BitVec 4) : RegNum := b.toFin

/-- The 4-bit field that names a register. -/
def regBits (r : RegNum) : BitVec 4 := BitVec.ofFin r

/-- Bits [lo+len-1 : lo] of a word. -/
def field (w : Word) (lo len : Nat) : BitVec len := w.extractLsb' lo len

/-- One bit of a word. -/
def flag (w : Word) (i : Nat) : Bool := w.getLsbD i

/-- The byte in lane k of a word: lane 0 is bits [7:0]. -/
def laneByte (w : Word) (k : BitVec 2) : Byte := w.extractLsb' (8 * k.toNat) 8

/-- The four bytes of a word, lane 0 first, put together. -/
def wordOfLanes (b0 b1 b2 b3 : Byte) : Word := b3 ++ b2 ++ b1 ++ b0

end Sys2Proof
end

