-- ==== Sys2Proof/Machine/Cp15Map.lean ====
section
/-! DEFINITION. The CP15 opcode map (spec/30_encoding.md R256): for each defined access, bits [27:16] and [11:0] of its
word and its constructor. -/

namespace Sys2Proof

/-- Rows 0 to 10 of the map. -/
def cp15MapA : List (BitVec 12 × BitVec 12 × (Cond → RegNum → Instr)) :=
  [(0xE10#12, 0xF10#12, .mrcId),
   (0xE10#12, 0xF30#12, .mrcCacheType),
   (0xE10#12, 0xF50#12, .mrcTcmStatus),
   (0xE10#12, 0xF70#12, .mrcIdAlias3),
   (0xE10#12, 0xF90#12, .mrcIdAlias4),
   (0xE10#12, 0xFB0#12, .mrcIdAlias5),
   (0xE10#12, 0xFD0#12, .mrcIdAlias6),
   (0xE10#12, 0xFF0#12, .mrcIdAlias7),
   (0xE11#12, 0xF10#12, .mrcControl),
   (0xE01#12, 0xF10#12, .mcrControl),
   (0xE12#12, 0xF10#12, .mrcTtbr)]

/-- Rows 11 to 21 of the map. -/
def cp15MapB : List (BitVec 12 × BitVec 12 × (Cond → RegNum → Instr)) :=
  [(0xE02#12, 0xF10#12, .mcrTtbr),
   (0xE13#12, 0xF10#12, .mrcDacr),
   (0xE03#12, 0xF10#12, .mcrDacr),
   (0xE15#12, 0xF10#12, .mrcDfsr),
   (0xE05#12, 0xF10#12, .mcrDfsr),
   (0xE15#12, 0xF30#12, .mrcIfsr),
   (0xE05#12, 0xF30#12, .mcrIfsr),
   (0xE16#12, 0xF10#12, .mrcFar),
   (0xE06#12, 0xF10#12, .mcrFar),
   (0xE07#12, 0xF90#12, .mcrWaitForInterrupt),
   (0xE07#12, 0xF15#12, .mcrInvalidateICache)]

/-- Rows 22 to 32 of the map. -/
def cp15MapC : List (BitVec 12 × BitVec 12 × (Cond → RegNum → Instr)) :=
  [(0xE07#12, 0xF35#12, .mcrInvalidateICacheMva),
   (0xE07#12, 0xF55#12, .mcrInvalidateICacheSetWay),
   (0xE07#12, 0xF16#12, .mcrInvalidateDCache),
   (0xE07#12, 0xF36#12, .mcrInvalidateDCacheMva),
   (0xE07#12, 0xF56#12, .mcrInvalidateDCacheSetWay),
   (0xE07#12, 0xF17#12, .mcrInvalidateCaches),
   (0xE07#12, 0xF3A#12, .mcrCleanDCacheMva),
   (0xE07#12, 0xF5A#12, .mcrCleanDCacheSetWay),
   (0xE07#12, 0xF9A#12, .mcrDrainWriteBuffer),
   (0xE07#12, 0xF3D#12, .mcrPrefetchICacheLine),
   (0xE07#12, 0xF3E#12, .mcrCleanInvalidateDCacheMva)]

/-- Rows 33 to 43 of the map. -/
def cp15MapD : List (BitVec 12 × BitVec 12 × (Cond → RegNum → Instr)) :=
  [(0xE07#12, 0xF5E#12, .mcrCleanInvalidateDCacheSetWay),
   (0xE17#12, 0xF7A#12, .mrcTestClean),
   (0xE17#12, 0xF7E#12, .mrcTestCleanInvalidate),
   (0xE08#12, 0xF17#12, .mcrInvalidateTlb),
   (0xE08#12, 0xF37#12, .mcrInvalidateTlbEntry),
   (0xE08#12, 0xF15#12, .mcrInvalidateITlb),
   (0xE08#12, 0xF35#12, .mcrInvalidateITlbEntry),
   (0xE08#12, 0xF16#12, .mcrInvalidateDTlb),
   (0xE08#12, 0xF36#12, .mcrInvalidateDTlbEntry),
   (0xE19#12, 0xF10#12, .mrcDCacheLockdown),
   (0xE09#12, 0xF10#12, .mcrDCacheLockdown)]

/-- Rows 44 to 54 of the map. -/
def cp15MapE : List (BitVec 12 × BitVec 12 × (Cond → RegNum → Instr)) :=
  [(0xE19#12, 0xF30#12, .mrcICacheLockdown),
   (0xE09#12, 0xF30#12, .mcrICacheLockdown),
   (0xE19#12, 0xF11#12, .mrcDTcmRegion),
   (0xE09#12, 0xF11#12, .mcrDTcmRegion),
   (0xE19#12, 0xF31#12, .mrcITcmRegion),
   (0xE09#12, 0xF31#12, .mcrITcmRegion),
   (0xE1A#12, 0xF10#12, .mrcTlbLockdown),
   (0xE0A#12, 0xF10#12, .mcrTlbLockdown),
   (0xE1D#12, 0xF10#12, .mrcFcsePid),
   (0xE0D#12, 0xF10#12, .mcrFcsePid),
   (0xE1D#12, 0xF30#12, .mrcContextId)]

/-- Rows 55 to 65 of the map. -/
def cp15MapF : List (BitVec 12 × BitVec 12 × (Cond → RegNum → Instr)) :=
  [(0xE0D#12, 0xF30#12, .mcrContextId),
   (0xE1F#12, 0xF10#12, .mrcDebugOverride),
   (0xE0F#12, 0xF10#12, .mcrDebugOverride),
   (0xE1F#12, 0xF11#12, .mrcDebugTestAddress),
   (0xE0F#12, 0xF11#12, .mcrDebugTestAddress),
   (0xE1F#12, 0xF12#12, .mrcMemoryRegionRemap),
   (0xE0F#12, 0xF12#12, .mcrMemoryRegionRemap),
   (0xE3F#12, 0xF11#12, .mrcTraceControl),
   (0xE2F#12, 0xF11#12, .mcrTraceControl),
   (0xE9F#12, 0xF12#12, .mrcMainTlbTag4),
   (0xE8F#12, 0xF13#12, .mcrMainTlbTag4)]

/-- Rows 66 to 76 of the map. -/
def cp15MapG : List (BitVec 12 × BitVec 12 × (Cond → RegNum → Instr)) :=
  [(0xE9F#12, 0xF14#12, .mrcMainTlbPa4),
   (0xE8F#12, 0xF15#12, .mcrMainTlbPa4),
   (0xE8F#12, 0xF17#12, .mcrMainTlbTransfer4),
   (0xE9F#12, 0xF32#12, .mrcLockTlbTag4),
   (0xE8F#12, 0xF33#12, .mcrLockTlbTag4),
   (0xE9F#12, 0xF34#12, .mrcLockTlbPa4),
   (0xE8F#12, 0xF35#12, .mcrLockTlbPa4),
   (0xE8F#12, 0xF37#12, .mcrLockTlbTransfer4),
   (0xEBF#12, 0xF12#12, .mrcMainTlbTag5),
   (0xEAF#12, 0xF13#12, .mcrMainTlbTag5),
   (0xEBF#12, 0xF14#12, .mrcMainTlbPa5)]

/-- Rows 77 to 87 of the map. -/
def cp15MapH : List (BitVec 12 × BitVec 12 × (Cond → RegNum → Instr)) :=
  [(0xEAF#12, 0xF15#12, .mcrMainTlbPa5),
   (0xEAF#12, 0xF17#12, .mcrMainTlbTransfer5),
   (0xEBF#12, 0xF32#12, .mrcLockTlbTag5),
   (0xEAF#12, 0xF33#12, .mcrLockTlbTag5),
   (0xEBF#12, 0xF34#12, .mrcLockTlbPa5),
   (0xEAF#12, 0xF35#12, .mcrLockTlbPa5),
   (0xEAF#12, 0xF37#12, .mcrLockTlbTransfer5),
   (0xEFF#12, 0xF10#12, .mrcCacheDebugControl),
   (0xEEF#12, 0xF10#12, .mcrCacheDebugControl),
   (0xEFF#12, 0xF11#12, .mrcMmuDebugControl),
   (0xEEF#12, 0xF11#12, .mcrMmuDebugControl)]

/-- The 88 defined CP15 accesses of R256. -/
def cp15Map : List (BitVec 12 × BitVec 12 × (Cond → RegNum → Instr)) :=
  cp15MapA ++ cp15MapB ++ cp15MapC ++ cp15MapD ++ cp15MapE ++ cp15MapF ++ cp15MapG ++ cp15MapH

/-- The constructor of a defined CP15 access, from bits [27:16] and [11:0] of its word. -/
def cp15Find (hi lo : BitVec 12) : Option (Cond → RegNum → Instr) :=
  (cp15Map.find? fun r => r.1 = hi ∧ r.2.1 = lo).map fun r => r.2.2

/-- Bits [27:16] of an MCR or MRC word (R252). -/
def transferHi (op1 : BitVec 3) (l : Bool) (crn : BitVec 4) : BitVec 12 :=
  (0b1110#4 ++ op1 ++ BitVec.ofBool l ++ crn : BitVec 12)

/-- Bits [11:0] of an MCR or MRC word (R252). -/
def transferLo (cp : BitVec 4) (op2 : BitVec 3) (crm : BitVec 4) : BitVec 12 :=
  (cp ++ op2 ++ 1#1 ++ crm : BitVec 12)

end Sys2Proof
end

