-- ==== Sys2Proof/WellFormed.lean ====
section
/-! DEFINITION. The terms of the syntax that stand for a word: a word decodes to the first row of
spec/opcode_table.json that it matches (R263), so a later row's term whose word an earlier row takes is ill-formed. -/

namespace Sys2Proof

/-- P, U, N and W of an LDC or STC word are not those of MCRR and MRRC (R261). -/
def CoprocMode.notTwoRegister (a : CoprocMode) : Bool :=
  !(a.p == false && a.u == false && a.n == true && a.w == false)

/-- The immediate operation is not the one ADR assembles to: Rn = r15 and S = 0 (R487). -/
def notAdr (s : Bool) (rn : RegNum) : Bool := s || rn != 15

/-- An MCR or MRC to CP15 that no other row takes (R257): not defined, and not one of the listed spaces. -/
def cp15Unlisted (op1 : BitVec 3) (l : Bool) (crn crm : BitVec 4) (op2 : BitVec 3) : Bool :=
  (cp15Find (transferHi op1 l crn) (transferLo 15#4 op2 crm)).isNone &&
    crn != 4#4 && crn != 11#4 && crn != 12#4 && crn != 14#4 && !(crn == 0#4 && !l) && !(crn == 8#4 && l && op1 == 0#3)

/-- An instruction is well-formed when some word stands for it. -/
def Instr.wellFormed : Instr → Bool
  | .mrcId _ _ => true
  | .mrcCacheType _ _ => true
  | .mrcTcmStatus _ _ => true
  | .mrcIdAlias3 _ _ => true
  | .mrcIdAlias4 _ _ => true
  | .mrcIdAlias5 _ _ => true
  | .mrcIdAlias6 _ _ => true
  | .mrcIdAlias7 _ _ => true
  | .mrcControl _ _ => true
  | .mcrControl _ _ => true
  | .mrcTtbr _ _ => true
  | .mcrTtbr _ _ => true
  | .mrcDacr _ _ => true
  | .mcrDacr _ _ => true
  | .mrcDfsr _ _ => true
  | .mcrDfsr _ _ => true
  | .mrcIfsr _ _ => true
  | .mcrIfsr _ _ => true
  | .mrcFar _ _ => true
  | .mcrFar _ _ => true
  | .mcrWaitForInterrupt _ _ => true
  | .mcrInvalidateICache _ _ => true
  | .mcrInvalidateICacheMva _ _ => true
  | .mcrInvalidateICacheSetWay _ _ => true
  | .mcrInvalidateDCache _ _ => true
  | .mcrInvalidateDCacheMva _ _ => true
  | .mcrInvalidateDCacheSetWay _ _ => true
  | .mcrInvalidateCaches _ _ => true
  | .mcrCleanDCacheMva _ _ => true
  | .mcrCleanDCacheSetWay _ _ => true
  | .mcrDrainWriteBuffer _ _ => true
  | .mcrPrefetchICacheLine _ _ => true
  | .mcrCleanInvalidateDCacheMva _ _ => true
  | .mcrCleanInvalidateDCacheSetWay _ _ => true
  | .mrcTestClean _ _ => true
  | .mrcTestCleanInvalidate _ _ => true
  | .mcrInvalidateTlb _ _ => true
  | .mcrInvalidateTlbEntry _ _ => true
  | .mcrInvalidateITlb _ _ => true
  | .mcrInvalidateITlbEntry _ _ => true
  | .mcrInvalidateDTlb _ _ => true
  | .mcrInvalidateDTlbEntry _ _ => true
  | .mrcDCacheLockdown _ _ => true
  | .mcrDCacheLockdown _ _ => true
  | .mrcICacheLockdown _ _ => true
  | .mcrICacheLockdown _ _ => true
  | .mrcDTcmRegion _ _ => true
  | .mcrDTcmRegion _ _ => true
  | .mrcITcmRegion _ _ => true
  | .mcrITcmRegion _ _ => true
  | .mrcTlbLockdown _ _ => true
  | .mcrTlbLockdown _ _ => true
  | .mrcFcsePid _ _ => true
  | .mcrFcsePid _ _ => true
  | .mrcContextId _ _ => true
  | .mcrContextId _ _ => true
  | .mrcDebugOverride _ _ => true
  | .mcrDebugOverride _ _ => true
  | .mrcDebugTestAddress _ _ => true
  | .mcrDebugTestAddress _ _ => true
  | .mrcMemoryRegionRemap _ _ => true
  | .mcrMemoryRegionRemap _ _ => true
  | .mrcTraceControl _ _ => true
  | .mcrTraceControl _ _ => true
  | .mrcMainTlbTag4 _ _ => true
  | .mcrMainTlbTag4 _ _ => true
  | .mrcMainTlbPa4 _ _ => true
  | .mcrMainTlbPa4 _ _ => true
  | .mcrMainTlbTransfer4 _ _ => true
  | .mrcLockTlbTag4 _ _ => true
  | .mcrLockTlbTag4 _ _ => true
  | .mrcLockTlbPa4 _ _ => true
  | .mcrLockTlbPa4 _ _ => true
  | .mcrLockTlbTransfer4 _ _ => true
  | .mrcMainTlbTag5 _ _ => true
  | .mcrMainTlbTag5 _ _ => true
  | .mrcMainTlbPa5 _ _ => true
  | .mcrMainTlbPa5 _ _ => true
  | .mcrMainTlbTransfer5 _ _ => true
  | .mrcLockTlbTag5 _ _ => true
  | .mcrLockTlbTag5 _ _ => true
  | .mrcLockTlbPa5 _ _ => true
  | .mcrLockTlbPa5 _ _ => true
  | .mcrLockTlbTransfer5 _ _ => true
  | .mrcCacheDebugControl _ _ => true
  | .mcrCacheDebugControl _ _ => true
  | .mrcMmuDebugControl _ _ => true
  | .mcrMmuDebugControl _ _ => true
  | .cp15WriteC0 _ _ _ _ _ => true
  | .cp15AccessC4 _ _ _ _ _ _ => true
  | .cp15AccessC11 _ _ _ _ _ _ => true
  | .cp15AccessC12 _ _ _ _ _ _ => true
  | .cp15AccessC14 _ _ _ _ _ _ => true
  | .cp15ReadC8 _ _ _ _ => true
  | .cp15Other _ op1 l crn _ crm op2 => cp15Unlisted op1 l crn crm op2
  | .cdpCp15 _ _ _ _ _ _ => true
  | .mcrrCp15 _ _ _ _ _ => true
  | .mrrcCp15 _ _ _ _ _ => true
  | .ldcCp15 _ a _ _ _ => a.notTwoRegister
  | .stcCp15 _ a _ _ _ => a.notTwoRegister
  | .mcrrExt _ _ _ cp _ _ => cp != 15#4
  | .mrrcExt _ _ _ cp _ _ => cp != 15#4
  | .cdpExt _ _ _ _ cp _ _ => cp != 15#4
  | .mcrExt _ _ _ _ cp _ _ => cp != 15#4
  | .mrcExt _ _ _ _ cp _ _ => cp != 15#4
  | .ldcExt _ a _ _ cp _ => cp != 15#4 && a.notTwoRegister
  | .stcExt _ a _ _ cp _ => cp != 15#4 && a.notTwoRegister
  | .coprocUnconditional top _ _ _ => top != 3#2
  | .andImm _ _ _ _ _ => true
  | .andReg _ _ _ _ _ => true
  | .eorImm _ _ _ _ _ => true
  | .eorReg _ _ _ _ _ => true
  | .subImm _ s rn _ _ => notAdr s rn
  | .subReg _ _ _ _ _ => true
  | .rsbImm _ _ _ _ _ => true
  | .rsbReg _ _ _ _ _ => true
  | .addImm _ s rn _ _ => notAdr s rn
  | .addReg _ _ _ _ _ => true
  | .adcImm _ _ _ _ _ => true
  | .adcReg _ _ _ _ _ => true
  | .sbcImm _ _ _ _ _ => true
  | .sbcReg _ _ _ _ _ => true
  | .rscImm _ _ _ _ _ => true
  | .rscReg _ _ _ _ _ => true
  | .tstImm _ _ _ _ => true
  | .tstReg _ _ _ _ => true
  | .teqImm _ _ _ _ => true
  | .teqReg _ _ _ _ => true
  | .cmpImm _ _ _ _ => true
  | .cmpReg _ _ _ _ => true
  | .cmnImm _ _ _ _ => true
  | .cmnReg _ _ _ _ => true
  | .orrImm _ _ _ _ _ => true
  | .orrReg _ _ _ _ _ => true
  | .movImm _ _ _ _ _ => true
  | .movReg _ _ _ _ _ => true
  | .bicImm _ _ _ _ _ => true
  | .bicReg _ _ _ _ _ => true
  | .mvnImm _ _ _ _ _ => true
  | .mvnReg _ _ _ _ _ => true
  | .adrAhead _ _ _ => true
  | .adrBehind _ _ _ => true
  | .b _ _ => true
  | .bl _ _ => true
  | .bx _ _ => true
  | .blx _ _ => true
  | .ldrImm _ _ _ _ _ => true
  | .ldrReg _ _ _ _ _ => true
  | .strImm _ _ _ _ _ => true
  | .strReg _ _ _ _ _ => true
  | .ldrbImm _ _ _ _ _ => true
  | .ldrbReg _ _ _ _ _ => true
  | .strbImm _ _ _ _ _ => true
  | .strbReg _ _ _ _ _ => true
  | .ldrh _ _ _ _ _ => true
  | .strh _ _ _ _ _ => true
  | .ldrsb _ _ _ _ _ => true
  | .ldrsh _ _ _ _ _ => true
  | .ldrd _ _ _ _ _ => true
  | .strd _ _ _ _ _ => true
  | .ldm _ _ _ _ _ => true
  | .stm _ _ _ _ _ => true
  | .swp _ _ _ _ => true
  | .swpb _ _ _ _ => true
  | .pld _ _ _ _ => true
  | .mrs _ _ _ => true
  | .msrReg _ _ _ _ => true
  | .msrImm _ _ _ _ => true
  | .swi _ _ => true
  | .udf _ _ _ => true

end Sys2Proof
end

