-- ==== Sys2Proof/Decode.lean ====
section
/-! DEFINITION. The decoder, total on words: the row of spec/opcode_table.json that a word matches (R263), or none; then
the encoder, written from the same tables. -/

namespace Sys2Proof

/-- The immediate operand in bits [11:0] (R482). -/
def immOpOf (w : Word) : ImmOp := { rot := field w 8 4, imm8 := field w 0 8 }

/-- The register operand in bits [11:0] (R482). -/
def shiftOpOf (w : Word) : ShiftOp :=
  { amount := field w 7 5, kind := shiftKindOf (field w 5 2), rm := regOf (field w 0 4) }

/-- P, U and W of a load or store word (R504). -/
def addrModeOf (w : Word) : AddrMode := { p := flag w 24, u := flag w 23, w := flag w 21 }

/-- P, U, N and W of an LDC or STC word (R261). -/
def coprocModeOf (w : Word) : CoprocMode := { p := flag w 24, u := flag w 23, n := flag w 22, w := flag w 21 }

/-- The offset of a halfword, signed or doubleword transfer (R506). -/
def halfOffsetOf (w : Word) : HalfOffset :=
  if flag w 22 then .imm (field w 8 4 ++ field w 0 4) else .reg (field w 8 4) (regOf (field w 0 4))

/-- Rn, bits [19:16]. -/
def rnOf (w : Word) : RegNum := regOf (field w 16 4)

/-- Rd, bits [15:12]. -/
def rdOf (w : Word) : RegNum := regOf (field w 12 4)

/-- Rm, bits [3:0]. -/
def rmOf (w : Word) : RegNum := regOf (field w 0 4)

/-- A data-processing word with an immediate operand (R482 to R501); ADR is ADD or SUB from r15 with S = 0 (R487). The
compare opcodes without S are other instructions. -/
def decodeDpImm (c : Cond) (w : Word) : Option Instr :=
  let s := flag w 20
  let op := immOpOf w
  let k := field w 21 4
  if k = 0#4 then some (.andImm c s (rnOf w) (rdOf w) op)
  else if k = 1#4 then some (.eorImm c s (rnOf w) (rdOf w) op)
  else if k = 2#4 then if notAdr s (rnOf w) then some (.subImm c s (rnOf w) (rdOf w) op) else some (.adrBehind c (rdOf w) op)
  else if k = 3#4 then some (.rsbImm c s (rnOf w) (rdOf w) op)
  else if k = 4#4 then if notAdr s (rnOf w) then some (.addImm c s (rnOf w) (rdOf w) op) else some (.adrAhead c (rdOf w) op)
  else if k = 5#4 then some (.adcImm c s (rnOf w) (rdOf w) op)
  else if k = 6#4 then some (.sbcImm c s (rnOf w) (rdOf w) op)
  else if k = 7#4 then some (.rscImm c s (rnOf w) (rdOf w) op)
  else if k = 8#4 then if s then some (.tstImm c (rnOf w) (field w 12 4) op) else none
  else if k = 9#4 then if s then some (.teqImm c (rnOf w) (field w 12 4) op) else none
  else if k = 10#4 then if s then some (.cmpImm c (rnOf w) (field w 12 4) op) else none
  else if k = 11#4 then if s then some (.cmnImm c (rnOf w) (field w 12 4) op) else none
  else if k = 12#4 then some (.orrImm c s (rnOf w) (rdOf w) op)
  else if k = 13#4 then some (.movImm c s (field w 16 4) (rdOf w) op)
  else if k = 14#4 then some (.bicImm c s (rnOf w) (rdOf w) op)
  else some (.mvnImm c s (field w 16 4) (rdOf w) op)

/-- A data-processing word with a register operand shifted by an immediate (R482 to R501). -/
def decodeDpReg (c : Cond) (w : Word) : Option Instr :=
  let s := flag w 20
  let op := shiftOpOf w
  let k := field w 21 4
  if k = 0#4 then some (.andReg c s (rnOf w) (rdOf w) op)
  else if k = 1#4 then some (.eorReg c s (rnOf w) (rdOf w) op)
  else if k = 2#4 then some (.subReg c s (rnOf w) (rdOf w) op)
  else if k = 3#4 then some (.rsbReg c s (rnOf w) (rdOf w) op)
  else if k = 4#4 then some (.addReg c s (rnOf w) (rdOf w) op)
  else if k = 5#4 then some (.adcReg c s (rnOf w) (rdOf w) op)
  else if k = 6#4 then some (.sbcReg c s (rnOf w) (rdOf w) op)
  else if k = 7#4 then some (.rscReg c s (rnOf w) (rdOf w) op)
  else if k = 8#4 then if s then some (.tstReg c (rnOf w) (field w 12 4) op) else none
  else if k = 9#4 then if s then some (.teqReg c (rnOf w) (field w 12 4) op) else none
  else if k = 10#4 then if s then some (.cmpReg c (rnOf w) (field w 12 4) op) else none
  else if k = 11#4 then if s then some (.cmnReg c (rnOf w) (field w 12 4) op) else none
  else if k = 12#4 then some (.orrReg c s (rnOf w) (rdOf w) op)
  else if k = 13#4 then some (.movReg c s (field w 16 4) (rdOf w) op)
  else if k = 14#4 then some (.bicReg c s (rnOf w) (rdOf w) op)
  else some (.mvnReg c s (field w 16 4) (rdOf w) op)

/-- MSR with an immediate (R510), in the space of the compare opcodes without S. -/
def decodeMsrImm (c : Cond) (w : Word) : Option Instr :=
  if field w 20 2 = 2#2 ∧ field w 12 4 = 15#4 then some (.msrImm c (flag w 22) (field w 16 4) (immOpOf w)) else none

/-- MRS and MSR from a register (R510), in the space of the compare opcodes without S. -/
def decodeStatus (c : Cond) (w : Word) : Option Instr :=
  if field w 20 2 = 0#2 ∧ field w 16 4 = 15#4 ∧ field w 0 12 = 0#12 then some (.mrs c (flag w 22) (rdOf w))
  else if field w 20 2 = 2#2 ∧ field w 12 4 = 15#4 ∧ field w 4 8 = 0#8 then
    some (.msrReg c (flag w 22) (field w 16 4) (rmOf w))
  else none

/-- BX and BLX (R503). -/
def decodeBranchExchange (c : Cond) (w : Word) : Option Instr :=
  if field w 4 24 = 0x12FFF1#24 then some (.bx c (rmOf w))
  else if field w 4 24 = 0x12FFF3#24 then some (.blx c (rmOf w))
  else none

/-- SWP and SWPB (R508). -/
def decodeSwap (c : Cond) (w : Word) : Option Instr :=
  if field w 20 8 = 0x10#8 ∧ field w 4 8 = 0x09#8 then some (.swp c (rnOf w) (rdOf w) (rmOf w))
  else if field w 20 8 = 0x14#8 ∧ field w 4 8 = 0x09#8 then some (.swpb c (rnOf w) (rdOf w) (rmOf w))
  else none

/-- The halfword, signed and doubleword transfers (R506). -/
def decodeHalf (c : Cond) (w : Word) : Option Instr :=
  let a := addrModeOf w
  let off := halfOffsetOf w
  let sh := field w 5 2
  if flag w 20 then
    if sh = 1#2 then some (.ldrh c a (rnOf w) (rdOf w) off)
    else if sh = 2#2 then some (.ldrsb c a (rnOf w) (rdOf w) off)
    else some (.ldrsh c a (rnOf w) (rdOf w) off)
  else
    if sh = 1#2 then some (.strh c a (rnOf w) (rdOf w) off)
    else if sh = 2#2 then some (.ldrd c a (rnOf w) (rdOf w) off)
    else some (.strd c a (rnOf w) (rdOf w) off)

/-- The words with bits [27:25] = 000. -/
def decodeClass0 (c : Cond) (w : Word) : Option Instr :=
  if flag w 4 then
    if flag w 7 then
      if field w 5 2 = 0#2 then decodeSwap c w else decodeHalf c w
    else decodeBranchExchange c w
  else if field w 23 2 = 2#2 ∧ flag w 20 = false then decodeStatus c w
  else decodeDpReg c w

/-- The words with bits [27:25] = 001. -/
def decodeClass1 (c : Cond) (w : Word) : Option Instr :=
  if field w 23 2 = 2#2 ∧ flag w 20 = false then decodeMsrImm c w else decodeDpImm c w

/-- The words with bits [27:25] = 010: a word or byte transfer with an immediate offset (R504). -/
def decodeTransferImm (c : Cond) (w : Word) : Option Instr :=
  let a := addrModeOf w
  let off := field w 0 12
  if flag w 20 then
    if flag w 22 then some (.ldrbImm c a (rnOf w) (rdOf w) off) else some (.ldrImm c a (rnOf w) (rdOf w) off)
  else if flag w 22 then some (.strbImm c a (rnOf w) (rdOf w) off)
  else some (.strImm c a (rnOf w) (rdOf w) off)

/-- The words with bits [27:25] = 011: a word or byte transfer with a register offset (R504), or an undefined word
(R514). -/
def decodeTransferReg (c : Cond) (w : Word) : Option Instr :=
  let a := addrModeOf w
  let op := shiftOpOf w
  if flag w 4 then some (.udf c (field w 5 20) (field w 0 4))
  else if flag w 20 then
    if flag w 22 then some (.ldrbReg c a (rnOf w) (rdOf w) op) else some (.ldrReg c a (rnOf w) (rdOf w) op)
  else if flag w 22 then some (.strbReg c a (rnOf w) (rdOf w) op)
  else some (.strReg c a (rnOf w) (rdOf w) op)

/-- The words with bits [27:25] = 100 (R507). -/
def decodeMultiple (c : Cond) (w : Word) : Option Instr :=
  if flag w 20 then some (.ldm c (addrModeOf w) (flag w 22) (rnOf w) (field w 0 16))
  else some (.stm c (addrModeOf w) (flag w 22) (rnOf w) (field w 0 16))

/-- The words with bits [27:25] = 101 (R502). -/
def decodeBranch (c : Cond) (w : Word) : Option Instr :=
  if flag w 24 then some (.bl c (field w 0 24)) else some (.b c (field w 0 24))

/-- The words with bits [27:25] = 110 (R261): MCRR and MRRC before STC and LDC; coprocessor 15 apart (R258). -/
def decodeCoprocMemory (c : Cond) (w : Word) : Option Instr :=
  let cp := field w 8 4
  let a := coprocModeOf w
  if a.notTwoRegister then
    if cp = 15#4 then
      if flag w 20 then some (.ldcCp15 c a (rnOf w) (field w 12 4) (field w 0 8))
      else some (.stcCp15 c a (rnOf w) (field w 12 4) (field w 0 8))
    else if flag w 20 then some (.ldcExt c a (rnOf w) (field w 12 4) cp (field w 0 8))
    else some (.stcExt c a (rnOf w) (field w 12 4) cp (field w 0 8))
  else if cp = 15#4 then
    if flag w 20 then some (.mrrcCp15 c (rnOf w) (rdOf w) (field w 4 4) (field w 0 4))
    else some (.mcrrCp15 c (rnOf w) (rdOf w) (field w 4 4) (field w 0 4))
  else if flag w 20 then some (.mrrcExt c (rnOf w) (rdOf w) cp (field w 4 4) (field w 0 4))
  else some (.mcrrExt c (rnOf w) (rdOf w) cp (field w 4 4) (field w 0 4))

/-- An MCR or MRC to CP15 that R256 does not define, by the space of R257 it lies in. -/
def decodeCp15Unlisted (c : Cond) (w : Word) : Instr :=
  let op1 := field w 21 3
  let l := flag w 20
  let crn := field w 16 4
  let crm := field w 0 4
  let op2 := field w 5 3
  let rd := rdOf w
  if crn = 0#4 ∧ l = false then .cp15WriteC0 c op1 rd crm op2
  else if crn = 4#4 then .cp15AccessC4 c op1 l rd crm op2
  else if crn = 11#4 then .cp15AccessC11 c op1 l rd crm op2
  else if crn = 12#4 then .cp15AccessC12 c op1 l rd crm op2
  else if crn = 14#4 then .cp15AccessC14 c op1 l rd crm op2
  else if crn = 8#4 ∧ l = true ∧ op1 = 0#3 then .cp15ReadC8 c rd crm op2
  else .cp15Other c op1 l crn rd crm op2

/-- An MCR or MRC word (R252, R256). -/
def decodeTransfer (c : Cond) (w : Word) : Option Instr :=
  if field w 8 4 = 15#4 then
    match cp15Find (field w 16 12) (field w 0 12) with
    | some f => some (f c (rdOf w))
    | none => some (decodeCp15Unlisted c w)
  else if flag w 20 then
    some (.mrcExt c (field w 21 3) (field w 16 4) (rdOf w) (field w 8 4) (field w 5 3) (field w 0 4))
  else some (.mcrExt c (field w 21 3) (field w 16 4) (rdOf w) (field w 8 4) (field w 5 3) (field w 0 4))

/-- The words with bits [27:25] = 111: SWI (R511), MCR and MRC, CDP (R261). -/
def decodeClass7 (c : Cond) (w : Word) : Option Instr :=
  if flag w 24 then some (.swi c (field w 0 24))
  else if flag w 4 then decodeTransfer c w
  else if field w 8 4 = 15#4 then
    some (.cdpCp15 c (field w 20 4) (field w 16 4) (field w 12 4) (field w 5 3) (field w 0 4))
  else some (.cdpExt c (field w 20 4) (field w 16 4) (field w 12 4) (field w 8 4) (field w 5 3) (field w 0 4))

/-- The unconditional space, bits [31:28] = 1111: PLD (R509) and the unconditional coprocessor words (R470). -/
def decodeUnconditional (w : Word) : Option Instr :=
  if field w 26 2 = 3#2 ∧ field w 24 2 ≠ 3#2 then
    some (.coprocUnconditional (field w 24 2) (field w 12 12) (field w 8 4) (field w 0 8))
  else if field w 26 2 = 1#2 ∧ flag w 24 = true ∧ field w 20 3 = 5#3 ∧ field w 12 4 = 15#4 then
    some (.pld (flag w 25) (flag w 23) (rnOf w) (field w 0 12))
  else none

/-- The instruction a word stands for; none where spec/opcode_table.json has no row for it. -/
def decode (w : Word) : Option Instr :=
  match condOf (field w 28 4) with
  | none => decodeUnconditional w
  | some c =>
    let k := field w 25 3
    if k = 0#3 then decodeClass0 c w
    else if k = 1#3 then decodeClass1 c w
    else if k = 2#3 then decodeTransferImm c w
    else if k = 3#3 then decodeTransferReg c w
    else if k = 4#3 then decodeMultiple c w
    else if k = 5#3 then decodeBranch c w
    else if k = 6#3 then decodeCoprocMemory c w
    else decodeClass7 c w

/-- The decoder on the table's numbering of bits: an ARM word is its own four bytes, bit 0 the least significant. An
instruction is one word, so nbits is at most 32. -/
def decodeTableWord (_nbits w : Nat) : Option Instr := decode (BitVec.ofNat 32 w)

/-- The register operand as bits [11:0], bit 4 zero (R482). -/
def ShiftOp.bits (op : ShiftOp) : BitVec 12 := op.amount ++ op.kind.bits ++ 0#1 ++ regBits op.rm

/-- The immediate operand as bits [11:0] (R482). -/
def ImmOp.bits (op : ImmOp) : BitVec 12 := op.rot ++ op.imm8

/-- A word with a condition, Rn, Rd and twelve low bits, and bits [27:20] given. -/
def encodeStandard (c : Cond) (hi : BitVec 8) (rn rd : BitVec 4) (lo : BitVec 12) : Word :=
  c.bits ++ hi ++ rn ++ rd ++ lo

/-- Bits [27:20] of a data-processing word (R482). -/
def dpHi (i : Bool) (opcode : BitVec 4) (s : Bool) : BitVec 8 :=
  0#2 ++ BitVec.ofBool i ++ opcode ++ BitVec.ofBool s

/-- Bits [27:20] of a word or byte transfer (R504). -/
def transferHi8 (i : Bool) (a : AddrMode) (b l : Bool) : BitVec 8 :=
  1#2 ++ BitVec.ofBool i ++ BitVec.ofBool a.p ++ BitVec.ofBool a.u ++ BitVec.ofBool b ++ BitVec.ofBool a.w ++
    BitVec.ofBool l

/-- Whether the offset is an immediate: bit 22 (R506). -/
def HalfOffset.isImm : HalfOffset → Bool
  | .imm _ => true
  | .reg _ _ => false

/-- Bits [11:8] of a halfword transfer (R506). -/
def HalfOffset.hiBits : HalfOffset → BitVec 4
  | .imm v => v.extractLsb' 4 4
  | .reg sbz _ => sbz

/-- Bits [3:0] of a halfword transfer (R506). -/
def HalfOffset.loBits : HalfOffset → BitVec 4
  | .imm v => v.extractLsb' 0 4
  | .reg _ rm => regBits rm

/-- A halfword, signed or doubleword transfer (R506). -/
def encodeHalf (c : Cond) (a : AddrMode) (l : Bool) (sh : BitVec 2) (rn rd : RegNum) (off : HalfOffset) : Word :=
  encodeStandard c
    (0#3 ++ BitVec.ofBool a.p ++ BitVec.ofBool a.u ++ BitVec.ofBool off.isImm ++ BitVec.ofBool a.w ++ BitVec.ofBool l)
    (regBits rn) (regBits rd) (off.hiBits ++ 1#1 ++ sh ++ 1#1 ++ off.loBits)

/-- A load or store multiple (R507). -/
def encodeMultiple (c : Cond) (a : AddrMode) (caret l : Bool) (rn : RegNum) (list : BitVec 16) : Word :=
  c.bits ++ 4#3 ++ BitVec.ofBool a.p ++ BitVec.ofBool a.u ++ BitVec.ofBool caret ++ BitVec.ofBool a.w ++
    BitVec.ofBool l ++ regBits rn ++ list

/-- A word of 24 low bits under bits [27:24]. -/
def encodeLow24 (c : Cond) (hi : BitVec 4) (low : BitVec 24) : Word := c.bits ++ hi ++ low

/-- A CP15 access of R256, by bits [27:16] and [11:0]. -/
def encodeCp15 (c : Cond) (rd : RegNum) (hi lo : BitVec 12) : Word := c.bits ++ hi ++ regBits rd ++ lo

/-- An MCR or MRC (R252). -/
def encodeTransfer (c : Cond) (op1 : BitVec 3) (l : Bool) (crn : BitVec 4) (rd : RegNum) (cp : BitVec 4)
    (op2 : BitVec 3) (crm : BitVec 4) : Word :=
  encodeCp15 c rd (transferHi op1 l crn) (transferLo cp op2 crm)

/-- A CDP (R261). -/
def encodeCdp (c : Cond) (op1 crn crd cp : BitVec 4) (op2 : BitVec 3) (crm : BitVec 4) : Word :=
  encodeStandard c (14#4 ++ op1) crn crd (cp ++ op2 ++ 0#1 ++ crm)

/-- An LDC (l) or STC (R261). -/
def encodeCoprocMemory (c : Cond) (a : CoprocMode) (l : Bool) (rn : RegNum) (crd cp : BitVec 4) (imm8 : BitVec 8) :
    Word :=
  encodeStandard c
    (6#3 ++ BitVec.ofBool a.p ++ BitVec.ofBool a.u ++ BitVec.ofBool a.n ++ BitVec.ofBool a.w ++ BitVec.ofBool l)
    (regBits rn) crd (cp ++ imm8)

/-- An MRRC (l) or MCRR (R261). -/
def encodeTwoRegister (c : Cond) (l : Bool) (rn rd : RegNum) (cp op crm : BitVec 4) : Word :=
  encodeStandard c (98#7 ++ BitVec.ofBool l) (regBits rn) (regBits rd) (cp ++ op ++ crm)

/-- The word of an instruction. -/
def encode : Instr → Word
  | .mrcId c rd => encodeCp15 c rd 0xE10#12 0xF10#12
  | .mrcCacheType c rd => encodeCp15 c rd 0xE10#12 0xF30#12
  | .mrcTcmStatus c rd => encodeCp15 c rd 0xE10#12 0xF50#12
  | .mrcIdAlias3 c rd => encodeCp15 c rd 0xE10#12 0xF70#12
  | .mrcIdAlias4 c rd => encodeCp15 c rd 0xE10#12 0xF90#12
  | .mrcIdAlias5 c rd => encodeCp15 c rd 0xE10#12 0xFB0#12
  | .mrcIdAlias6 c rd => encodeCp15 c rd 0xE10#12 0xFD0#12
  | .mrcIdAlias7 c rd => encodeCp15 c rd 0xE10#12 0xFF0#12
  | .mrcControl c rd => encodeCp15 c rd 0xE11#12 0xF10#12
  | .mcrControl c rd => encodeCp15 c rd 0xE01#12 0xF10#12
  | .mrcTtbr c rd => encodeCp15 c rd 0xE12#12 0xF10#12
  | .mcrTtbr c rd => encodeCp15 c rd 0xE02#12 0xF10#12
  | .mrcDacr c rd => encodeCp15 c rd 0xE13#12 0xF10#12
  | .mcrDacr c rd => encodeCp15 c rd 0xE03#12 0xF10#12
  | .mrcDfsr c rd => encodeCp15 c rd 0xE15#12 0xF10#12
  | .mcrDfsr c rd => encodeCp15 c rd 0xE05#12 0xF10#12
  | .mrcIfsr c rd => encodeCp15 c rd 0xE15#12 0xF30#12
  | .mcrIfsr c rd => encodeCp15 c rd 0xE05#12 0xF30#12
  | .mrcFar c rd => encodeCp15 c rd 0xE16#12 0xF10#12
  | .mcrFar c rd => encodeCp15 c rd 0xE06#12 0xF10#12
  | .mcrWaitForInterrupt c rd => encodeCp15 c rd 0xE07#12 0xF90#12
  | .mcrInvalidateICache c rd => encodeCp15 c rd 0xE07#12 0xF15#12
  | .mcrInvalidateICacheMva c rd => encodeCp15 c rd 0xE07#12 0xF35#12
  | .mcrInvalidateICacheSetWay c rd => encodeCp15 c rd 0xE07#12 0xF55#12
  | .mcrInvalidateDCache c rd => encodeCp15 c rd 0xE07#12 0xF16#12
  | .mcrInvalidateDCacheMva c rd => encodeCp15 c rd 0xE07#12 0xF36#12
  | .mcrInvalidateDCacheSetWay c rd => encodeCp15 c rd 0xE07#12 0xF56#12
  | .mcrInvalidateCaches c rd => encodeCp15 c rd 0xE07#12 0xF17#12
  | .mcrCleanDCacheMva c rd => encodeCp15 c rd 0xE07#12 0xF3A#12
  | .mcrCleanDCacheSetWay c rd => encodeCp15 c rd 0xE07#12 0xF5A#12
  | .mcrDrainWriteBuffer c rd => encodeCp15 c rd 0xE07#12 0xF9A#12
  | .mcrPrefetchICacheLine c rd => encodeCp15 c rd 0xE07#12 0xF3D#12
  | .mcrCleanInvalidateDCacheMva c rd => encodeCp15 c rd 0xE07#12 0xF3E#12
  | .mcrCleanInvalidateDCacheSetWay c rd => encodeCp15 c rd 0xE07#12 0xF5E#12
  | .mrcTestClean c rd => encodeCp15 c rd 0xE17#12 0xF7A#12
  | .mrcTestCleanInvalidate c rd => encodeCp15 c rd 0xE17#12 0xF7E#12
  | .mcrInvalidateTlb c rd => encodeCp15 c rd 0xE08#12 0xF17#12
  | .mcrInvalidateTlbEntry c rd => encodeCp15 c rd 0xE08#12 0xF37#12
  | .mcrInvalidateITlb c rd => encodeCp15 c rd 0xE08#12 0xF15#12
  | .mcrInvalidateITlbEntry c rd => encodeCp15 c rd 0xE08#12 0xF35#12
  | .mcrInvalidateDTlb c rd => encodeCp15 c rd 0xE08#12 0xF16#12
  | .mcrInvalidateDTlbEntry c rd => encodeCp15 c rd 0xE08#12 0xF36#12
  | .mrcDCacheLockdown c rd => encodeCp15 c rd 0xE19#12 0xF10#12
  | .mcrDCacheLockdown c rd => encodeCp15 c rd 0xE09#12 0xF10#12
  | .mrcICacheLockdown c rd => encodeCp15 c rd 0xE19#12 0xF30#12
  | .mcrICacheLockdown c rd => encodeCp15 c rd 0xE09#12 0xF30#12
  | .mrcDTcmRegion c rd => encodeCp15 c rd 0xE19#12 0xF11#12
  | .mcrDTcmRegion c rd => encodeCp15 c rd 0xE09#12 0xF11#12
  | .mrcITcmRegion c rd => encodeCp15 c rd 0xE19#12 0xF31#12
  | .mcrITcmRegion c rd => encodeCp15 c rd 0xE09#12 0xF31#12
  | .mrcTlbLockdown c rd => encodeCp15 c rd 0xE1A#12 0xF10#12
  | .mcrTlbLockdown c rd => encodeCp15 c rd 0xE0A#12 0xF10#12
  | .mrcFcsePid c rd => encodeCp15 c rd 0xE1D#12 0xF10#12
  | .mcrFcsePid c rd => encodeCp15 c rd 0xE0D#12 0xF10#12
  | .mrcContextId c rd => encodeCp15 c rd 0xE1D#12 0xF30#12
  | .mcrContextId c rd => encodeCp15 c rd 0xE0D#12 0xF30#12
  | .mrcDebugOverride c rd => encodeCp15 c rd 0xE1F#12 0xF10#12
  | .mcrDebugOverride c rd => encodeCp15 c rd 0xE0F#12 0xF10#12
  | .mrcDebugTestAddress c rd => encodeCp15 c rd 0xE1F#12 0xF11#12
  | .mcrDebugTestAddress c rd => encodeCp15 c rd 0xE0F#12 0xF11#12
  | .mrcMemoryRegionRemap c rd => encodeCp15 c rd 0xE1F#12 0xF12#12
  | .mcrMemoryRegionRemap c rd => encodeCp15 c rd 0xE0F#12 0xF12#12
  | .mrcTraceControl c rd => encodeCp15 c rd 0xE3F#12 0xF11#12
  | .mcrTraceControl c rd => encodeCp15 c rd 0xE2F#12 0xF11#12
  | .mrcMainTlbTag4 c rd => encodeCp15 c rd 0xE9F#12 0xF12#12
  | .mcrMainTlbTag4 c rd => encodeCp15 c rd 0xE8F#12 0xF13#12
  | .mrcMainTlbPa4 c rd => encodeCp15 c rd 0xE9F#12 0xF14#12
  | .mcrMainTlbPa4 c rd => encodeCp15 c rd 0xE8F#12 0xF15#12
  | .mcrMainTlbTransfer4 c rd => encodeCp15 c rd 0xE8F#12 0xF17#12
  | .mrcLockTlbTag4 c rd => encodeCp15 c rd 0xE9F#12 0xF32#12
  | .mcrLockTlbTag4 c rd => encodeCp15 c rd 0xE8F#12 0xF33#12
  | .mrcLockTlbPa4 c rd => encodeCp15 c rd 0xE9F#12 0xF34#12
  | .mcrLockTlbPa4 c rd => encodeCp15 c rd 0xE8F#12 0xF35#12
  | .mcrLockTlbTransfer4 c rd => encodeCp15 c rd 0xE8F#12 0xF37#12
  | .mrcMainTlbTag5 c rd => encodeCp15 c rd 0xEBF#12 0xF12#12
  | .mcrMainTlbTag5 c rd => encodeCp15 c rd 0xEAF#12 0xF13#12
  | .mrcMainTlbPa5 c rd => encodeCp15 c rd 0xEBF#12 0xF14#12
  | .mcrMainTlbPa5 c rd => encodeCp15 c rd 0xEAF#12 0xF15#12
  | .mcrMainTlbTransfer5 c rd => encodeCp15 c rd 0xEAF#12 0xF17#12
  | .mrcLockTlbTag5 c rd => encodeCp15 c rd 0xEBF#12 0xF32#12
  | .mcrLockTlbTag5 c rd => encodeCp15 c rd 0xEAF#12 0xF33#12
  | .mrcLockTlbPa5 c rd => encodeCp15 c rd 0xEBF#12 0xF34#12
  | .mcrLockTlbPa5 c rd => encodeCp15 c rd 0xEAF#12 0xF35#12
  | .mcrLockTlbTransfer5 c rd => encodeCp15 c rd 0xEAF#12 0xF37#12
  | .mrcCacheDebugControl c rd => encodeCp15 c rd 0xEFF#12 0xF10#12
  | .mcrCacheDebugControl c rd => encodeCp15 c rd 0xEEF#12 0xF10#12
  | .mrcMmuDebugControl c rd => encodeCp15 c rd 0xEFF#12 0xF11#12
  | .mcrMmuDebugControl c rd => encodeCp15 c rd 0xEEF#12 0xF11#12
  | .cp15WriteC0 c op1 rd crm op2 => encodeTransfer c op1 false 0#4 rd 15#4 op2 crm
  | .cp15AccessC4 c op1 l rd crm op2 => encodeTransfer c op1 l 4#4 rd 15#4 op2 crm
  | .cp15AccessC11 c op1 l rd crm op2 => encodeTransfer c op1 l 11#4 rd 15#4 op2 crm
  | .cp15AccessC12 c op1 l rd crm op2 => encodeTransfer c op1 l 12#4 rd 15#4 op2 crm
  | .cp15AccessC14 c op1 l rd crm op2 => encodeTransfer c op1 l 14#4 rd 15#4 op2 crm
  | .cp15ReadC8 c rd crm op2 => encodeTransfer c 0#3 true 8#4 rd 15#4 op2 crm
  | .cp15Other c op1 l crn rd crm op2 => encodeTransfer c op1 l crn rd 15#4 op2 crm
  | .cdpCp15 c op1 crn crd op2 crm => encodeCdp c op1 crn crd 15#4 op2 crm
  | .mcrrCp15 c rn rd op crm => encodeTwoRegister c false rn rd 15#4 op crm
  | .mrrcCp15 c rn rd op crm => encodeTwoRegister c true rn rd 15#4 op crm
  | .ldcCp15 c a rn crd imm8 => encodeCoprocMemory c a true rn crd 15#4 imm8
  | .stcCp15 c a rn crd imm8 => encodeCoprocMemory c a false rn crd 15#4 imm8
  | .mcrrExt c rn rd cp op crm => encodeTwoRegister c false rn rd cp op crm
  | .mrrcExt c rn rd cp op crm => encodeTwoRegister c true rn rd cp op crm
  | .cdpExt c op1 crn crd cp op2 crm => encodeCdp c op1 crn crd cp op2 crm
  | .mcrExt c op1 crn rd cp op2 crm => encodeTransfer c op1 false crn rd cp op2 crm
  | .mrcExt c op1 crn rd cp op2 crm => encodeTransfer c op1 true crn rd cp op2 crm
  | .ldcExt c a rn crd cp imm8 => encodeCoprocMemory c a true rn crd cp imm8
  | .stcExt c a rn crd cp imm8 => encodeCoprocMemory c a false rn crd cp imm8
  | .coprocUnconditional top mid cp low => 63#6 ++ top ++ mid ++ cp ++ low
  | .andImm c s rn rd op => encodeStandard c (dpHi true 0#4 s) (regBits rn) (regBits rd) op.bits
  | .andReg c s rn rd op => encodeStandard c (dpHi false 0#4 s) (regBits rn) (regBits rd) op.bits
  | .eorImm c s rn rd op => encodeStandard c (dpHi true 1#4 s) (regBits rn) (regBits rd) op.bits
  | .eorReg c s rn rd op => encodeStandard c (dpHi false 1#4 s) (regBits rn) (regBits rd) op.bits
  | .subImm c s rn rd op => encodeStandard c (dpHi true 2#4 s) (regBits rn) (regBits rd) op.bits
  | .subReg c s rn rd op => encodeStandard c (dpHi false 2#4 s) (regBits rn) (regBits rd) op.bits
  | .rsbImm c s rn rd op => encodeStandard c (dpHi true 3#4 s) (regBits rn) (regBits rd) op.bits
  | .rsbReg c s rn rd op => encodeStandard c (dpHi false 3#4 s) (regBits rn) (regBits rd) op.bits
  | .addImm c s rn rd op => encodeStandard c (dpHi true 4#4 s) (regBits rn) (regBits rd) op.bits
  | .addReg c s rn rd op => encodeStandard c (dpHi false 4#4 s) (regBits rn) (regBits rd) op.bits
  | .adcImm c s rn rd op => encodeStandard c (dpHi true 5#4 s) (regBits rn) (regBits rd) op.bits
  | .adcReg c s rn rd op => encodeStandard c (dpHi false 5#4 s) (regBits rn) (regBits rd) op.bits
  | .sbcImm c s rn rd op => encodeStandard c (dpHi true 6#4 s) (regBits rn) (regBits rd) op.bits
  | .sbcReg c s rn rd op => encodeStandard c (dpHi false 6#4 s) (regBits rn) (regBits rd) op.bits
  | .rscImm c s rn rd op => encodeStandard c (dpHi true 7#4 s) (regBits rn) (regBits rd) op.bits
  | .rscReg c s rn rd op => encodeStandard c (dpHi false 7#4 s) (regBits rn) (regBits rd) op.bits
  | .tstImm c rn sbz op => encodeStandard c (dpHi true 8#4 true) (regBits rn) sbz op.bits
  | .tstReg c rn sbz op => encodeStandard c (dpHi false 8#4 true) (regBits rn) sbz op.bits
  | .teqImm c rn sbz op => encodeStandard c (dpHi true 9#4 true) (regBits rn) sbz op.bits
  | .teqReg c rn sbz op => encodeStandard c (dpHi false 9#4 true) (regBits rn) sbz op.bits
  | .cmpImm c rn sbz op => encodeStandard c (dpHi true 10#4 true) (regBits rn) sbz op.bits
  | .cmpReg c rn sbz op => encodeStandard c (dpHi false 10#4 true) (regBits rn) sbz op.bits
  | .cmnImm c rn sbz op => encodeStandard c (dpHi true 11#4 true) (regBits rn) sbz op.bits
  | .cmnReg c rn sbz op => encodeStandard c (dpHi false 11#4 true) (regBits rn) sbz op.bits
  | .orrImm c s rn rd op => encodeStandard c (dpHi true 12#4 s) (regBits rn) (regBits rd) op.bits
  | .orrReg c s rn rd op => encodeStandard c (dpHi false 12#4 s) (regBits rn) (regBits rd) op.bits
  | .movImm c s sbz rd op => encodeStandard c (dpHi true 13#4 s) sbz (regBits rd) op.bits
  | .movReg c s sbz rd op => encodeStandard c (dpHi false 13#4 s) sbz (regBits rd) op.bits
  | .bicImm c s rn rd op => encodeStandard c (dpHi true 14#4 s) (regBits rn) (regBits rd) op.bits
  | .bicReg c s rn rd op => encodeStandard c (dpHi false 14#4 s) (regBits rn) (regBits rd) op.bits
  | .mvnImm c s sbz rd op => encodeStandard c (dpHi true 15#4 s) sbz (regBits rd) op.bits
  | .mvnReg c s sbz rd op => encodeStandard c (dpHi false 15#4 s) sbz (regBits rd) op.bits
  | .adrAhead c rd op => encodeStandard c 0x28#8 15#4 (regBits rd) op.bits
  | .adrBehind c rd op => encodeStandard c 0x24#8 15#4 (regBits rd) op.bits
  | .b c imm24 => encodeLow24 c 10#4 imm24
  | .bl c imm24 => encodeLow24 c 11#4 imm24
  | .bx c rm => c.bits ++ 0x12FFF1#24 ++ regBits rm
  | .blx c rm => c.bits ++ 0x12FFF3#24 ++ regBits rm
  | .ldrImm c a rn rd off => encodeStandard c (transferHi8 false a false true) (regBits rn) (regBits rd) off
  | .ldrReg c a rn rd op => encodeStandard c (transferHi8 true a false true) (regBits rn) (regBits rd) op.bits
  | .strImm c a rn rd off => encodeStandard c (transferHi8 false a false false) (regBits rn) (regBits rd) off
  | .strReg c a rn rd op => encodeStandard c (transferHi8 true a false false) (regBits rn) (regBits rd) op.bits
  | .ldrbImm c a rn rd off => encodeStandard c (transferHi8 false a true true) (regBits rn) (regBits rd) off
  | .ldrbReg c a rn rd op => encodeStandard c (transferHi8 true a true true) (regBits rn) (regBits rd) op.bits
  | .strbImm c a rn rd off => encodeStandard c (transferHi8 false a true false) (regBits rn) (regBits rd) off
  | .strbReg c a rn rd op => encodeStandard c (transferHi8 true a true false) (regBits rn) (regBits rd) op.bits
  | .ldrh c a rn rd off => encodeHalf c a true 1#2 rn rd off
  | .strh c a rn rd off => encodeHalf c a false 1#2 rn rd off
  | .ldrsb c a rn rd off => encodeHalf c a true 2#2 rn rd off
  | .ldrsh c a rn rd off => encodeHalf c a true 3#2 rn rd off
  | .ldrd c a rn rd off => encodeHalf c a false 2#2 rn rd off
  | .strd c a rn rd off => encodeHalf c a false 3#2 rn rd off
  | .ldm c a caret rn list => encodeMultiple c a caret true rn list
  | .stm c a caret rn list => encodeMultiple c a caret false rn list
  | .swp c rn rd rm => encodeStandard c 0x10#8 (regBits rn) (regBits rd) (0x09#8 ++ regBits rm)
  | .swpb c rn rd rm => encodeStandard c 0x14#8 (regBits rn) (regBits rd) (0x09#8 ++ regBits rm)
  | .pld i u rn off => 61#6 ++ BitVec.ofBool i ++ 1#1 ++ BitVec.ofBool u ++ 5#3 ++ regBits rn ++ 15#4 ++ off
  | .mrs c r rd => encodeStandard c (2#5 ++ BitVec.ofBool r ++ 0#2) 15#4 (regBits rd) 0#12
  | .msrReg c r mask rm => encodeStandard c (2#5 ++ BitVec.ofBool r ++ 2#2) mask 15#4 (0#8 ++ regBits rm)
  | .msrImm c r mask op => encodeStandard c (6#5 ++ BitVec.ofBool r ++ 2#2) mask 15#4 op.bits
  | .swi c imm24 => encodeLow24 c 15#4 imm24
  | .udf c hi lo => c.bits ++ 3#3 ++ hi ++ 1#1 ++ lo

end Sys2Proof
end

