-- ==== Sys2Proof/Config.lean ====
section
/-! DEFINITION. What whoever builds the system fixes (spec/00_scope.md R10, spec/92_eei_decisions.md Part 2),
and the values the spec leaves free, as constants without a body. -/

namespace Sys2Proof

/-- The legal cache sizes (R10). -/
inductive CacheSize
  | kb4 | kb8 | kb16 | kb32 | kb64 | kb128
deriving DecidableEq, Repr

/-- The Size code of the Cache Type Register (R31). -/
def CacheSize.code : CacheSize → BitVec 4
  | .kb4 => 3#4
  | .kb8 => 4#4
  | .kb16 => 5#4
  | .kb32 => 6#4
  | .kb64 => 7#4
  | .kb128 => 8#4

/-- S, the base-two logarithm of the number of sets (R11). -/
def CacheSize.setBits : CacheSize → Nat
  | .kb4 => 5
  | .kb8 => 6
  | .kb16 => 7
  | .kb32 => 8
  | .kb64 => 9
  | .kb128 => 10

/-- The legal sizes of a tightly coupled memory; the reserved codes are no constructor (R10, R150). -/
inductive TcmSize
  | absent | kb4 | kb8 | kb16 | kb32 | kb64 | kb128 | kb256 | kb512 | mb1
deriving DecidableEq, Repr

/-- The Size code on IRSIZE or DRSIZE (R10). -/
def TcmSize.code : TcmSize → BitVec 4
  | .absent => 0#4
  | .kb4 => 3#4
  | .kb8 => 4#4
  | .kb16 => 5#4
  | .kb32 => 6#4
  | .kb64 => 7#4
  | .kb128 => 8#4
  | .kb256 => 9#4
  | .kb512 => 10#4
  | .mb1 => 11#4

/-- The base-two logarithm of the size in bytes; none when no TCM is fitted (R10, R392). -/
def TcmSize.log2 : TcmSize → Option Nat
  | .absent => none
  | .kb4 => some 12
  | .kb8 => some 13
  | .kb16 => some 14
  | .kb32 => some 15
  | .kb64 => some 16
  | .kb128 => some 17
  | .kb256 => some 18
  | .kb512 => some 19
  | .mb1 => some 20

/-- The TCM Status word of the standard layout: bit 16 data TCM present, bit 0 instruction TCM present.
PRESUMED (R32 marks it general knowledge): assumption 49. Unsafe. -/
def standardTcmStatus (itcm dtcm : TcmSize) : Word :=
  (if dtcm = .absent then 0#32 else 0x10000#32) ||| (if itcm = .absent then 0#32 else 1#32)

/-- The parameters of one system. -/
structure Config where
  icacheSize : CacheSize
  dcacheSize : CacheSize
  itcmSize : TcmSize
  dtcmSize : TcmSize
  /-- The pin VINITHI, sampled at reset. -/
  vinithi : Bool
  /-- The pin BIGENDINIT, sampled at reset. -/
  bigendinit : Bool
  /-- The pin INITRAM, sampled at reset. -/
  initram : Bool
  /-- The layout revision, 0 to 5 (R30). -/
  revision : Fin 6
  /-- TCMSTATUS_VALUE (R32); what a read gives is constrained by Config.tcmStatusValue. -/
  tcmStatus : Word
  /-- The external coprocessors fitted, numbers 0 to 13 (D26). -/
  coprocessors : List (Fin 14)
  /-- The pin CPEN: the external coprocessor interface is enabled (R452). -/
  cpen : Bool
  /-- The pin DBGEN (R570). -/
  dbgen : Bool
  /-- The pin ETMEN (R572). -/
  etmen : Bool
  /-- The physical regions (base, size) whose slave answers ERROR (R165). -/
  errorRegions : List (Nat × Nat)
  /-- The pins TAPID: the JTAG identity (R10). -/
  tapId : Word
deriving DecidableEq, Repr

/-- What the TCM Status Register reads as (R32): the parameter, held to be nonzero just when a TCM is attached; where the
parameter is zero in spite of a TCM, the standard layout (assumption 49). -/
def Config.tcmStatusValue (cfg : Config) : Word :=
  if cfg.itcmSize = .absent ∧ cfg.dtcmSize = .absent then 0#32
  else if cfg.tcmStatus = 0#32 then standardTcmStatus cfg.itcmSize cfg.dtcmSize
  else cfg.tcmStatus

/-- The default parameters of spec/92_eei_decisions.md Part 2 (assumption 7). -/
def Config.default : Config where
  icacheSize := .kb16
  dcacheSize := .kb16
  itcmSize := .absent
  dtcmSize := .absent
  vinithi := false
  bigendinit := false
  initram := false
  revision := 5
  tcmStatus := standardTcmStatus .absent .absent
  coprocessors := []
  cpen := false
  dbgen := false
  etmen := false
  errorRegions := []
  tapId := 0x07926F0F#32

/-- The free-value stream: `draw n` is the n-th value the environment chooses (R13, `draw`). It has no body:
nothing can be proved of its values. DESIGN CHOICE (assumption 5). Safe. -/
opaque Config.draw : Nat → BitVec 32

/-- The contents of TLB entry n (0 to 63 main, 64 to 71 lockdown) at reset, which the spec leaves unknown
(D10, assumption 6). Safe. -/
opaque Config.tlbAtReset : Nat → BitVec 57

/-- Whether a stored r15 is the instruction's address plus 12 rather than plus 8: implementation-defined
(R504, assumption 43). Safe. -/
opaque Config.storedPcIsPlus12 : Bool

end Sys2Proof
end

