-- ==== Sys2Proof/Machine/State.lean ====
section
/-! DEFINITION. The state of the machine as plain data (spec/10_state.md), the reasons a step can stop, and the state after
reset (R71). -/

namespace Sys2Proof.Machine

/-- The reasons the machine stops with a fault. -/
inductive Fault
  /-- Raised by MSR and by an exception return that would put into CPSR[4:0] a value that names no mode: R23 calls it
  Unpredictable. Safe: the model stops where the hardware goes on. -/
  | illegalMode
deriving DecidableEq, Repr

/-- The reasons the model refuses a step. -/
inductive Refusal
  /-- Raised by an arm of exec whose instruction has no meaning yet. Safe. -/
  | notModelled (mnemonic : String)
  /-- Raised by a privileged MRC or MCR to CP15 that R256 does not define (R257, D1). Safe. -/
  | unpredictableCp15
  /-- Raised by a coprocessor word with condition b1111 addressed to CP15 (D2). Safe. -/
  | cp15Unconditional
  /-- Raised by a coprocessor instruction for coprocessor 14, the debug communications channel the spec does not describe
  (D26). Safe. -/
  | debugCommsChannel
  /-- Raised by the step on a word that no row of the opcode table matches (R514, D30). Safe. -/
  | unspecifiedWord
  /-- Raised by the step in Thumb state, whose instruction set the spec does not give (R500, R517). Safe. -/
  | thumbState
  /-- Raised by the step in Jazelle state (R517). Safe. -/
  | jazelleState
  /-- Raised by a misaligned halfword, doubleword or swap access with alignment checking off (R111, U55). Safe. -/
  | unpredictableAlignment
  /-- Raised by a post-indexed halfword, signed or doubleword transfer with W = 1, a form the spec does not define
  (R506). Safe. -/
  | unpredictableAddressing
  /-- Raised by an exception return in User or System mode (R483). Safe. -/
  | unpredictableReturn
  /-- Raised by MSR to the SPSR in User or System mode, which have none (R24, R510). Safe. -/
  | unpredictableSpsrWrite
  /-- Raised by LDRD or STRD with an odd Rd (R506). Safe. -/
  | unpredictableRegisterPair
  /-- Raised by a table walk over a descriptor whose should-be-zero or must-be-one bits are wrong (R199, D22). Safe. -/
  | unpredictableDescriptor
  /-- Raised by a table walk that finds a tiny page in a coarse table (R201, U46). Safe. -/
  | tinyInCoarse
  /-- Raised by an access that matches several differing TLB entries (R191, D20). Safe. -/
  | tlbMultipleMatch
  /-- Raised by an access checked against AP = 00 with S = R = 1 (R215, U40). Safe. -/
  | unpredictableAp
  /-- Raised by the MCR that makes the two enabled TCM regions overlap (R150, U41). Safe. -/
  | tcmOverlap
  /-- Raised by an MCR that writes a 1 to a should-be-zero bit, a 0 to a should-be-one bit, or to a should-be-zero-or-preserved
  field neither zero nor the value last read from it, a value read from it for the Control Register (D3, U39; R15, R260, R282,
  R291, R336). Safe. -/
  | reservedBits
  /-- Raised by the step when DMA writes the instruction TCM while the core executes from it or has writes to it pending
  (R157, U49). Safe. -/
  | itcmDma
  /-- Raised by a CP15 operation on a RAM that is powered down, and by an access that needs it (R585, U52). Safe. -/
  | ramPoweredDown
  /-- Raised by the step when execution runs off the top of the address space (R21, U57). Safe. -/
  | runsOffTop
  /-- Raised by the step when an enabled debug event (EDBGRQ, DBGIEBKPT, DBGDEWPT, a BKPT) would enter debug state, which the
  spec does not describe (R537, R570). Safe. -/
  | debugState
deriving DecidableEq, Repr

/-- The sources of an abort, in the order of R540. -/
inductive FaultStatus
  | alignment | externalWalk1 | externalWalk2 | translationSection | translationPage | domainSection | domainPage
  | permissionSection | permissionPage | external | forcedMiss
deriving DecidableEq, Repr

/-- What the memory system reports of an abort: the MVA, the source, and the domain where it is valid (R540). -/
structure AbortInfo where
  mva : Word
  status : FaultStatus
  domain : Option (BitVec 4)
deriving DecidableEq, Repr

/-- The core's own registers (R20 to R24). Physical register n: 0 to 14 are r0 to r14 of User and System; 15 to 19
r8_fiq to r12_fiq; 20 and 21 r13 and r14 of FIQ, 22 and 23 of IRQ, 24 and 25 of Supervisor, 26 and 27 of Abort, 28 and
29 of Undefined. Saved status registers: 0 FIQ, 1 IRQ, 2 Supervisor, 3 Abort, 4 Undefined. -/
structure Cpu where
  regs : Vector Word 30
  pc : Word
  cpsr : Word
  spsr : Vector Word 5
deriving DecidableEq, Repr

/-- The stored bits of the Control Register (R33). -/
structure Control where
  m : Bool
  a : Bool
  c : Bool
  b : Bool
  s : Bool
  r : Bool
  i : Bool
  v : Bool
  rr : Bool
  l4 : Bool
deriving DecidableEq, Repr

/-- The stored bits of a TCM Region Register (R41). -/
structure TcmRegion where
  base : BitVec 20
  enable : Bool
deriving DecidableEq, Repr

/-- The CP15 registers (R33 to R52); the TLB Lockdown Register stands in MemSys. -/
structure Cp15 where
  ctrl : Control
  ttbr : BitVec 18
  dacr : Word
  dfsr : BitVec 8
  ifsr : BitVec 8
  far : Word
  dlock : BitVec 4
  ilock : BitVec 4
  dtcm : TcmRegion
  itcm : TcmRegion
  fcsePid : BitVec 7
  contextId : Word
  /-- Bits [19:13] of the Debug Override Register (R46). -/
  dbgovr : BitVec 7
  dtaddr : Word
  /-- Bits [2:1] of the Trace Control Register (R48). -/
  tracectl : BitVec 2
  tlbTagMain : Word
  tlbPaMain : Word
  tlbTagLock : Word
  tlbPaLock : Word
  /-- DWB, DIL, DDL (R50). -/
  cachedbg : BitVec 3
  mmudbg : BitVec 8
  remap : BitVec 16
deriving DecidableEq, Repr

/-- One TLB entry, in the fields of the c15 formats (R49, R55). -/
structure TlbEntry where
  valid : Bool
  /-- MVA bits [31:10]. -/
  tag : BitVec 22
  /-- The size code of R49. -/
  size : BitVec 4
  /-- PA bits [31:10]. -/
  pa : BitVec 22
  domain : BitVec 4
  ap : BitVec 2
  c : Bool
  b : Bool
deriving DecidableEq, Repr

/-- A translation fault the TLB may still hold (R227), for the block that the descriptor maps: a 1MB section, the 4KB of an entry of
a coarse table, the 1KB of one of a fine table. -/
structure CachedFault where
  /-- MVA bits [31:10]. -/
  tag : BitVec 22
  /-- The base-two logarithm of the block. -/
  bits : Nat
  /-- none: a section translation fault; some d: a page translation fault in domain d. -/
  domain : Option (BitVec 4)
deriving DecidableEq, Repr

/-- A write waiting in a buffer: the word it goes to, the byte lanes it drives, the data on the lanes (R59, R108). -/
structure PendingWrite where
  /-- Address bits [31:2]. -/
  word : BitVec 30
  lanes : BitVec 4
  data : Word
  /-- Waiting in the write-back buffer of the DCache, not in the main write buffer. -/
  castout : Bool
deriving DecidableEq, Repr

/-- A write of byte lanes of a word by another agent than the core: to the memory on AHB by another AHB master, or by DMA to the
data TCM (R157, R170, R588). -/
structure OutsideWrite where
  toDtcm : Bool
  /-- Address bits [31:2], in the TCM those of the offset. -/
  word : BitVec 30
  lanes : BitVec 4
  data : Word
deriving DecidableEq, Repr

/-- A valid cache line (R58). The dirty bits and the physical address matter to the DCache only. -/
structure CacheLine where
  way : BitVec 2
  /-- MVA bits [31:5]: tag and set. -/
  block : BitVec 27
  /-- PA bits [31:5]. -/
  pa : BitVec 27
  words : Vector Word 8
  dirtyLo : Bool
  dirtyHi : Bool
deriving DecidableEq, Repr

/-- Byte memory: the listed cells; every other cell reads zero (assumption 3). A cell's number is its word's address plus
its byte lane (R106, assumption 4). -/
abbrev Memory := List Host.Cell

/-- The memory system (spec/10_state.md section 3). -/
structure MemSys where
  /-- What answers on AHB. -/
  mem : Memory
  /-- The instruction TCM RAM, from offset 0. -/
  itcm : Memory
  /-- The data TCM RAM, from offset 0. -/
  dtcm : Memory
  /-- The main write buffer and the write-back buffer, oldest first (R59, assumption 11). -/
  wbuf : List PendingWrite
  /-- The TCM write buffers, oldest first (R60). -/
  itcmWb : List PendingWrite
  dtcmWb : List PendingWrite
  icache : List CacheLine
  dcache : List CacheLine
  /-- Entry way * 32 + index (R55). -/
  tlbMain : Vector TlbEntry 64
  tlbLock : Vector TlbEntry 8
  cachedFaults : List CachedFault
  /-- The TLB Lockdown Register (R42). -/
  victim : BitVec 3
  preserve : Bool
  /-- The prefetch buffer: physical address and word (R61). -/
  prefetch : List (Word × Word)
  /-- What other agents write from now on, one list for each time at which something may come before an access, in their order:
  "between any two accesses" (R588, assumption 10). -/
  outside : List (List OutsideWrite)
  /-- How many values have been drawn: the model's own (assumption 5). -/
  draws : Nat
deriving DecidableEq, Repr

/-- What a fetch brought: an instruction, an abort mark (R545), what refuses it, or an instruction marked as breakpointed (R570)
with the word that came from memory, if one came. -/
inductive SlotResult
  | word (w : Word)
  | abort (a : AbortInfo)
  | stop (r : Refusal)
  | breakpoint (w : Option Word)
deriving DecidableEq, Repr

/-- An already fetched instruction (R62): its address, the MVA it was fetched from, the M bit and the FCSE PID at the fetch
(R610, R611). -/
structure Slot where
  va : Word
  mva : Word
  mmuOn : Bool
  pid : BitVec 7
  result : SlotResult
deriving DecidableEq, Repr

/-- The inputs that change behaviour (R66, R585). -/
structure Pins where
  /-- The level of nIRQ: true is HIGH, no request. -/
  nirq : Bool
  nfiq : Bool
  edbgrq : Bool
  /-- HIGH at the end of an instruction fetch marks the instruction as breakpointed (R570). -/
  dbgiebkpt : Bool
  /-- HIGH at the end of a data memory request cycle asks for debug state (R570). -/
  dbgdewpt : Bool
  /-- DBGEXT[1:0], read by the EmbeddedICE-RT logic alone, which no source describes (R7, R570; assumption 51). -/
  dbgext : BitVec 2
  fifofull : Bool
  icacheRam : Bool
  dcacheRam : Bool
  mmuRam : Bool
  itcmRam : Bool
  dtcmRam : Bool
deriving DecidableEq, Repr

/-- What one external coprocessor drives in one cycle (R457, R467, R469): CHSDE or CHSEX, CPDIN and CPBURST. -/
structure CpDrive where
  chs : BitVec 2
  cpdin : Word
  cpburst : BitVec 4
deriving DecidableEq, Repr

/-- What an external coprocessor saw of one instruction that it accepted: its number, bits [27:0] of the instruction, the level
of nCPTRANS, the words on CPDOUT, and CPABORT, which tells that the LDC or STC aborted (R453, R461, R464, R466). -/
structure CpMessage where
  cp : BitVec 4
  instr : BitVec 28
  privileged : Bool
  words : List Word
  aborted : Bool
deriving DecidableEq, Repr

/-- What the coprocessor interface showed during the last step (R453, R456, R460, R464, R469). -/
structure CpPins where
  /-- CPINSTR: the instructions fetched, oldest first. -/
  cpinstr : List Word
  /-- CPPASS: HIGH for the instruction that executed, or for one that followed it into Execute and was cancelled (R456, R463). -/
  cppass : Bool
  /-- CPLATECANCEL. -/
  cplatecancel : Bool
  /-- CPABORT. -/
  cpabort : Bool
  /-- A coprocessor instruction stands in Execute and busy-waits (R465). -/
  waiting : Bool
  /-- CPBURST of the instruction that busy-waits, as it came with CHSDE (R467); none before that cycle. -/
  burst : Option (BitVec 4)
deriving DecidableEq, Repr

/-- The word last read from each CP15 register that has should-be-zero-or-preserved bits (R260): the model's own, to tell a
preserved field from a changed one (D3, D9). A reset while running forgets none: they were read on the same processor (R291). -/
structure LastRead where
  /-- Every word read of the Control Register, each once: R291 takes a value read from it, not the last alone. -/
  ctrl : List Word
  dfsr : Option Word
  ifsr : Option Word
  dlock : Option Word
  ilock : Option Word
  dtcm : Option Word
  itcm : Option Word
  tlbLock : Option Word
deriving DecidableEq, Repr

/-- Scan chain 15 (R575): the access pending, the data value and the access-complete bit. -/
structure Scan where
  request : Option (BitVec 48)
  data : Word
  complete : Bool
deriving DecidableEq, Repr

/-- The stores that an agent outside the core can write. -/
inductive Store
  | ahb | itcm | dtcm
deriving DecidableEq, Repr

/-- What can reach the core from outside at an instruction boundary (R18, R66). -/
inductive Input
  /-- The levels of nIRQ, nFIQ, EDBGRQ and FIFOFULL as the core samples them from now on. -/
  | lines (nirq nfiq edbgrq fifofull : Bool)
  /-- Another AHB master or TCM DMA writes byte lanes of a word (R157, R172). -/
  | write (store : Store) (word : BitVec 30) (lanes : BitVec 4) (data : Word)
  /-- What other agents write before the accesses that follow, one list for each (R588, assumption 10). -/
  | during (writes : List (List OutsideWrite))
  /-- The levels of DBGIEBKPT, DBGDEWPT and DBGEXT from now on (R570). -/
  | debugLines (iebkpt dewpt : Bool) (ext : BitVec 2)
  /-- Scan chain 15 shifted in whole and updated (R575). -/
  | scan (bits : BitVec 48)
  /-- Bits [47:33] of scan chain 15 shifted in with bit 32 set, the data recirculated: the second of two operations (R575). -/
  | scanUpper (bits : BitVec 15)
  /-- DBGnTRST was LOW: the debug logic is reset (R590). -/
  | debugReset
  /-- The power of the ICache, DCache, MMU and TCM RAMs from now on (R585, U52). -/
  | power (icache dcache mmu itcm dtcm : Bool)
  /-- HRESETn was LOW (R590). -/
  | reset
deriving DecidableEq, Repr

/-- The whole machine. -/
structure State where
  cpu : Cpu
  cp15 : Cp15
  ms : MemSys
  /-- The instructions fetched ahead, the next first (R62). -/
  pipe : List Slot
  /-- The next fetch is nonsequential (R160). -/
  nonseq : Bool
  /-- Test-and-clean executions since a line was last forced out: the model's fairness counter (D5, assumption 38). -/
  tcPatience : Nat
  /-- Waiting for an interrupt (R63). -/
  standby : Bool
  /-- ETMPROCIDWR (R344). -/
  etmProcIdWr : Bool
  /-- DBGINSTREXEC: the last step executed an instruction (R570). -/
  executed : Bool
  pins : Pins
  lastRead : LastRead
  /-- What the external coprocessors will drive, cycle by cycle, each cycle with one entry for each that drives (R459). -/
  cpAnswers : List (List CpDrive)
  cpOut : List CpMessage
  cpPins : CpPins
  scan : Scan
  /-- What reaches the core from outside, one list for each coming step (assumption 9). -/
  inputs : List (List Input)
  cfg : Config
deriving DecidableEq, Repr

/-- What a memory access reads of the machine beside the memory system. -/
structure Ctx where
  cp15 : Cp15
  pins : Pins
  cfg : Config
  /-- The access is privileged (R216, R560). -/
  priv : Bool
  /-- The access is the write of a swap whose read has the bus locked (R117). -/
  held : Bool
deriving DecidableEq, Repr

/-- The kinds of access the MMU tells apart (R190). -/
inductive AccessKind
  | read | write | fetch
deriving DecidableEq, Repr

/-- What an access answers: a value, an abort, or a refusal; the first two with the memory system as it leaves it. -/
inductive Access (α : Type) where
  | ok (v : α) (ms : MemSys)
  | abort (a : AbortInfo) (ms : MemSys)
  | stop (r : Refusal)
deriving Repr

/-- A translated address with the C and B bits that go with it (R190). -/
structure Translated where
  pa : Word
  c : Bool
  b : Bool
deriving DecidableEq, Repr

/-- The four region types (R125). -/
inductive RegionType
  | ncnb | ncb | wt | wb
deriving DecidableEq, Repr

/-- The store that serves an access (R130), with the word offset inside a TCM. -/
inductive Route
  | dtcm (off : BitVec 30)
  | itcm (off : BitVec 30)
  | cache
  | bus
deriving DecidableEq, Repr

/-- What a table walk ends in (R194 to R207). -/
inductive WalkResult
  | entry (e : TlbEntry)
  | fault (s : FaultStatus) (domain : Option (BitVec 4))
  | stop (r : Refusal)
deriving DecidableEq, Repr

/-- What a search of the TLB finds (R191). -/
inductive LookupResult
  | miss
  | hit (e : TlbEntry)
  | stop (r : Refusal)
deriving DecidableEq, Repr

/-- What the protection check of a TLB entry answers (R213 to R215). -/
inductive CheckResult
  | pass
  | fault (s : FaultStatus)
  | stop (r : Refusal)
deriving DecidableEq, Repr

/-- What a fetch brings, and the memory system as it leaves it. -/
structure FetchOut where
  result : SlotResult
  ms : MemSys
deriving DecidableEq, Repr

/-- What an instruction or a step answers. -/
abbrev Result := Host.Outcome State Fault Refusal

/-- The entry that 57 bits describe. -/
def TlbEntry.ofBits (b : BitVec 57) : TlbEntry where
  valid := b.getLsbD 56
  tag := b.extractLsb' 34 22
  size := b.extractLsb' 30 4
  pa := b.extractLsb' 8 22
  domain := b.extractLsb' 4 4
  ap := b.extractLsb' 2 2
  c := b.getLsbD 1
  b := b.getLsbD 0

/-- The core at reset (R27): Supervisor, ARM state, IRQ and FIQ masked, the pc at the reset vector. The other CPSR bits,
r0 to r14 and the SPSRs are zero: DESIGN CHOICE (assumptions 1 and 2). Unsafe. -/
def Cpu.reset (cfg : Config) : Cpu where
  regs := Vector.replicate 30 0#32
  pc := if cfg.vinithi then 0xFFFF0000#32 else 0x00000000#32
  cpsr := 0x000000D3#32
  spsr := Vector.replicate 5 0#32

/-- The Control Register at reset (R33). -/
def Control.reset (cfg : Config) : Control where
  m := false
  a := false
  c := false
  b := cfg.bigendinit
  s := false
  r := false
  i := false
  v := cfg.vinithi
  rr := false
  l4 := false

/-- The CP15 registers at reset (R70, R71). -/
def Cp15.reset (cfg : Config) : Cp15 where
  ctrl := Control.reset cfg
  ttbr := 0#18
  dacr := 0#32
  dfsr := 0#8
  ifsr := 0#8
  far := 0#32
  dlock := 0#4
  ilock := 0#4
  dtcm := { base := 0#20, enable := false }
  itcm := { base := 0#20, enable := cfg.initram }
  fcsePid := 0#7
  contextId := 0#32
  dbgovr := 0#7
  dtaddr := 0#32
  tracectl := 0#2
  tlbTagMain := 0#32
  tlbPaMain := 0#32
  tlbTagLock := 0#32
  tlbPaLock := 0#32
  cachedbg := 0#3
  mmudbg := 0#8
  remap := 0xE4E4#16

/-- The memory system at reset (R71, R593 to R595): caches and buffers empty, TLB contents unknown (D10). Memory lists
nothing: DESIGN CHOICE (assumption 3). Unsafe. -/
def MemSys.reset : MemSys where
  mem := []
  itcm := []
  dtcm := []
  wbuf := []
  itcmWb := []
  dtcmWb := []
  icache := []
  dcache := []
  tlbMain := Vector.ofFn fun i => TlbEntry.ofBits (Config.tlbAtReset i.val)
  tlbLock := Vector.ofFn fun i => TlbEntry.ofBits (Config.tlbAtReset (64 + i.val))
  cachedFaults := []
  victim := 0#3
  preserve := false
  prefetch := []
  outside := []
  draws := 0

/-- The input lines with nothing asserted and every RAM powered (assumption 9). -/
def Pins.idle : Pins where
  nirq := true
  nfiq := true
  edbgrq := false
  dbgiebkpt := false
  dbgdewpt := false
  dbgext := 0#2
  fifofull := false
  icacheRam := true
  dcacheRam := true
  mmuRam := true
  itcmRam := true
  dtcmRam := true

/-- Scan chain 15 after DBGnTRST: nothing pending, data 0, no access complete. DESIGN CHOICE (assumption 59): R71 and R590
say that DBGnTRST resets the debug logic, not to what. Unsafe. -/
def Scan.reset : Scan := { request := none, data := 0#32, complete := false }

/-- The coprocessor interface with nothing shown. -/
def CpPins.idle : CpPins where
  cpinstr := []
  cppass := false
  cplatecancel := false
  cpabort := false
  waiting := false
  burst := none

/-- Nothing read yet. -/
def LastRead.none : LastRead where
  ctrl := []
  dfsr := .none
  ifsr := .none
  dlock := .none
  ilock := .none
  dtcm := .none
  itcm := .none
  tlbLock := .none

/-- A system with the given parameters, right after reset (R71, R591). Scan chain 15 has no reset value in the spec: assumption
59. -/
def State.resetWith (cfg : Config) : State where
  cpu := Cpu.reset cfg
  cp15 := Cp15.reset cfg
  ms := MemSys.reset
  pipe := []
  nonseq := true
  tcPatience := 0
  standby := false
  etmProcIdWr := false
  executed := false
  pins := Pins.idle
  lastRead := LastRead.none
  cpAnswers := []
  cpOut := []
  cpPins := CpPins.idle
  scan := Scan.reset
  inputs := []
  cfg := cfg

/-- The machine right after reset, with the default parameters (assumption 7). -/
def State.reset : State := State.resetWith Config.default

end Sys2Proof.Machine
end

