-- ==== Sys2Proof/Machine/Memory.lean ====
section
/-! DEFINITION. Byte memory in one canonical form, byte lanes (spec/20_memory.md R105, R106), pending writes and the
capacity of the write buffers (R140, R143), and what the cache and write-buffer hardware does by itself (R18). -/

namespace Sys2Proof.Machine

/-- What a cell that no entry lists reads as: zero. DESIGN CHOICE (assumption 3). Unsafe. -/
def Memory.unlisted : Byte := 0#8

/-- The byte in a cell. -/
def Memory.read : Memory → Nat → Byte
  | [], _ => Memory.unlisted
  | (k, b) :: m, a => if k = a then b else Memory.read m a

/-- Write a byte to a cell, keeping the canonical form. -/
def Memory.write : Memory → Nat → Byte → Memory
  | [], a, v => if v = Memory.unlisted then [] else [(a, v)]
  | (k, b) :: m, a, v =>
    if a < k then (if v = Memory.unlisted then (k, b) :: m else (a, v) :: (k, b) :: m)
    else if a = k then (if v = Memory.unlisted then m else (a, v) :: m)
    else (k, b) :: Memory.write m a v

/-- The memory that holds bytes one after another from a cell on. -/
def Memory.ofBytes : Nat → List Byte → Memory
  | _, [] => []
  | a, b :: bs => if b = Memory.unlisted then Memory.ofBytes (a + 1) bs else (a, b) :: Memory.ofBytes (a + 1) bs

/-- The cells rise strictly from lo on, lie below 2^32, and none holds what an unlisted cell reads as. -/
def Memory.canonicalFrom : Nat → Memory → Bool
  | _, [] => true
  | lo, (k, b) :: m => decide (lo ≤ k) && decide (k < 2 ^ 32) && decide (b ≠ Memory.unlisted) &&
      Memory.canonicalFrom (k + 1) m

/-- The canonical form. -/
def Memory.wf (m : Memory) : Bool := Memory.canonicalFrom 0 m

/-- The cell of a byte lane of a word (assumption 4). -/
def cellOf (word : BitVec 30) (lane : Nat) : Nat := 4 * word.toNat + lane

/-- The word at a word address, as it stands on the data lines (R106). -/
def Memory.readWord (m : Memory) (word : BitVec 30) : Word :=
  wordOfLanes (m.read (cellOf word 0)) (m.read (cellOf word 1)) (m.read (cellOf word 2)) (m.read (cellOf word 3))

/-- Write one byte lane when it is driven. -/
def Memory.writeLane (m : Memory) (word : BitVec 30) (lanes : BitVec 4) (data : Word) (lane : Nat) : Memory :=
  if lanes.getLsbD lane then m.write (cellOf word lane) (data.extractLsb' (8 * lane) 8) else m

/-- Write the driven byte lanes of a word (R106, R151, R169). -/
def Memory.writeLanes (m : Memory) (word : BitVec 30) (lanes : BitVec 4) (data : Word) : Memory :=
  (((m.writeLane word lanes data 0).writeLane word lanes data 1).writeLane word lanes data 2).writeLane word lanes data 3

/-- The memory after one pending write. -/
def Memory.apply (m : Memory) (p : PendingWrite) : Memory := m.writeLanes p.word p.lanes p.data

/-- The memory after pending writes, oldest first (D16). -/
def Memory.applyAll (m : Memory) (ps : List PendingWrite) : Memory := ps.foldl Memory.apply m

/-- Bits [31:2] of an address. -/
def wordAddr (a : Word) : BitVec 30 := a.extractLsb' 2 30

/-- The byte lane of an address: its low bits, reversed when B = 1 (R106). -/
def laneOf (big : Bool) (a : Word) : BitVec 2 :=
  if big then ~~~ (a.extractLsb' 0 2) else a.extractLsb' 0 2

/-- The lower of the two lanes of a halfword address (R106); bit 0 is ignored (R111). -/
def halfLaneOf (big : Bool) (a : Word) : BitVec 2 :=
  (if big then ~~~ (a.extractLsb' 1 1) else a.extractLsb' 1 1) ++ 0#1

/-- The lanes a byte access drives (R169). -/
def byteLanes (big : Bool) (a : Word) : BitVec 4 := 1#4 <<< (laneOf big a).toNat

/-- The lanes a halfword access drives (R169). -/
def halfLanes (big : Bool) (a : Word) : BitVec 4 := 3#4 <<< (halfLaneOf big a).toNat

/-- The byte at an address, out of the word that holds it. -/
def byteOfWord (big : Bool) (a : Word) (w : Word) : Byte := laneByte w (laneOf big a)

/-- The halfword at an address, out of the word that holds it. -/
def halfOfWord (big : Bool) (a : Word) (w : Word) : BitVec 16 :=
  w.extractLsb' (8 * (halfLaneOf big a).toNat) 16

/-- A byte put on its lane. -/
def byteOnLane (big : Bool) (a : Word) (v : Byte) : Word := v.setWidth 32 <<< (8 * (laneOf big a).toNat)

/-- A halfword put on its lanes. -/
def halfOnLanes (big : Bool) (a : Word) (v : BitVec 16) : Word :=
  v.setWidth 32 <<< (8 * (halfLaneOf big a).toNat)

/-- The slave at a physical address answers ERROR (R165). -/
def busError (cfg : Config) (word : BitVec 30) : Bool :=
  cfg.errorRegions.any fun r => r.1 ≤ 4 * word.toNat && 4 * word.toNat < r.1 + r.2

/-- The n-th value from now that the environment chooses (R13). -/
def MemSys.drawn (ms : MemSys) (n : Nat) : Word := Config.draw (ms.draws + n)

/-- Count n values as chosen. -/
def MemSys.spend (ms : MemSys) (n : Nat) : MemSys := { ms with draws := ms.draws + n }

/-- The memory on AHB once every pending write has reached it. -/
def MemSys.settledMem (ms : MemSys) : Memory := ms.mem.applyAll ms.wbuf

/-- The instruction TCM once its pending writes have reached it: what the core's reads see (R153). -/
def MemSys.settledItcm (ms : MemSys) : Memory := ms.itcm.applyAll ms.itcmWb

/-- The data TCM once its pending writes have reached it. -/
def MemSys.settledDtcm (ms : MemSys) : Memory := ms.dtcm.applyAll ms.dtcmWb

/-- Every pending AHB write reaches memory, oldest first (R141, R143). -/
def MemSys.drainBus (ms : MemSys) : MemSys := { ms with mem := ms.settledMem, wbuf := [] }

/-- Every pending write, AHB and TCM, completes (R370); those for a TCM whose region was disabled before the drain too: R370 empties
both TCM write buffers, where R152 has a disabled TCM not accessed. DESIGN CHOICE (assumption 11). Unsafe. -/
def MemSys.drainAll (ms : MemSys) : MemSys :=
  { ms with
    mem := ms.settledMem, wbuf := []
    itcm := ms.settledItcm, itcmWb := []
    dtcm := ms.settledDtcm, dtcmWb := [] }

/-- How many runs of consecutive addresses the main write buffer holds: its address entries (R59). -/
def addressRuns : Option (BitVec 30) → List PendingWrite → Nat
  | _, [] => 0
  | prev, p :: ps =>
    if p.castout then addressRuns prev ps
    else (if prev = some (p.word - 1#30) then 0 else 1) + addressRuns (some p.word) ps

/-- The lines the write-back buffer holds words of, in order. -/
def castoutLines : List PendingWrite → List Nat
  | [] => []
  | p :: ps =>
    let rest := castoutLines ps
    if p.castout then (if rest.contains (p.word.toNat / 8) then rest else p.word.toNat / 8 :: rest) else rest

/-- The buffers hold these writes: 16 words under 4 addresses in the main buffer, 8 words under 1 address in the
write-back buffer (R59, R140). -/
def fitsBuffers (ps : List PendingWrite) : Bool :=
  decide ((ps.filter fun p => !p.castout).length ≤ 16) && decide (addressRuns none ps ≤ 4) &&
    decide ((ps.filter fun p => p.castout).length ≤ 8) && decide ((castoutLines ps).length ≤ 1)

/-- Let the oldest writes go until the rest fits: the memory and the writes that stay. -/
def fitBuffers : Memory → List PendingWrite → Memory × List PendingWrite
  | m, [] => (m, [])
  | m, p :: ps => if fitsBuffers (p :: ps) then (m, p :: ps) else fitBuffers (m.apply p) ps

/-- Put writes at the end of the AHB buffers (R140, assumption 11). -/
def MemSys.pushBus (ms : MemSys) (ps : List PendingWrite) : MemSys :=
  { ms with mem := (fitBuffers ms.mem (ms.wbuf ++ ps)).1, wbuf := (fitBuffers ms.mem (ms.wbuf ++ ps)).2 }

/-- How many writes over the two words of a TCM write buffer (R60). -/
def tcmOverflow (ps : List PendingWrite) : Nat := ps.length - 2

/-- A write to the data TCM enters its write buffer (R153). -/
def MemSys.pushDtcm (ms : MemSys) (p : PendingWrite) : MemSys :=
  let q := ms.dtcmWb ++ [p]
  { ms with dtcm := ms.dtcm.applyAll (q.take (tcmOverflow q)), dtcmWb := q.drop (tcmOverflow q) }

/-- A write to the instruction TCM enters its write buffer (R153, R154). -/
def MemSys.pushItcm (ms : MemSys) (p : PendingWrite) : MemSys :=
  let q := ms.itcmWb ++ [p]
  { ms with itcm := ms.itcm.applyAll (q.take (tcmOverflow q)), itcmWb := q.drop (tcmOverflow q) }

/-- At any time any number of the oldest writes may reach memory (R18, R143, R153). Those pending for a TCM whose region is disabled
stay where they are: a disabled TCM is kept as it is and not accessed (R152, U51); nor does anything reach a TCM RAM without power
(R585, U52). -/
def MemSys.drainSome (k : Ctx) (ms : MemSys) : MemSys :=
  if ms.wbuf = [] ∧ ms.itcmWb = [] ∧ ms.dtcmWb = [] then ms
  else
    let n := (ms.drawn 0).toNat
    let ni := if k.cp15.itcm.enable && k.pins.itcmRam then (ms.drawn 1).toNat else 0
    let nd := if k.cp15.dtcm.enable && k.pins.dtcmRam then (ms.drawn 2).toNat else 0
    { ms with
      mem := ms.mem.applyAll (ms.wbuf.take n), wbuf := ms.wbuf.drop n
      itcm := ms.itcm.applyAll (ms.itcmWb.take ni), itcmWb := ms.itcmWb.drop ni
      dtcm := ms.dtcm.applyAll (ms.dtcmWb.take nd), dtcmWb := ms.dtcmWb.drop nd
      draws := ms.draws + 3 }

/-- Some pending AHB write is to this word. -/
def MemSys.pendingWord (ms : MemSys) (word : BitVec 30) : Bool := ms.wbuf.any fun p => p.word == word

/-- Some pending AHB write is to this 32-byte line. -/
def MemSys.pendingLine (ms : MemSys) (pa : BitVec 27) : Bool :=
  ms.wbuf.any fun p => p.word.extractLsb' 3 27 == pa

/-- A line with a dirty half. -/
def CacheLine.dirty (l : CacheLine) : Bool := l.dirtyLo || l.dirtyHi

/-- The address of word n of a line. -/
def lineWord (pa : BitVec 27) (n : Fin 8) : BitVec 30 := pa ++ (BitVec.ofFin n : BitVec 3)

/-- Word n of a line as a write to its stored physical address (R136). -/
def CacheLine.castoutWord (l : CacheLine) (n : Fin 8) : PendingWrite :=
  { word := lineWord l.pa n, lanes := 15#4, data := l.words.get n, castout := true }

/-- The write-backs of a line's dirty halves (R136). -/
def CacheLine.castouts (l : CacheLine) : List PendingWrite :=
  (if l.dirtyLo then [l.castoutWord 0, l.castoutWord 1, l.castoutWord 2, l.castoutWord 3] else []) ++
    (if l.dirtyHi then [l.castoutWord 4, l.castoutWord 5, l.castoutWord 6, l.castoutWord 7] else [])

/-- The dirty line that the environment evicts now, if it does: the hardware "may at any time evict (write back) dirty lines"
(R18, assumption 17). -/
def evictedNow (ms : MemSys) : Option CacheLine :=
  let dirty := ms.dcache.filter CacheLine.dirty
  if dirty = [] then none
  else if (ms.drawn 0).getLsbD 0 then dirty[(ms.drawn 0 >>> 1).toNat % dirty.length]? else none

/-- The memory system after the environment evicted a dirty line or none (R18, R136), of a locked way too: L bits stop
allocation, and whether they keep a line from the hardware's own eviction the spec does not say. DESIGN CHOICE (assumption
17). Safe. -/
def MemSys.evictSome (ms : MemSys) : MemSys :=
  let out := (evictedNow ms).elim [] CacheLine.castouts
  { ms with
    mem := (fitBuffers ms.mem (ms.wbuf ++ out)).1
    wbuf := (fitBuffers ms.mem (ms.wbuf ++ out)).2
    dcache := ms.dcache.filter fun l => evictedNow ms != some l
    draws := ms.draws + 1 }

/-- That many times an eviction or none. -/
def evictTimes : Nat → MemSys → MemSys
  | 0, ms => ms
  | n + 1, ms => evictTimes n ms.evictSome

/-- The memory system after the environment evicted any of the dirty lines, in any order (R18). -/
def MemSys.evictAny (ms : MemSys) : MemSys := evictTimes (ms.dcache.filter CacheLine.dirty).length ms

/-- Another agent writes byte lanes of a word, under the caches and past the core's buffers (R157, R172). -/
def MemSys.writeFromOutside (ms : MemSys) (store : Store) (word : BitVec 30) (lanes : BitVec 4) (data : Word) : MemSys :=
  match store with
  | .ahb => { ms with mem := ms.mem.writeLanes word lanes data }
  | .itcm => { ms with itcm := ms.itcm.writeLanes word lanes data }
  | .dtcm => { ms with dtcm := ms.dtcm.writeLanes word lanes data }

/-- The memory system after a write that came between two accesses. -/
def MemSys.written (ms : MemSys) (w : OutsideWrite) : MemSys :=
  ms.writeFromOutside (if w.toDtcm then .dtcm else .ahb) w.word w.lanes w.data

/-- What the cache and write-buffer hardware may do by itself at any time (R18 (3)): drain buffered writes and evict dirty lines;
lines only with C = 1, since a disabled cache keeps its contents (R129, U51), whatever M is: that the hardware leaves them alone
with M = 0, where R125 calls the DCache effectively disabled, is not said. DESIGN CHOICE (assumption 17). Safe. -/
def MemSys.unprompted (k : Ctx) (ms : MemSys) : MemSys :=
  if k.pins.dcacheRam && k.cp15.ctrl.c then (ms.drainSome k).evictAny else ms.drainSome k

/-- What may come before an access: other agents' writes (R588), and before and after each of them what the hardware does by itself
(R18). Between the two halves of a swap that holds the bus (R117) DMA to the data TCM alone comes, and what other AHB masters write
waits for the next access; that the hardware then does nothing by itself is a DESIGN CHOICE (assumption 11). Unsafe. -/
def MemSys.meanwhile (k : Ctx) (ms : MemSys) : MemSys :=
  match ms.outside with
  | [] => if k.held then ms else ms.unprompted k
  | now :: later =>
    if k.held then
      (now.filter fun w => w.toDtcm).foldl MemSys.written { ms with outside := (now.filter fun w => !w.toDtcm) :: later }
    else now.foldl (fun m w => (m.written w).unprompted k) ({ ms with outside := later }.unprompted k)

end Sys2Proof.Machine
end

