-- ==== Sys2Proof/Machine/Mmu.lean ====
section
/-! DEFINITION. The memory management unit (spec/21_mmu.md): FCSE, descriptors, the table walk, the TLB and the protection
checks. -/

namespace Sys2Proof.Machine

/-- The FCSE: an address below 32MB moves by the process identifier when the MMU is on (R102, R103). -/
def fcse (cp : Cp15) (va : Word) : Word :=
  if cp.ctrl.m ∧ va.extractLsb' 25 7 = 0#7 then cp.fcsePid ++ va.extractLsb' 0 25 else va

/-- The base-two logarithm of the block an entry of this size code maps; the other codes map nothing (R49, assumption
14). -/
def blockBits (size : BitVec 4) : Option Nat :=
  if size = 0b1011#4 then some 20
  else if size = 0b0111#4 then some 16
  else if size = 0b0101#4 then some 14
  else if size = 0b0011#4 then some 12
  else if size = 0b0001#4 then some 10
  else none

/-- Two addresses lie in one block of 2^k bytes. -/
def sameBlock (k : Nat) (x y : Word) : Bool := x >>> k == y >>> k

/-- Bits [31:10] with zeros below. -/
def blockWord (t : BitVec 22) : Word := t ++ 0#10

/-- An entry matches an MVA: it is valid and the bits above its block size agree (R182). -/
def TlbEntry.covers (e : TlbEntry) (mva : Word) : Bool :=
  match blockBits e.size with
  | none => false
  | some k => e.valid && sameBlock k (blockWord e.tag) mva

/-- An entry that a section descriptor made: its faults are section faults (R190). -/
def TlbEntry.isSection (e : TlbEntry) : Bool := e.size == 0b1011#4

/-- The physical address an entry gives an MVA (R190 step 3). -/
def TlbEntry.physical (e : TlbEntry) (mva : Word) : Word :=
  match blockBits e.size with
  | none => mva
  | some k => (blockWord e.pa >>> k) <<< k ||| (mva &&& ((1#32 <<< k) - 1#32))

/-- What an access uses of an entry (D20). -/
def TlbEntry.view (e : TlbEntry) (mva : Word) : Word × BitVec 4 × BitVec 2 × Bool × Bool × Bool :=
  (e.physical mva, e.domain, e.ap, e.c, e.b, e.isSection)

/-- Whether the blocks of two valid entries share an address. -/
def TlbEntry.overlaps (e f : TlbEntry) : Bool :=
  match blockBits e.size, blockBits f.size with
  | some j, some k => e.valid && f.valid && sameBlock (max j k) (blockWord e.tag) (blockWord f.tag)
  | _, _ => false

/-- A remembered fault answers for an MVA (R227). -/
def CachedFault.covers (f : CachedFault) (mva : Word) : Bool :=
  sameBlock f.bits (blockWord f.tag) mva

/-- The word offset of a physical address inside a TCM region (R150, R151): the region exists, is enabled, and the bits
above its size agree; base bits below the size are ignored (D17). -/
def tcmOffset (size : TcmSize) (r : TcmRegion) (pa : Word) : Option (BitVec 30) :=
  match size.log2 with
  | none => none
  | some k =>
    if r.enable ∧ sameBlock k pa (r.base ++ 0#12) then some (wordAddr (pa &&& ((1#32 <<< k) - 1#32))) else none

/-- The descriptor word a walk reads at a physical address: memory as AHB holds it (R167, D18), none on an ERROR
answer. Inside an enabled TCM region the spec does not say which store answers, so the environment picks (R228); a TCM that
answers does so past its write buffer: DESIGN CHOICE (assumption 47). Unsafe. -/
def readDescriptor (k : Ctx) (ms : MemSys) (pickTcm : Bool) (pa : Word) : Option Word :=
  let bus := if busError k.cfg (wordAddr pa) then none else some (ms.mem.readWord (wordAddr pa))
  match tcmOffset k.cfg.dtcmSize k.cp15.dtcm pa with
  | some off => if pickTcm then some (ms.dtcm.readWord off) else bus
  | none =>
    match tcmOffset k.cfg.itcmSize k.cp15.itcm pa with
    | some off => if pickTcm then some (ms.itcm.readWord off) else bus
    | none => bus

/-- The TCM that the environment picks to answer a walk's read has no power: an operation on an unpowered RAM is refused
(R585, U52). -/
def descriptorUnpowered (k : Ctx) (pickTcm : Bool) (pa : Word) : Bool :=
  (match tcmOffset k.cfg.dtcmSize k.cp15.dtcm pa with
    | some _ => !k.pins.dtcmRam
    | none => (tcmOffset k.cfg.itcmSize k.cp15.itcm pa).isSome && !k.pins.itcmRam) && pickTcm

/-- A TLB entry for a block of 2^k bytes: tag and address bits below the block are zero. -/
def makeEntry (k : Nat) (size : BitVec 4) (mva pa : Word) (domain : BitVec 4) (ap : BitVec 2) (c b : Bool) : TlbEntry where
  valid := true
  tag := ((mva >>> k) <<< k).extractLsb' 10 22
  size := size
  pa := ((pa >>> k) <<< k).extractLsb' 10 22
  domain := domain
  ap := ap
  c := c
  b := b

/-- The entry of a section descriptor (R196); its fixed bits must be right (R199, D22). -/
def sectionEntry (l1 mva : Word) : WalkResult :=
  if l1.extractLsb' 12 8 = 0#8 ∧ l1.getLsbD 9 = false ∧ l1.getLsbD 4 = true then
    .entry (makeEntry 20 0b1011#4 mva l1 (l1.extractLsb' 5 4) (l1.extractLsb' 10 2) (l1.getLsbD 3) (l1.getLsbD 2))
  else .stop .unpredictableDescriptor

/-- AP field n of a large or small page descriptor (R202). -/
def subpageAp (l2 : Word) (n : BitVec 2) : BitVec 2 := l2.extractLsb' (4 + 2 * n.toNat) 2

/-- All four AP fields are the same (R192). -/
def uniformAp (l2 : Word) : Bool :=
  subpageAp l2 0#2 == subpageAp l2 1#2 && subpageAp l2 1#2 == subpageAp l2 2#2 && subpageAp l2 2#2 == subpageAp l2 3#2

/-- The entry of a page of 2^k bytes, or of its accessed quarter when the AP fields differ (R192, R204, R205). -/
def pageEntry (k : Nat) (size quarterSize : BitVec 4) (l2 mva : Word) (domain : BitVec 4) : TlbEntry :=
  let q : BitVec 2 := mva.extractLsb' (k - 2) 2
  let page := (l2 >>> k) <<< k ||| (mva &&& ((1#32 <<< k) - 1#32))
  if uniformAp l2 then makeEntry k size mva l2 domain (subpageAp l2 0#2) (l2.getLsbD 3) (l2.getLsbD 2)
  else makeEntry (k - 2) quarterSize mva page domain (subpageAp l2 q) (l2.getLsbD 3) (l2.getLsbD 2)

/-- The second-level descriptor (R201 to R206). -/
def secondLevel (fine : Bool) (l2 mva : Word) (domain : BitVec 4) : WalkResult :=
  let t : BitVec 2 := l2.extractLsb' 0 2
  if t = 0#2 then .fault .translationPage (some domain)
  else if t = 1#2 then
    if l2.extractLsb' 12 4 = 0#4 then .entry (pageEntry 16 0b0111#4 0b0101#4 l2 mva domain)
    else .stop .unpredictableDescriptor
  else if t = 2#2 then .entry (pageEntry 12 0b0011#4 0b0001#4 l2 mva domain)
  else if fine then
    if l2.extractLsb' 6 4 = 0#4 then
      .entry (makeEntry 10 0b0001#4 mva l2 domain (l2.extractLsb' 4 2) (l2.getLsbD 3) (l2.getLsbD 2))
    else .stop .unpredictableDescriptor
  else .stop .tinyInCoarse

/-- The address of the first-level descriptor (R194). -/
def firstLevelAddress (ttbr : BitVec 18) (mva : Word) : Word := ttbr ++ mva.extractLsb' 20 12 ++ 0#2

/-- The address of the second-level descriptor (R200). -/
def secondLevelAddress (fine : Bool) (l1 mva : Word) : Word :=
  if fine then l1.extractLsb' 12 20 ++ mva.extractLsb' 10 10 ++ 0#2
  else l1.extractLsb' 10 22 ++ mva.extractLsb' 12 8 ++ 0#2

/-- A page table descriptor's fixed bits (R197, R198). -/
def tableBitsOk (fine : Bool) (l1 : Word) : Bool :=
  l1.getLsbD 4 && l1.extractLsb' 2 2 == 0#2 && (if fine then l1.extractLsb' 9 3 == 0#3 else !l1.getLsbD 9)

/-- The second fetch of a page-mapped walk (R200), refused where a TCM without power answers it (R585). -/
def pageWalk (k : Ctx) (ms : MemSys) (pick : Bool) (fine : Bool) (l1 mva : Word) : WalkResult :=
  let domain : BitVec 4 := l1.extractLsb' 5 4
  if tableBitsOk fine l1 then
    if descriptorUnpowered k pick (secondLevelAddress fine l1 mva) then .stop .ramPoweredDown
    else
      match readDescriptor k ms pick (secondLevelAddress fine l1 mva) with
      | none => .fault .externalWalk2 (some domain)
      | some l2 => secondLevel fine l2 mva domain
  else .stop .unpredictableDescriptor

/-- The table walk (R194 to R207): the first descriptor as memory stands, the second as it stands later, when buffered writes may
have drained and other agents written (R18, R588); picks says which store answers for a descriptor inside a TCM region. A read
that a TCM without power answers is refused (R585). -/
def walk (k : Ctx) (ms later : MemSys) (picks : Word) (mva : Word) : WalkResult :=
  if descriptorUnpowered k (picks.getLsbD 0) (firstLevelAddress k.cp15.ttbr mva) then .stop .ramPoweredDown
  else
    match readDescriptor k ms (picks.getLsbD 0) (firstLevelAddress k.cp15.ttbr mva) with
    | none => .fault .externalWalk1 none
    | some l1 =>
      let t : BitVec 2 := l1.extractLsb' 0 2
      if t = 0#2 then .fault .translationSection none
      else if t = 2#2 then sectionEntry l1 mva
      else pageWalk k later (picks.getLsbD 1) (t == 3#2) l1 mva

/-- Main TLB matching is disabled for this kind of access (R420, D7). -/
def mainMatchOff (cp : Cp15) (kind : AccessKind) : Bool :=
  if kind = .fetch then cp.mmudbg.getLsbD 7 else cp.mmudbg.getLsbD 6

/-- Main TLB loading is disabled for this kind of access (R420, D7). -/
def mainLoadOff (cp : Cp15) (kind : AccessKind) : Bool :=
  if kind = .fetch then cp.mmudbg.getLsbD 5 else cp.mmudbg.getLsbD 4

/-- A TLB miss of this kind of access aborts (R193): DBGOVR bits 17 and 18. -/
def missForced (cp : Cp15) (kind : AccessKind) : Bool :=
  if kind = .fetch then cp.dbgovr.getLsbD 4 else cp.dbgovr.getLsbD 5

/-- Search both parts of the TLB (R191); several matches that differ in what the access uses are refused (D20). -/
def lookup (cp : Cp15) (kind : AccessKind) (mva : Word) (ms : MemSys) : LookupResult :=
  let main := if mainMatchOff cp kind then [] else ms.tlbMain.toList.filter fun e => e.covers mva
  match (ms.tlbLock.toList.filter fun e => e.covers mva) ++ main with
  | [] => .miss
  | e :: es => if es.all fun f => f.view mva == e.view mva then .hit e else .stop .tlbMultipleMatch

/-- Table 3-12 (R215): whether the access is allowed; none where the table says Unpredictable. -/
def permitted (ap : BitVec 2) (s r priv : Bool) (kind : AccessKind) : Option Bool :=
  let write := kind == .write
  if ap = 0#2 then
    match s, r with
    | false, false => some false
    | true, false => some (priv && !write)
    | false, true => some (!write)
    | true, true => none
  else if ap = 1#2 then some priv
  else if ap = 2#2 then some (priv || !write)
  else some true

/-- The access field of a domain (R213). -/
def domainAccess (dacr : Word) (d : BitVec 4) : BitVec 2 := dacr.extractLsb' (2 * d.toNat) 2

/-- The domain and permission checks (R190 step 2, R213 to R215), with the current DACR, S and R. -/
def checkEntry (k : Ctx) (kind : AccessKind) (e : TlbEntry) : CheckResult :=
  let d := domainAccess k.cp15.dacr e.domain
  if d = 3#2 then .pass
  else if d = 1#2 then
    match permitted e.ap k.cp15.ctrl.s k.cp15.ctrl.r k.priv kind with
    | none => .stop .unpredictableAp
    | some true => .pass
    | some false => .fault (if e.isSection then .permissionSection else .permissionPage)
  else .fault (if e.isSection then .domainSection else .domainPage)

/-- Write entry n of the lockdown TLB. -/
def MemSys.setLock (ms : MemSys) (n : BitVec 3) (e : TlbEntry) : MemSys :=
  { ms with tlbLock := ms.tlbLock.set n.toNat e n.isLt }

/-- Write entry n of the main TLB. -/
def MemSys.setMain (ms : MemSys) (n : BitVec 6) (e : TlbEntry) : MemSys :=
  { ms with tlbMain := ms.tlbMain.set n.toNat e n.isLt }

/-- The main TLB after the environment dropped the entries two words name (R227). -/
def dropMain (mask : BitVec 64) (v : Vector TlbEntry 64) : Vector TlbEntry 64 :=
  v.mapFinIdx fun i e _ => if mask.getLsbD i then { e with valid := false } else e

/-- The remembered faults after the environment dropped those it chose, one choice for each from the n-th on. -/
def dropFaults (n : Nat) : List CachedFault → List CachedFault
  | [] => []
  | f :: fs => if (Config.draw n).getLsbD 0 then dropFaults (n + 1) fs else f :: dropFaults (n + 1) fs

/-- The unlocked TLB after the environment removed what it chose: "can be removed at any time" (R18, R227). -/
def MemSys.dropUnlocked (ms : MemSys) : MemSys :=
  { ms with
    tlbMain := dropMain (ms.drawn 0 ++ ms.drawn 1) ms.tlbMain
    cachedFaults := dropFaults (ms.draws + 2) ms.cachedFaults
    draws := ms.draws + 2 + ms.cachedFaults.length }

/-- The TLB hardware may walk by itself (R227), but not with main loads off or misses forced to abort for both kinds of access
(assumption 13). -/
def mayWalkAhead (k : Ctx) : Bool :=
  !(missForced k.cp15 .fetch && missForced k.cp15 .read) &&
    !(mainLoadOff k.cp15 .fetch && mainLoadOff k.cp15 .read)

/-- What the walk of a drawn address finds, when the hardware makes one: not for an address that the lockdown part holds, which
does not miss (R190). -/
def walkedAhead (k : Ctx) (ms later : MemSys) (mva choice : Word) : Option WalkResult :=
  if choice.getLsbD 0 && mayWalkAhead k && !(ms.tlbLock.toList.any fun f => f.covers mva) then
    some (walk k ms later (choice >>> 1) mva)
  else none

/-- An entry put into the main TLB in place of whatever overlaps it there (R190, "possibly overwriting an existing value"). -/
def replaceMain (place : BitVec 6) (e : TlbEntry) (v : Vector TlbEntry 64) : Vector TlbEntry 64 :=
  (v.map fun f => if f.overlaps e then { f with valid := false } else f).set place.toNat e place.isLt

/-- Put a walked entry into the TLB (R192): into the lockdown part at the victim, which then advances and wraps (D19),
when P = 1; else into a drawn place of the main part, unless its loading is disabled. There it replaces what overlaps it, also where
main matching is off and the walk came of that (R420), of which the spec says nothing: DESIGN CHOICE (assumption 13). Safe. -/
def install (k : Ctx) (kind : AccessKind) (place : BitVec 6) (e : TlbEntry) (ms : MemSys) : MemSys :=
  if ms.preserve then
    { ms with tlbLock := ms.tlbLock.set ms.victim.toNat e ms.victim.isLt, victim := ms.victim + 1#3 }
  else if mainLoadOff k.cp15 kind then ms
  else { ms with tlbMain := replaceMain place e ms.tlbMain }

/-- The base-two logarithm of the block that one second-level descriptor of a walk maps: 1KB in a fine table, 4KB in a coarse one
(R200). -/
def descriptorBits (k : Ctx) (ms : MemSys) (picks mva : Word) : Nat :=
  match readDescriptor k ms (picks.getLsbD 0) (firstLevelAddress k.cp15.ttbr mva) with
  | some l1 => if l1.extractLsb' 0 2 = 3#2 then 10 else 12
  | none => 12

/-- The translation fault a walk found, remembered for the block its descriptor maps. -/
def rememberFault (pageBits : Nat) (mva : Word) (r : Option WalkResult) (fs : List CachedFault) : List CachedFault :=
  match r with
  | some (.fault .translationSection d) => { tag := mva.extractLsb' 10 22, bits := 20, domain := d } :: fs
  | some (.fault .translationPage d) => { tag := mva.extractLsb' 10 22, bits := pageBits, domain := d } :: fs
  | _ => fs

/-- What the TLB hardware may do by itself with a drawn address (R227): walk it and keep what it finds. An entry goes to the
set-associative part, so none is kept with P = 1, when R192 and R336 send every walk's entry to the lockdown part; a translation
fault writes no entry and is remembered with either P (assumption 13). Between the two reads of the walk comes what may come
before any access (R18, R588). A walk ahead that meets a descriptor with wrong reserved bits (R199), a tiny page in a coarse table
(R201), AHB ERROR (R194) or a TCM without power (R585) leaves no trace: D22, U46 and U52 refuse the walk of an access, and of a
walk that none asked for the spec says nothing. DESIGN CHOICE (assumption 13). Unsafe. -/
def speculate (k : Ctx) (ms : MemSys) (mva choice : Word) : MemSys :=
  let later := ms.meanwhile k
  let found := walkedAhead k ms later mva choice
  { later with
    tlbMain := match found with
      | some (.entry e) => if ms.preserve then later.tlbMain else replaceMain (choice.extractLsb' 3 6) e later.tlbMain
      | _ => later.tlbMain
    cachedFaults := rememberFault (descriptorBits k ms (choice >>> 1) mva) mva found later.cachedFaults }

/-- What the environment may do to the unlocked TLB before an access (R227). -/
def churn (k : Ctx) (ms : MemSys) : MemSys :=
  let dropped := ms.dropUnlocked
  speculate k (dropped.spend 2) (dropped.drawn 0) (dropped.drawn 1)

/-- The translation an entry gives, or the abort its checks raise (R190 steps 2 and 3). -/
def useEntry (k : Ctx) (kind : AccessKind) (mva : Word) (e : TlbEntry) (ms : MemSys) : Access Translated :=
  match checkEntry k kind e with
  | .pass => .ok { pa := e.physical mva, c := e.c, b := e.b } ms
  | .fault s => .abort { mva := mva, status := s, domain := some e.domain } ms
  | .stop r => .stop r

/-- A TLB miss (R190 step 1, R192, R193): a forced abort, a remembered fault, or a walk, with what comes between its reads and
after them (R18, R588). The entry is written, and with P = 1 the victim moved on, before the domain and permission checks, so
whatever they answer: R190's order of steps. DEDUCED (R192 and N23 leave it unstated; assumption 60). Unsafe. -/
def missEntry (k : Ctx) (kind : AccessKind) (mva : Word) (ms : MemSys) : Access Translated :=
  if missForced k.cp15 kind then .abort { mva := mva, status := .forcedMiss, domain := none } ms
  else
    match (if mainMatchOff k.cp15 kind then none else ms.cachedFaults.find? fun f => f.covers mva) with
    | some f =>
      .abort { mva := mva, status := if f.domain.isNone then .translationSection else .translationPage,
               domain := f.domain } ms
    | none =>
      let later := (ms.spend 1).meanwhile k
      match walk k ms later (ms.drawn 0) mva with
      | .stop r => .stop r
      | .fault s d => .abort { mva := mva, status := s, domain := d } later
      | .entry e => useEntry k kind mva e (install k kind ((ms.drawn 0).extractLsb' 2 6) e (later.meanwhile k))

/-- The translated access of R190, for an MVA. -/
def translate (k : Ctx) (kind : AccessKind) (mva : Word) (ms : MemSys) : Access Translated :=
  if k.pins.mmuRam = false then .stop .ramPoweredDown
  else
    let ms' := churn k ms
    match lookup k.cp15 kind mva ms' with
    | .stop r => .stop r
    | .hit e => useEntry k kind mva e ms'
    | .miss => missEntry k kind mva ms'

/-- The memory system after a translation that was refused, where the machine goes on, since only a fetch ahead asked for it: what
the hardware did by itself is done, and every value that the translation drew is used up (R13, assumption 5). A TLB RAM without
power does nothing. -/
def afterRefusal (k : Ctx) (ms : MemSys) : MemSys :=
  if k.pins.mmuRam then ((churn k ms).spend 1).meanwhile k else ms

/-- Every entry of the main TLB is invalid; remembered faults are forgotten (R225, R330). -/
def invalidateMain (ms : MemSys) : MemSys :=
  { ms with tlbMain := ms.tlbMain.map fun e => { e with valid := false }, cachedFaults := [] }

/-- Every entry that matches an MVA is invalid, in either part (R225, R331). -/
def invalidateEntry (mva : Word) (ms : MemSys) : MemSys :=
  { ms with
    tlbMain := ms.tlbMain.map fun e => if e.covers mva then { e with valid := false } else e
    tlbLock := ms.tlbLock.map fun e => if e.covers mva then { e with valid := false } else e
    cachedFaults := ms.cachedFaults.filter fun f => !f.covers mva }

end Sys2Proof.Machine
end

