-- ==== Sys2Proof/Machine/Cache.lean ====
section
/-! DEFINITION. The caches (spec/20_memory.md R133 to R138): lookup, linefill, victim choice, eviction, writes and the
maintenance operations. -/

namespace Sys2Proof.Machine

/-- The set of a line: the low S bits of MVA[31:5] (R133). -/
def setOf (size : CacheSize) (block : BitVec 27) : Nat := block.toNat % 2 ^ size.setBits

/-- The line an MVA hits (R134); of two ways that hold one tag the first listed (assumption 40). -/
def findLine (lines : List CacheLine) (block : BitVec 27) : Option CacheLine := lines.find? fun l => l.block == block

/-- A line stands in a way of a set. -/
def CacheLine.isAt (size : CacheSize) (set : Nat) (way : BitVec 2) (l : CacheLine) : Bool :=
  l.way == way && setOf size l.block == set

/-- The line in a way of a set. -/
def lineAt (size : CacheSize) (lines : List CacheLine) (set : Nat) (way : BitVec 2) : Option CacheLine :=
  lines.find? fun l => l.isAt size set way

/-- The ways a linefill may use: L bit 0; way 3 when none is (R135, R381). -/
def openWays (locked : BitVec 4) : List (BitVec 2) :=
  let ws := [0#2, 1#2, 2#2, 3#2].filter fun w => !locked.getLsbD w.toNat
  if ws.isEmpty then [3#2] else ws

/-- The victim way: drawn among the open ways (R135, D28). -/
def victimWay (locked : BitVec 4) (choice : Word) : BitVec 2 :=
  (openWays locked).getD (choice.toNat % (openWays locked).length) 3#2

/-- Bits [31:5] of an address. -/
def lineAddr (a : Word) : BitVec 27 := a.extractLsb' 5 27

/-- The word of a line an address selects (R133). -/
def wordInLine (a : Word) : Fin 8 := (a.extractLsb' 2 3 : BitVec 3).toFin

/-- The eight words a linefill reads (R135); where the slave answers ERROR, whatever the bus returned (R165). -/
def fillWords (cfg : Config) (ms : MemSys) (pa : BitVec 27) : Vector Word 8 :=
  Vector.ofFn fun (n : Fin 8) =>
    if busError cfg (lineWord pa n) then ms.drawn n.val else ms.mem.readWord (lineWord pa n)

/-- The line a linefill brings: valid and clean (R135). -/
def filledLine (cfg : Config) (ms : MemSys) (way : BitVec 2) (block pa : BitVec 27) : CacheLine where
  way := way
  block := block
  pa := pa
  words := fillWords cfg ms pa
  dirtyLo := false
  dirtyHi := false

/-- Replace what stands in a line's way and set by the line. -/
def placeLine (size : CacheSize) (l : CacheLine) (lines : List CacheLine) : List CacheLine :=
  l :: lines.filter fun x => !x.isAt size (setOf size l.block) l.way

/-- The write-backs the eviction from a way of a set causes. -/
def evictions (size : CacheSize) (lines : List CacheLine) (set : Nat) (way : BitVec 2) : List PendingWrite :=
  match lineAt size lines set way with
  | none => []
  | some l => l.castouts

/-- A data-side linefill (R135, R141): pending writes to the line reach memory first; the words are read, the victim is
evicted, the line installed, unless DDL is set. -/
def fillDCache (k : Ctx) (mva pa : Word) (ms : MemSys) : MemSys :=
  let ms0 := if ms.pendingLine (lineAddr pa) then ms.drainBus else ms
  if k.cp15.cachedbg.getLsbD 0 then ms0.spend 8
  else
    let size := k.cfg.dcacheSize
    let way := victimWay k.cp15.dlock (ms0.drawn 8)
    let line := filledLine k.cfg ms0 way (lineAddr mva) (lineAddr pa)
    let out := ms0.pushBus (evictions size ms0.dcache (setOf size line.block) way)
    { out with dcache := placeLine size line ms0.dcache, draws := ms0.draws + 9 }

/-- The word a data-side linefill brings for an address. -/
def filledWord (k : Ctx) (pa : Word) (ms : MemSys) : Word :=
  let ms0 := if ms.pendingLine (lineAddr pa) then ms.drainBus else ms
  (fillWords k.cfg ms0 (lineAddr pa)).get (wordInLine pa)

/-- A cachable data read (R127, R134): from the line on a hit, else through a linefill. -/
def readDCache (k : Ctx) (mva pa : Word) (ms : MemSys) : Access Word :=
  if k.pins.dcacheRam = false then .stop .ramPoweredDown
  else
    match findLine ms.dcache (lineAddr mva) with
    | some l => .ok (l.words.get (wordInLine mva)) ms
    | none => .ok (filledWord k pa ms) (fillDCache k mva pa ms)

/-- A word with its driven lanes replaced. -/
def mergeLanes (old data : Word) (lanes : BitVec 4) : Word :=
  wordOfLanes (if lanes.getLsbD 0 then laneByte data 0#2 else laneByte old 0#2)
    (if lanes.getLsbD 1 then laneByte data 1#2 else laneByte old 1#2)
    (if lanes.getLsbD 2 then laneByte data 2#2 else laneByte old 2#2)
    (if lanes.getLsbD 3 then laneByte data 3#2 else laneByte old 3#2)

/-- A line with a word written; a write-back write sets the dirty bit of its half (R137). -/
def CacheLine.store (l : CacheLine) (n : Fin 8) (lanes : BitVec 4) (data : Word) (back : Bool) : CacheLine :=
  { l with
    words := l.words.set n.val (mergeLanes (l.words.get n) data lanes) n.isLt
    dirtyLo := l.dirtyLo || (back && decide (n.val < 4))
    dirtyHi := l.dirtyHi || (back && decide (4 ≤ n.val)) }

/-- Change the line an MVA hits. Where drawn contents after a power-up put one tag in two ways of a set, of which the spec says
nothing, both lines take the store, as a store cannot tell them apart: DESIGN CHOICE (assumption 40). Unsafe. -/
def updateLine (block : BitVec 27) (f : CacheLine → CacheLine) (lines : List CacheLine) : List CacheLine :=
  lines.map fun l => if l.block = block then f l else l

/-- A cachable data write (R127, R137): a write-back hit writes the line only; a write-through hit writes the line and
queues the store; a miss queues the store and allocates nothing. -/
def writeDCache (k : Ctx) (back : Bool) (mva pa : Word) (lanes : BitVec 4) (data : Word) (ms : MemSys) : Access Unit :=
  let queued : PendingWrite := { word := wordAddr pa, lanes := lanes, data := data, castout := false }
  if k.pins.dcacheRam = false then .stop .ramPoweredDown
  else
    match findLine ms.dcache (lineAddr mva) with
    | none => .ok () (ms.pushBus [queued])
    | some _ =>
      let written : MemSys :=
        { ms with
          dcache := updateLine (lineAddr mva) (fun l => l.store (wordInLine mva) lanes data back) ms.dcache }
      .ok () (if back then written else written.pushBus [queued])

/-- An instruction-side linefill (R135): the buffers are not drained for it (R175); nothing is installed with DIL. -/
def fillICache (k : Ctx) (mva pa : Word) (ms : MemSys) : MemSys :=
  if k.cp15.cachedbg.getLsbD 1 then ms.spend 8
  else
    let way := victimWay k.cp15.ilock (ms.drawn 8)
    { ms with
      icache := placeLine k.cfg.icacheSize (filledLine k.cfg ms way (lineAddr mva) (lineAddr pa)) ms.icache
      draws := ms.draws + 9 }

/-- A line without its dirty bits. -/
def CacheLine.cleaned (l : CacheLine) : CacheLine := { l with dirtyLo := false, dirtyHi := false }

/-- Write back the dirty halves of the lines a test picks and mark those lines clean (R360, R361). Several lines, with DBGOVR[19]
(R366), go in the order in which the model lists them, of which the spec says nothing: DESIGN CHOICE (assumption 38). Unsafe. -/
def cleanLines (pick : CacheLine → Bool) (ms : MemSys) : MemSys :=
  let out := ms.pushBus ((ms.dcache.filter pick).flatMap CacheLine.castouts)
  { out with dcache := ms.dcache.map fun l => if pick l then l.cleaned else l }

/-- Make the DCache lines a test picks invalid, dirty data discarded (R355 to R357). -/
def dropDLines (pick : CacheLine → Bool) (ms : MemSys) : MemSys :=
  { ms with dcache := ms.dcache.filter fun l => !pick l }

/-- Make the ICache lines a test picks invalid (R351 to R353). -/
def dropILines (pick : CacheLine → Bool) (ms : MemSys) : MemSys :=
  { ms with icache := ms.icache.filter fun l => !pick l }

/-- The set a Set/Way operand names: Rd[S+4:5] (R349). -/
def operandSet (size : CacheSize) (v : Word) : Nat := (v >>> 5).toNat % 2 ^ size.setBits

/-- The way a Set/Way operand names: Rd[31:30] (R349). -/
def operandWay (v : Word) : BitVec 2 := v.extractLsb' 30 2

end Sys2Proof.Machine
end

