-- ==== Sys2Proof/Machine/AccessPath.lean ====
section
/-! DEFINITION. The access path (spec/20_memory.md R100): region types, routing, bus and TCM accesses, data reads and
writes, the locked swap, instruction fetches. -/

namespace Sys2Proof.Machine

/-- The type that a remap field or the C and B bits name (R52, R125). -/
def regionOfBits (f : BitVec 2) : RegionType :=
  if f = 0#2 then .ncnb else if f = 1#2 then .ncb else if f = 2#2 then .wt else .wb

/-- The 2-bit code of a type: C and B (R125). -/
def RegionType.bits : RegionType → BitVec 2
  | .ncnb => 0#2
  | .ncb => 1#2
  | .wt => 2#2
  | .wb => 3#2

/-- Write-through or write-back. -/
def RegionType.cachable : RegionType → Bool
  | .ncnb => false
  | .ncb => false
  | .wt => true
  | .wb => true

/-- The base type of a data access (R125): from the page table, or with the MMU off NCNB, write-through when DBGOVR[13] and
the DCache are on. -/
def dataBaseType (cp : Cp15) (t : Translated) : RegionType :=
  if cp.ctrl.m then regionOfBits (BitVec.ofBool t.c ++ BitVec.ofBool t.b)
  else if cp.dbgovr.getLsbD 0 && cp.ctrl.c then .wt
  else .ncnb

/-- The base type of an instruction fetch (R125, D15): with the MMU off write-through when the ICache is on, else NCNB
(assumption 45). -/
def fetchBaseType (cp : Cp15) (mmuOn : Bool) (t : Translated) : RegionType :=
  if mmuOn then regionOfBits (BitVec.ofBool t.c ++ BitVec.ofBool t.b)
  else if cp.ctrl.i then .wt
  else .ncnb

/-- The data-side remap field of a type (R52, R126 step 2). -/
def remapData (cp : Cp15) (t : RegionType) : RegionType :=
  regionOfBits (cp.remap.extractLsb' (2 * t.bits.toNat) 2)

/-- The instruction-side remap field of a type (R52, R126 step 2). -/
def remapFetch (cp : Cp15) (t : RegionType) : RegionType :=
  regionOfBits (cp.remap.extractLsb' (8 + 2 * t.bits.toNat) 2)

/-- The final type of a data access (R126): remap, then NCB stores forced to NCNB, then write-back forced to
write-through. -/
def dataType (cp : Cp15) (kind : AccessKind) (t : Translated) : RegionType :=
  match remapData cp (dataBaseType cp t) with
  | .ncb => if cp.dbgovr.getLsbD 1 && kind == .write then .ncnb else .ncb
  | .wb => if cp.cachedbg.getLsbD 2 then .wt else .wb
  | .ncnb => .ncnb
  | .wt => .wt

/-- The type a data access has on the bus: with the DCache off the C bit counts for nothing and the B bit still decides
buffering (R129, D12). Where DWB, the remap or DBGOVR changed the type, D12's "the descriptor's B bit" is read as the B bit of the
resolved type: DESIGN CHOICE (assumption 63). Unsafe. -/
def busType : RegionType → RegionType
  | .ncnb => .ncnb
  | .ncb => .ncb
  | .wt => .ncnb
  | .wb => .ncb

/-- Which store serves a data access (R130, Table 4-6). -/
def dataRoute (k : Ctx) (typ : RegionType) (pa : Word) : Route :=
  match tcmOffset k.cfg.dtcmSize k.cp15.dtcm pa with
  | some off => .dtcm off
  | none =>
    match tcmOffset k.cfg.itcmSize k.cp15.itcm pa with
    | some off => .itcm off
    | none => if typ.cachable && k.cp15.ctrl.c then .cache else .bus

/-- Which store serves a fetch (R130, Table 4-5; R131). -/
def fetchRoute (k : Ctx) (typ : RegionType) (pa : Word) : Route :=
  match tcmOffset k.cfg.itcmSize k.cp15.itcm pa with
  | some off => .itcm off
  | none => if typ.cachable && k.cp15.ctrl.i then .cache else .bus

/-- A data memory request made now asks for debug state: DBGDEWPT HIGH with DBGEN (R570). -/
def Ctx.watched (k : Ctx) : Bool := k.cfg.dbgen && k.pins.dbgdewpt

/-- An instruction fetched now is marked as breakpointed: DBGIEBKPT HIGH with DBGEN (R570). -/
def Ctx.breaks (k : Ctx) : Bool := k.cfg.dbgen && k.pins.dbgiebkpt

/-- Steps 2 and 3 of R100 for a data access: the MVA translated, or flat with the MMU off. A watchpointed access would enter debug
state (R570). -/
def dataTranslate (k : Ctx) (kind : AccessKind) (mva : Word) (ms : MemSys) : Access Translated :=
  if k.watched then .stop .debugState
  else if k.cp15.ctrl.m then translate k kind mva ms else .ok { pa := mva, c := false, b := false } ms

/-- The memory system as a noncached read finds it: drained for an NCNB access or a pending write to the word (R141, D16). -/
def beforeBusRead (typ : RegionType) (pa : Word) (ms : MemSys) : MemSys :=
  if typ = .ncnb ∨ ms.pendingWord (wordAddr pa) then ms.drainBus else ms

/-- A noncached data read (R127, R141, R165): the word that holds the address. -/
def readBus (k : Ctx) (typ : RegionType) (mva pa : Word) (ms : MemSys) : Access Word :=
  let ms' := beforeBusRead typ pa ms
  if busError k.cfg (wordAddr pa) then .abort { mva := mva, status := .external, domain := none } ms'
  else .ok (ms'.mem.readWord (wordAddr pa)) ms'

/-- A noncached data write (R127, R140, R165): buffered for NCB; NCNB waits for the buffer and the bus. -/
def writeBus (k : Ctx) (typ : RegionType) (mva pa : Word) (lanes : BitVec 4) (data : Word) (ms : MemSys) : Access Unit :=
  if typ = .ncnb then
    let ms' := ms.drainBus
    if busError k.cfg (wordAddr pa) then .abort { mva := mva, status := .external, domain := none } ms'
    else .ok () { ms' with mem := ms'.mem.writeLanes (wordAddr pa) lanes data }
  else .ok () (ms.pushBus [{ word := wordAddr pa, lanes := lanes, data := data, castout := false }])

/-- A swap to an NCB region acts as one to an NCNB region (R117, R543). -/
def lockedType (locked : Bool) (typ : RegionType) : RegionType :=
  if locked ∧ typ = .ncb then .ncnb else typ

/-- Steps 4 to 6 of R100 for a read at a translated address; one in a TCM RAM without power is refused (R585, U52). -/
def readAt (k : Ctx) (locked : Bool) (mva : Word) (t : Translated) (ms : MemSys) : Access Word :=
  let typ := dataType k.cp15 .read t
  match dataRoute k typ t.pa with
  | .dtcm off => if k.pins.dtcmRam then .ok (ms.settledDtcm.readWord off) ms else .stop .ramPoweredDown
  | .itcm off => if k.pins.itcmRam then .ok (ms.settledItcm.readWord off) ms else .stop .ramPoweredDown
  | .cache => readDCache k mva t.pa ms
  | .bus => readBus k (lockedType locked (busType typ)) mva t.pa ms

/-- Steps 4 to 6 of R100 for a write at a translated address; one in a TCM RAM without power is refused (R585, U52). -/
def writeAt (k : Ctx) (locked : Bool) (mva : Word) (t : Translated) (lanes : BitVec 4) (data : Word) (ms : MemSys) :
    Access Unit :=
  let typ := dataType k.cp15 .write t
  match dataRoute k typ t.pa with
  | .dtcm off =>
    if k.pins.dtcmRam then .ok () (ms.pushDtcm { word := off, lanes := lanes, data := data, castout := false })
    else .stop .ramPoweredDown
  | .itcm off =>
    if k.pins.itcmRam then .ok () (ms.pushItcm { word := off, lanes := lanes, data := data, castout := false })
    else .stop .ramPoweredDown
  | .cache => writeDCache k (typ == .wb) mva t.pa lanes data ms
  | .bus => writeBus k (lockedType locked (busType typ)) mva t.pa lanes data ms

/-- A data read (R100): the word that holds the address, with the lanes of R106 still to pick. Before it the hardware may drain and
evict (R18), and other agents may write (R588). -/
def dataRead (k : Ctx) (locked : Bool) (va : Word) (ms : MemSys) : Access Word :=
  match dataTranslate k .read (fcse k.cp15 va) (ms.meanwhile k) with
  | .ok t ms' => readAt k locked (fcse k.cp15 va) t ms'
  | .abort a ms' => .abort a ms'
  | .stop r => .stop r

/-- A data write (R100) of the driven lanes of the word that holds the address. Before it the hardware may drain and evict
(R18), and other agents may write (R588). -/
def dataWrite (k : Ctx) (locked : Bool) (va : Word) (lanes : BitVec 4) (data : Word) (ms : MemSys) : Access Unit :=
  match dataTranslate k .write (fcse k.cp15 va) (ms.meanwhile k) with
  | .ok t ms' => writeAt k locked (fcse k.cp15 va) t lanes data ms'
  | .abort a ms' => .abort a ms'
  | .stop r => .stop r

/-- The read of a swap goes to the bus, which is then locked until its write; not so one of a cachable location or a TCM, which is
atomic for this core's own instructions alone (R117, N20). -/
def holdsBus (k : Ctx) (va : Word) (ms : MemSys) : Bool :=
  match dataTranslate k .read (fcse k.cp15 va) (ms.meanwhile k) with
  | .ok t _ => dataRoute k (dataType k.cp15 .read t) t.pa == .bus
  | .abort _ _ => false
  | .stop _ => false

/-- The read-lock-write sequence of SWP (R117, R508): after an external abort of the read the write is attempted all the
same, and the read's abort is what the instruction reports. While the bus is locked between the two nothing drains, and of other
agents DMA to the data TCM alone writes (MemSys.meanwhile). -/
def swapAccess (k : Ctx) (va : Word) (lanes : BitVec 4) (data : Word) (ms : MemSys) : Access Word :=
  let locked : Ctx := { k with held := holdsBus k va ms }
  match dataRead k true va ms with
  | .stop r => .stop r
  | .ok w ms' =>
    match dataWrite locked true va lanes data ms' with
    | .ok _ ms'' => .ok w ms''
    | .abort a ms'' => .abort a ms''
    | .stop r => .stop r
  | .abort a ms' =>
    if a.status = .external then
      match dataWrite locked true va lanes data ms' with
      | .ok _ ms'' => .abort a ms''
      | .abort _ ms'' => .abort a ms''
      | .stop r => .stop r
    else .abort a ms'

/-- The alignment fault of an access at an address (R110): domain not valid, MVA of the access. -/
def alignmentAbort (cp : Cp15) (va : Word) : AbortInfo :=
  { mva := fcse cp va, status := .alignment, domain := none }

/-- An address aligned to a halfword. -/
def halfAligned (a : Word) : Bool := !a.getLsbD 0

/-- An address aligned to a word. -/
def wordAligned (a : Word) : Bool := a.extractLsb' 0 2 == 0#2

/-- An address aligned to a doubleword. -/
def doubleAligned (a : Word) : Bool := a.extractLsb' 0 3 == 0#3

/-- The words read ahead of one address: the first n of the next four, up to the end of the 1KB block and to a slave that
answers ERROR (R118, R160, R161). -/
def speculativeWords (k : Ctx) (pa : Word) (n : Nat) (ms : MemSys) : List (Word × Word) :=
  if k.cp15.dbgovr.getLsbD 3 then []
  else
    (([pa + 4#32, pa + 8#32, pa + 12#32, pa + 16#32].take n).takeWhile fun a =>
      sameBlock 10 a pa && !busError k.cfg (wordAddr a)).map fun a => (a, ms.mem.readWord (wordAddr a))

/-- How many words the environment reads ahead now: none to four (R118, R160, I8). -/
def readAhead (ms : MemSys) : Nat := (ms.drawn 1).toNat % 5

/-- What of the prefetch buffer follows the entry for an address. -/
def afterEntry (pa : Word) (l : List (Word × Word)) : List (Word × Word) :=
  (l.dropWhile fun e => e.1 != pa).drop 1

/-- A word that may be stale: the environment picks the old or the new one (R621, U23). -/
def staleOrFresh (choice : Word) (stale fresh : Word) : Word :=
  if stale = fresh then fresh else if choice.getLsbD 0 then fresh else stale

/-- The entry of the prefetch buffer for an address. -/
def prefetched (pa : Word) (ms : MemSys) : Option (Word × Word) := ms.prefetch.find? fun e => e.1 == pa

/-- The words that the prefetch buffer still holds after a fetch from it; none after one that it cannot serve. -/
def keptAhead (pa : Word) (ms : MemSys) : List (Word × Word) :=
  match prefetched pa ms with
  | some _ => afterEntry pa ms.prefetch
  | none => []

/-- The words a fetch reads ahead now: those of the chosen number that the buffer does not hold yet (R61, R160). -/
def newAhead (k : Ctx) (pa : Word) (ms : MemSys) : List (Word × Word) :=
  if (prefetched pa ms).isNone && busError k.cfg (wordAddr pa) then []
  else (speculativeWords k pa (readAhead ms) ms).drop (keptAhead pa ms).length

/-- The prefetch buffer after a fetch: what followed the entry used, and the words now read ahead, four in all at most (R61,
R160). -/
def prefetchAfter (k : Ctx) (pa : Word) (ms : MemSys) : List (Word × Word) := keptAhead pa ms ++ newAhead k pa ms

/-- What a noncached fetch brings (R160, R165, R621). -/
def fetchBusResult (k : Ctx) (mva pa : Word) (ms : MemSys) : SlotResult :=
  match prefetched pa ms with
  | some e => .word (staleOrFresh (ms.drawn 0) e.2 (ms.mem.readWord (wordAddr pa)))
  | none =>
    if busError k.cfg (wordAddr pa) then .abort { mva := mva, status := .external, domain := none }
    else .word (ms.mem.readWord (wordAddr pa))

/-- A noncached fetch (R160, R165): from the prefetch buffer, or from memory; words after it are read ahead. -/
def fetchBus (k : Ctx) (mva pa : Word) (ms : MemSys) : FetchOut where
  result := fetchBusResult k mva pa ms
  ms := { ms with prefetch := prefetchAfter k pa ms, draws := ms.draws + 2 }

/-- The word memory now holds behind word n of an ICache line, at the address the line was filled from; the line's own where the
slave answers ERROR. -/
def behindLine (k : Ctx) (l : CacheLine) (n : Fin 8) (ms : MemSys) : Word :=
  if busError k.cfg (lineWord l.pa n) then l.words.get n else ms.mem.readWord (lineWord l.pa n)

/-- A cachable fetch (R128, R134, R135): on a hit the line's word, or, where memory has changed under the line, the line's word or
memory's as the environment chooses (R621, U23). -/
def fetchICache (k : Ctx) (mva pa : Word) (ms : MemSys) : FetchOut :=
  if k.pins.icacheRam = false then { result := .stop .ramPoweredDown, ms := ms }
  else
    match findLine ms.icache (lineAddr mva) with
    | some l =>
      let n := wordInLine mva
      { result := .word (staleOrFresh (ms.drawn 0) (l.words.get n) (behindLine k l n ms)), ms := ms.spend 1 }
    | none =>
      { result := .word ((fillWords k.cfg ms (lineAddr pa)).get (wordInLine pa)), ms := fillICache k mva pa ms }

/-- The type a fetch has at a translated address (R126). -/
def fetchType (k : Ctx) (mmuOn : Bool) (t : Translated) : RegionType :=
  remapFetch k.cp15 (fetchBaseType k.cp15 mmuOn t)

/-- Steps 4 to 6 of R100 for a fetch at a translated address; the ITCM is read past its write buffer (R155). -/
def fetchRouted (k : Ctx) (mmuOn : Bool) (mva : Word) (t : Translated) (ms : MemSys) : FetchOut :=
  match fetchRoute k (fetchType k mmuOn t) t.pa with
  | .itcm off => { result := if k.pins.itcmRam then .word (ms.itcm.readWord off) else .stop .ramPoweredDown, ms := ms }
  | .cache => fetchICache k mva t.pa ms
  | .bus => fetchBus k mva t.pa ms
  | .dtcm _ => fetchBus k mva t.pa ms

/-- The address of the word that holds an address: a fetch is of a whole word (R107, R500). -/
def wordBase (a : Word) : Word := a &&& 0xFFFFFFFC#32

/-- A fetch through the MMU (R100): the word, an abort mark, or what refuses it. A refusal (R191, R199, R201, R215) that a fetch
ahead meets stays in its slot: it is raised when that instruction comes to execute, and never when a branch comes before. The spec
has only aborts wait so (R545): DESIGN CHOICE (assumption 20). Unsafe. -/
def fetchMapped (k : Ctx) (mva : Word) (ms : MemSys) : FetchOut :=
  match translate k .fetch mva ms with
  | .ok t ms' => fetchRouted k true mva { t with pa := wordBase t.pa } ms'
  | .abort a ms' => { result := .abort a, ms := ms' }
  | .stop r => { result := .stop r, ms := afterRefusal k ms }

/-- A fetch at an MVA with a given M bit (R100, R107). -/
def fetchAt (k : Ctx) (mmuOn : Bool) (mva : Word) (ms : MemSys) : FetchOut :=
  if mmuOn then fetchMapped k mva ms else fetchRouted k false mva { pa := wordBase mva, c := false, b := false } ms

/-- The word that a fetch brought from memory: it is shown on CPINSTR, breakpointed or not (R453). -/
def SlotResult.shown (r : SlotResult) : Option Word :=
  match r with
  | .word w => some w
  | .abort _ => none
  | .stop _ => none
  | .breakpoint w => w

/-- A fetch at a virtual address under the current settings, as a pipeline slot (R62, R102); a breakpointed one enters debug
state when it comes to execute (R570). Before it the hardware may drain and evict (R18), and other agents
may write (R588). -/
def fetchSlot (k : Ctx) (va : Word) (ms : MemSys) : Slot × MemSys :=
  let mva := fcse k.cp15 va
  let out := fetchAt k k.cp15.ctrl.m mva (ms.meanwhile k)
  ({ va := va, mva := mva, mmuOn := k.cp15.ctrl.m, pid := k.cp15.fcsePid
     result := if k.breaks then .breakpoint out.result.shown else out.result }, out.ms)

end Sys2Proof.Machine
end

