-- ==== Sys2Proof/Machine/Ops.lean ====
section
/-! DEFINITION. The named operations over the core's registers and memory that the meanings share: banked registers, the
status registers, free values, taking an exception and returning from one (spec/60_exceptions.md R531, R532, R541, R545;
spec/45_core_isa_supplement.md R513), and transfers of several words. -/

namespace Sys2Proof.Machine

/-- The mode field of a status register (R22). -/
def modeOf (psr : Word) : BitVec 5 := psr.extractLsb' 0 5

/-- The seven modes (R23). -/
def legalMode (m : BitVec 5) : Bool :=
  [0b10000#5, 0b10001#5, 0b10010#5, 0b10011#5, 0b10111#5, 0b11011#5, 0b11111#5].contains m

/-- privileged() of R560, for a status register: any mode but User. -/
def isPrivileged (psr : Word) : Bool := modeOf psr != 0b10000#5

/-- The physical number of a mode's r13; its r14 is the next (R20). -/
def bank13 (m : BitVec 5) : Nat :=
  if m = 0b10001#5 then 20
  else if m = 0b10010#5 then 22
  else if m = 0b10011#5 then 24
  else if m = 0b10111#5 then 26
  else if m = 0b11011#5 then 28
  else 13

/-- The physical register that r0 to r14 name in a mode (R20). -/
def physReg (m : BitVec 5) (r : RegNum) : Fin 30 :=
  if r.val < 8 then Fin.ofNat 30 r.val
  else if m = 0b10001#5 then Fin.ofNat 30 (r.val + 7)
  else if r.val < 13 then Fin.ofNat 30 r.val
  else if r.val = 13 then Fin.ofNat 30 (bank13 m)
  else Fin.ofNat 30 (bank13 m + 1)

/-- The saved status register of a mode; User and System have none (R24). -/
def spsrIndex (m : BitVec 5) : Option (Fin 5) :=
  if m = 0b10001#5 then some 0
  else if m = 0b10010#5 then some 1
  else if m = 0b10011#5 then some 2
  else if m = 0b10111#5 then some 3
  else if m = 0b11011#5 then some 4
  else none

/-- The register file with one register written. -/
def Cpu.setPhys (c : Cpu) (p : Fin 30) (v : Word) : Cpu := { c with regs := c.regs.set p.val v p.isLt }

/-- The mode the machine is in. -/
def State.mode (s : State) : BitVec 5 := modeOf s.cpu.cpsr

/-- r0 to r14 of a given mode. -/
def State.bankReg (s : State) (m : BitVec 5) (r : RegNum) : Word := s.cpu.regs.get (physReg m r)

/-- A register as an operand: r15 reads as the address of the instruction plus 8 (R21, R482). -/
def State.reg (s : State) (r : RegNum) : Word := if r = 15 then s.cpu.pc + 8#32 else s.bankReg s.mode r

/-- Write r0 to r14 of a given mode. -/
def State.setBankReg (s : State) (m : BitVec 5) (r : RegNum) (v : Word) : State :=
  { s with cpu := s.cpu.setPhys (physReg m r) v }

/-- Go on at an address; the fetch is nonsequential (R160). -/
def State.branchTo (s : State) (target : Word) : State :=
  { s with cpu := { s.cpu with pc := target }, nonseq := true }

/-- An address a write to the pc gives in ARM state: bits [1:0] are ignored (R500, assumption 24). -/
def armTarget (v : Word) : Word := v &&& 0xFFFFFFFC#32

/-- Write a register of the current mode; r15 is a branch (R483, R500). -/
def State.setReg (s : State) (r : RegNum) (v : Word) : State :=
  if r = 15 then s.branchTo (armTarget v) else s.setBankReg s.mode r v

/-- The next instruction in sequence (R21). -/
def State.advance (s : State) : State := { s with cpu := { s.cpu with pc := s.cpu.pc + 4#32 } }

/-- Write a register and go on: in sequence, or at the target when the register is r15. -/
def State.finish (s : State) (r : RegNum) (v : Word) : State :=
  if r = 15 then s.setReg r v else (s.setReg r v).advance

/-- Write the status register. -/
def State.setCpsr (s : State) (v : Word) : State := { s with cpu := { s.cpu with cpsr := v } }

/-- Put the memory system an access leaves. -/
def State.withMs (s : State) (ms : MemSys) : State := { s with ms := ms }

/-- Put the CP15 registers. -/
def State.withCp15 (s : State) (cp : Cp15) : State := { s with cp15 := cp }

/-- The n-th free value from now (R13, assumption 5). -/
def State.drawn (s : State) (n : Nat) : Word := s.ms.drawn n

/-- Count n free values as used. -/
def State.spend (s : State) (n : Nat) : State := s.withMs (s.ms.spend n)

/-- The machine is in a privileged mode (R560). -/
def State.privileged (s : State) : Bool := isPrivileged s.cpu.cpsr

/-- What an access of the current mode reads of the machine. -/
def State.ctx (s : State) : Ctx := { cp15 := s.cp15, pins := s.pins, cfg := s.cfg, priv := s.privileged, held := false }

/-- What an access checked as a user access reads of the machine (R216). -/
def State.userCtx (s : State) : Ctx := { s.ctx with priv := false }

/-- Bits of a status register. -/
def flagN (psr : Word) : Bool := psr.getLsbD 31
def flagZ (psr : Word) : Bool := psr.getLsbD 30
def flagC (psr : Word) : Bool := psr.getLsbD 29
def flagV (psr : Word) : Bool := psr.getLsbD 28
def jazelleBit (psr : Word) : Bool := psr.getLsbD 24
def irqMasked (psr : Word) : Bool := psr.getLsbD 7
def fiqMasked (psr : Word) : Bool := psr.getLsbD 6
def thumbBit (psr : Word) : Bool := psr.getLsbD 5

/-- The condition holds of the flags (R481). -/
def conditionPassed (c : Cond) (psr : Word) : Bool :=
  match c with
  | .eq => flagZ psr
  | .ne => !flagZ psr
  | .cs => flagC psr
  | .cc => !flagC psr
  | .mi => flagN psr
  | .pl => !flagN psr
  | .vs => flagV psr
  | .vc => !flagV psr
  | .hi => flagC psr && !flagZ psr
  | .ls => !flagC psr || flagZ psr
  | .ge => flagN psr == flagV psr
  | .lt => flagN psr != flagV psr
  | .gt => !flagZ psr && flagN psr == flagV psr
  | .le => flagZ psr || flagN psr != flagV psr
  | .al => true

/-- Conditional execution (R25): when the condition fails the instruction does nothing and the pc advances. -/
def State.conditionally (s : State) (c : Cond) (body : State → Result) : Result :=
  if conditionPassed c s.cpu.cpsr then body s else .next s.advance

/-- The T bit of a status register set or cleared. -/
def withThumb (psr : Word) (t : Bool) : Word := if t then psr ||| 0x20#32 else psr &&& 0xFFFFFFDF#32

/-- The exceptions taken by a step (R531); Reset is State.reset. -/
inductive Exception
  | undefined | swi | prefetchAbort | dataAbort | irq | fiq
deriving DecidableEq, Repr

/-- The vector's offset (R531). -/
def exceptionOffset : Exception → Word
  | .undefined => 0x04#32
  | .swi => 0x08#32
  | .prefetchAbort => 0x0C#32
  | .dataAbort => 0x10#32
  | .irq => 0x18#32
  | .fiq => 0x1C#32

/-- The mode entered (R531). -/
def exceptionMode : Exception → BitVec 5
  | .undefined => 0b11011#5
  | .swi => 0b10011#5
  | .prefetchAbort => 0b10111#5
  | .dataAbort => 0b10111#5
  | .irq => 0b10010#5
  | .fiq => 0b10001#5

/-- The saved status register written (R24, R531). -/
def exceptionSpsr : Exception → Fin 5
  | .undefined => 4
  | .swi => 2
  | .prefetchAbort => 3
  | .dataAbort => 3
  | .irq => 1
  | .fiq => 0

/-- The status register on entry (R532): the mode entered, T and J clear, I set, F set for FIQ, the rest kept. -/
def exceptionCpsr (e : Exception) (psr : Word) : Word :=
  (psr &&& 0xFEFFFFC0#32) ||| (exceptionMode e).setWidth 32 ||| 0x80#32 ||| (if e = .fiq then 0x40#32 else 0#32)

/-- The base of the vectors, by the V bit (R531). -/
def vectorBase (s : State) : Word := if s.cp15.ctrl.v then 0xFFFF0000#32 else 0#32

/-- Taking an exception (R532): r14 of the mode entered takes the link value, its SPSR the whole CPSR; then the CPSR and the
pc change, and the vector fetch is nonsequential. -/
def takeException (e : Exception) (link : Word) (s : State) : State :=
  { s with
    cpu :=
      { regs := s.cpu.regs.set (physReg (exceptionMode e) 14).val link (physReg (exceptionMode e) 14).isLt
        pc := vectorBase s + exceptionOffset e
        cpsr := exceptionCpsr e s.cpu.cpsr
        spsr := s.cpu.spsr.set (exceptionSpsr e).val s.cpu.cpsr (exceptionSpsr e).isLt }
    nonseq := true }

/-- The Undefined instruction exception of the instruction at the pc: link is its address plus 4 (R531, R535). -/
def takeUndefined (s : State) : State := takeException .undefined (s.cpu.pc + 4#32) s

/-- The status code of a fault (R540); a drawn bit where the table leaves one open. -/
def statusBits (f : FaultStatus) (choice : Bool) : BitVec 4 :=
  match f with
  | .alignment => if choice then 0b0011#4 else 0b0001#4
  | .externalWalk1 => 0b1100#4
  | .externalWalk2 => 0b1110#4
  | .translationSection => 0b0101#4
  | .translationPage => 0b0111#4
  | .domainSection => 0b1001#4
  | .domainPage => 0b1011#4
  | .permissionSection => 0b1101#4
  | .permissionPage => 0b1111#4
  | .external => if choice then 0b1010#4 else 0b1000#4
  | .forcedMiss => 0b0000#4

/-- What a fault status register takes (R540, R541): the domain where it is valid, else a drawn one. -/
def faultStatusWord (a : AbortInfo) (choice : Word) : BitVec 8 :=
  a.domain.getD (choice.extractLsb' 4 4) ++ statusBits a.status (choice.getLsbD 0)

/-- A word of the coprocessor instruction classes, the unconditional ones included (R261, R470). -/
def isCoprocessorWord (w : Word) : Bool := w.extractLsb' 25 3 == 0b110#3 || w.extractLsb' 24 4 == 0b1110#4

/-- A word passes its condition; one in the unconditional space always does (R456, R481). -/
def wordPasses (w : Word) (psr : Word) : Bool := (condOf (field w 28 4)).all fun c => conditionPassed c psr

/-- CPPASS of an instruction in Execute: a coprocessor instruction that has passed its condition (R456). -/
def cppassOf (r : SlotResult) (psr : Word) : Bool :=
  match r with
  | .word w => isCoprocessorWord w && wordPasses w psr
  | .abort _ => false
  | .stop _ => false
  | .breakpoint _ => false

/-- The instruction after the one that executes is a coprocessor instruction. -/
def coprocessorFollows (s : State) : Bool :=
  match s.pipe with
  | { result := .word w, .. } :: _ => isCoprocessorWord w
  | _ => false

/-- CPPASS of the instruction after the one that executes: it enters Execute before it is cancelled (R463). -/
def followerPasses (s : State) : Bool :=
  match s.pipe with
  | [] => false
  | slot :: _ => cppassOf slot.result s.cpu.cpsr

/-- A Data Abort of the instruction at the pc (R541): DFSR and FAR record it, and the exception is taken with link the
instruction's address plus 8. A coprocessor instruction that follows, and passes its condition, has entered Execute with CPPASS
HIGH (R463); then CPLATECANCEL cancels it (R460). That it rises for one that fails its condition too is assumption 36. Unsafe. -/
def takeDataAbort (a : AbortInfo) (s : State) : State :=
  takeException .dataAbort (s.cpu.pc + 8#32)
    { s with
      cp15 := { s.cp15 with dfsr := faultStatusWord a (s.drawn 0), far := a.mva }
      ms := s.ms.spend 1
      cpPins :=
        { s.cpPins with cppass := s.cpPins.cppass || followerPasses s, cplatecancel := coprocessorFollows s } }

/-- A Prefetch Abort of the instruction at the pc (R545, assumption 20): the IFSR records it, and the exception is taken
with link the instruction's address plus 4. -/
def takePrefetchAbort (a : AbortInfo) (s : State) : State :=
  takeException .prefetchAbort (s.cpu.pc + 4#32)
    { s with
      cp15 := { s.cp15 with ifsr := faultStatusWord a (s.drawn 0) }
      ms := s.ms.spend 1 }

/-- Where a return continues, by the state returned to: bits [1:0] cleared for ARM state, bit 0 for Thumb state, none for Jazelle
state. R513 says only that the pc takes the result, and R22 gives no state to J:T = 11, which is taken as Thumb: DESIGN CHOICE
(assumption 24). Unsafe. -/
def returnTarget (psr v : Word) : Word :=
  if thumbBit psr then v &&& 0xFFFFFFFE#32 else if jazelleBit psr then v else armTarget v

/-- Return from an exception (R513, R538): the pc takes the result and the CPSR the current mode's SPSR, together. User and
System have no SPSR (R483); a saved mode that is none faults (R23). -/
def returnFromException (target : Word) (s : State) : Result :=
  match spsrIndex s.mode with
  | none => .refused .unpredictableReturn
  | some i =>
    if legalMode (modeOf (s.cpu.spsr.get i)) then
      .next ((s.setCpsr (s.cpu.spsr.get i)).branchTo (returnTarget (s.cpu.spsr.get i) target))
    else .fault .illegalMode

/-- A load to the pc (R295, R505): with L4 = 0 bit 0 of the value is the new T bit; with L4 = 1 bits [1:0] are ignored. -/
def State.loadPc (s : State) (v : Word) : State :=
  if s.cp15.ctrl.l4 then s.branchTo (armTarget v)
  else (s.setCpsr (withThumb s.cpu.cpsr (v.getLsbD 0))).branchTo (v &&& 0xFFFFFFFE#32)

/-- The value a store puts out for a register: r15 is the instruction's address plus 8 or plus 12 (R504, assumption
43). -/
def State.stored (s : State) (r : RegNum) : Word :=
  if r = 15 then s.cpu.pc + (if Config.storedPcIsPlus12 then 12#32 else 8#32) else s.reg r

/-- The addresses of n words from a start. -/
def wordsFrom : Word → Nat → List Word
  | _, 0 => []
  | a, n + 1 => a :: wordsFrom (a + 4#32) n

/-- The FAR of an externally aborted transfer of several words (R542): the last word before the first 1KB boundary the
transfer meets, if a word up to there aborted, else the last word of the transfer. -/
def externalFar (first count aborted : Nat) : Nat :=
  let split := (first / 1024 + 1) * 1024
  let last := first + 4 * (count - 1)
  if split ≤ last then (if aborted < split then split - 4 else last) else last

/-- The abort a transfer of several words reports (R542): the first aborted address, but for an external abort. -/
def multiAbort (k : Ctx) (first : Word) (count : Nat) (a : AbortInfo) (va : Word) : AbortInfo :=
  if a.status = .external then
    let start := (first &&& 0xFFFFFFFC#32).toNat
    let at_ := start + (va - (first &&& 0xFFFFFFFC#32)).toNat
    { a with mva := fcse k.cp15 (BitVec.ofNat 32 (externalFar start count at_)) }
  else a

/-- What reading several words gives: the words read, in order, and the first abort with its address. -/
structure ReadMany where
  words : List Word
  failed : Option (AbortInfo × Word)
  ms : MemSys
deriving DecidableEq, Repr

/-- Read words at addresses in order up to the first abort (R507, R542). None after it is read, also where the abort is external, of
which the spec says nothing: DESIGN CHOICE (assumption 31). Unsafe. -/
def readWords (k : Ctx) : List Word → MemSys → Except Refusal ReadMany
  | [], ms => .ok { words := [], failed := none, ms := ms }
  | a :: as, ms =>
    match dataRead k false a ms with
    | .stop r => .error r
    | .abort i ms' => .ok { words := [], failed := some (i, a), ms := ms' }
    | .ok w ms' =>
      match readWords k as ms' with
      | .error r => .error r
      | .ok out => .ok { out with words := w :: out.words }

/-- What writing several words gives: the first abort with its address. -/
structure WriteMany where
  failed : Option (AbortInfo × Word)
  ms : MemSys
deriving DecidableEq, Repr

/-- Attempt the rest of a burst after an external abort, word by word as the environment chooses. An abort of one of these words, of
the MMU too, is not reported: R546 says which MMU abort decides among several, and nothing of one after an external abort. DESIGN
CHOICE (assumption 31). Unsafe. -/
def writeRest (k : Ctx) : List (Word × Word) → MemSys → Except Refusal MemSys
  | [], ms => .ok ms
  | (a, v) :: ws, ms =>
    if (ms.drawn 0).getLsbD 0 then
      match dataWrite k false a 15#4 v (ms.spend 1) with
      | .stop r => .error r
      | .ok _ ms' => writeRest k ws ms'
      | .abort _ ms' => writeRest k ws ms'
    else writeRest k ws (ms.spend 1)

/-- Write words at addresses in order up to the first abort (R507, R542); what stands before it has been written. -/
def writeWords (k : Ctx) : List (Word × Word) → MemSys → Except Refusal WriteMany
  | [], ms => .ok { failed := none, ms := ms }
  | (a, v) :: ws, ms =>
    match dataWrite k false a 15#4 v ms with
    | .stop r => .error r
    | .ok _ ms' => writeWords k ws ms'
    | .abort i ms' =>
      if i.status = .external then
        match writeRest k ws ms' with
        | .error r => .error r
        | .ok ms'' => .ok { failed := some (i, a), ms := ms'' }
      else .ok { failed := some (i, a), ms := ms' }

end Sys2Proof.Machine
end

