-- ==== Sys2Proof/Machine/Operands.lean ====
section
/-! DEFINITION. The operand forms: the shifter operand (spec/45_core_isa_supplement.md R482) and the addressing modes of the
loads and stores (R504, R506, R507; R261 for LDC and STC). -/

namespace Sys2Proof.Machine

/-- A shifter operand: its value and the shifter carry. -/
structure Shifted where
  value : Word
  carry : Bool
deriving DecidableEq, Repr

/-- Logical shift left by 0 to 31 (R482). -/
def shiftLsl (v : Word) (n : Nat) (c : Bool) : Shifted :=
  if n = 0 then { value := v, carry := c } else { value := v <<< n, carry := v.getLsbD (32 - n) }

/-- Logical shift right; 0 stands for 32 (R482). -/
def shiftLsr (v : Word) (n : Nat) : Shifted :=
  let k := if n = 0 then 32 else n
  { value := v >>> k, carry := v.getLsbD (k - 1) }

/-- Arithmetic shift right; 0 stands for 32 (R482). -/
def shiftAsr (v : Word) (n : Nat) : Shifted :=
  let k := if n = 0 then 32 else n
  { value := v.sshiftRight k, carry := v.getLsbD (k - 1) }

/-- Rotate right; 0 stands for RRX (R482). -/
def shiftRor (v : Word) (n : Nat) (c : Bool) : Shifted :=
  if n = 0 then { value := BitVec.ofBool c ++ v.extractLsb' 1 31, carry := v.getLsbD 0 }
  else { value := v.rotateRight n, carry := (v.rotateRight n).getLsbD 31 }

/-- A value shifted by an immediate amount (R482). -/
def shiftBy (kind : ShiftKind) (v : Word) (n : Nat) (c : Bool) : Shifted :=
  match kind with
  | .lsl => shiftLsl v n c
  | .lsr => shiftLsr v n
  | .asr => shiftAsr v n
  | .ror => shiftRor v n c

/-- The immediate operand: imm8 rotated right by twice rot; the carry is C when rot is 0, else bit 31 (R482). -/
def operandImm (op : ImmOp) (s : State) : Shifted :=
  let v := (op.imm8.setWidth 32).rotateRight (2 * op.rot.toNat)
  { value := v, carry := if op.rot = 0#4 then flagC s.cpu.cpsr else v.getLsbD 31 }

/-- The register operand (R482). -/
def operandReg (op : ShiftOp) (s : State) : Shifted :=
  shiftBy op.kind (s.reg op.rm) op.amount.toNat (flagC s.cpu.cpsr)

/-- A transfer's address, and the base's new value when the addressing writes it (R504). -/
structure Address where
  address : Word
  writeBack : Option Word
deriving DecidableEq, Repr

/-- Base plus or minus offset by U (R504). -/
def offsetBase (u : Bool) (base off : Word) : Word := if u then base + off else base - off

/-- Pre-indexed addressing when P = 1, writing the base with W = 1; post-indexed when P = 0, which always writes it
(R504). -/
def addressing (a : AddrMode) (base off : Word) : Address :=
  if a.p then
    { address := offsetBase a.u base off, writeBack := if a.w then some (offsetBase a.u base off) else none }
  else { address := base, writeBack := some (offsetBase a.u base off) }

/-- Post-indexed with W = 1 is the user-privilege form of a word or byte transfer (R504, R216). -/
def userForm (a : AddrMode) : Bool := !a.p && a.w

/-- The address of a word or byte transfer with an immediate offset (R504). -/
def addressImm (a : AddrMode) (rn : RegNum) (off : BitVec 12) (s : State) : Address :=
  addressing a (s.reg rn) (off.setWidth 32)

/-- The address of a word or byte transfer with a register offset (R504). -/
def addressReg (a : AddrMode) (rn : RegNum) (op : ShiftOp) (s : State) : Address :=
  addressing a (s.reg rn) (operandReg op s).value

/-- The offset of a halfword, signed or doubleword transfer (R506). -/
def halfOffset (off : HalfOffset) (s : State) : Word :=
  match off with
  | .imm v => v.setWidth 32
  | .reg _ rm => s.reg rm

/-- The address of a halfword, signed or doubleword transfer (R506). -/
def addressHalf (a : AddrMode) (rn : RegNum) (off : HalfOffset) (s : State) : Address :=
  addressing a (s.reg rn) (halfOffset off s)

/-- The registers of a list, in ascending order (R507). -/
def listedRegs (list : BitVec 16) : List RegNum := (List.finRange 16).filter fun r => list.getLsbD r.val

/-- The first word address of a transfer of n words, by P and U (R507). -/
def multipleStart (a : AddrMode) (base : Word) (n : Nat) : Word :=
  let size := BitVec.ofNat 32 (4 * n)
  match a.p, a.u with
  | false, true => base
  | true, true => base + 4#32
  | false, false => base - size + 4#32
  | true, false => base - size

/-- The base after a transfer of n words (R507). -/
def multipleBase (a : AddrMode) (base : Word) (n : Nat) : Word := offsetBase a.u base (BitVec.ofNat 32 (4 * n))

/-- The address of an LDC or STC: base and imm8 times 4, pre-indexed, post-indexed, or unindexed when P = W = 0. PRESUMED
from the ARM architecture (assumption 36). Unsafe. -/
def addressCoproc (a : CoprocMode) (rn : RegNum) (imm8 : BitVec 8) (s : State) : Address :=
  let off : Word := imm8.setWidth 32 <<< 2
  if !a.p && !a.w then { address := s.reg rn, writeBack := none }
  else addressing { p := a.p, u := a.u, w := a.w } (s.reg rn) off

end Sys2Proof.Machine
end

