-- ==== Sys2Proof/Machine/Flags.lean ====
section
/-! DEFINITION. The results and the flags of the data-processing opcodes (spec/45_core_isa_supplement.md R483). -/

namespace Sys2Proof.Machine

/-- What an opcode computes: the result and the C and V that go with it. -/
structure AluOut where
  value : Word
  carry : Bool
  overflow : Bool
deriving DecidableEq, Repr

/-- 1 for true, 0 for false. -/
def bitNat (b : Bool) : Nat := if b then 1 else 0

/-- ADD-type (R483): C is the carry out of bit 31, V the signed overflow. -/
def addCarry (a b : Word) (c : Bool) : AluOut :=
  let v := a + b + BitVec.ofNat 32 (bitNat c)
  { value := v
    carry := decide (2 ^ 32 ≤ a.toNat + b.toNat + bitNat c)
    overflow := decide (v.toInt ≠ a.toInt + b.toInt + (bitNat c : Int)) }

/-- SUB-type (R483): a - b - NOT c; C is NOT borrow, V the signed overflow. -/
def subCarry (a b : Word) (c : Bool) : AluOut :=
  let v := a - b - BitVec.ofNat 32 (bitNat (!c))
  { value := v
    carry := decide (b.toNat + bitNat (!c) ≤ a.toNat)
    overflow := decide (v.toInt ≠ a.toInt - b.toInt - (bitNat (!c) : Int)) }

/-- A logical result (R483): C is the shifter carry, V is unchanged. -/
def logical (v : Word) (o : Shifted) (psr : Word) : AluOut :=
  { value := v, carry := o.carry, overflow := flagV psr }

/-- The computation of each opcode, from the first operand, the shifter operand and the status register (R484 to R501). -/
def aluAnd (x : Word) (o : Shifted) (psr : Word) : AluOut := logical (x &&& o.value) o psr
def aluEor (x : Word) (o : Shifted) (psr : Word) : AluOut := logical (x ^^^ o.value) o psr
def aluSub (x : Word) (o : Shifted) (_psr : Word) : AluOut := subCarry x o.value true
def aluRsb (x : Word) (o : Shifted) (_psr : Word) : AluOut := subCarry o.value x true
def aluAdd (x : Word) (o : Shifted) (_psr : Word) : AluOut := addCarry x o.value false
def aluAdc (x : Word) (o : Shifted) (psr : Word) : AluOut := addCarry x o.value (flagC psr)
def aluSbc (x : Word) (o : Shifted) (psr : Word) : AluOut := subCarry x o.value (flagC psr)
def aluRsc (x : Word) (o : Shifted) (psr : Word) : AluOut := subCarry o.value x (flagC psr)
def aluOrr (x : Word) (o : Shifted) (psr : Word) : AluOut := logical (x ||| o.value) o psr
def aluMov (_x : Word) (o : Shifted) (psr : Word) : AluOut := logical o.value o psr
def aluBic (x : Word) (o : Shifted) (psr : Word) : AluOut := logical (x &&& ~~~ o.value) o psr
def aluMvn (_x : Word) (o : Shifted) (psr : Word) : AluOut := logical (~~~ o.value) o psr

/-- A status register with N, Z, C and V replaced; Q and all else kept. -/
def withNzcv (psr : Word) (n z c v : Bool) : Word :=
  BitVec.ofBool n ++ BitVec.ofBool z ++ BitVec.ofBool c ++ BitVec.ofBool v ++ psr.extractLsb' 0 28

/-- The flags an opcode writes (R483). -/
def withAluFlags (psr : Word) (out : AluOut) : Word :=
  withNzcv psr (out.value.getLsbD 31) (out.value == 0#32) out.carry out.overflow

/-- The flags that bits [31:28] of a word give (R25, R255). -/
def withTopFlags (psr v : Word) : Word := v.extractLsb' 28 4 ++ psr.extractLsb' 0 28

end Sys2Proof.Machine
end

