-- ==== Sys2Proof/Machine/Branch.lean ====
section
/-! DEFINITION. The meanings of the branches (spec/45_core_isa_supplement.md R500 to R503). -/

namespace Sys2Proof.Machine

/-- A branch target: the instruction's address plus 8 plus four times the signed offset (R502). -/
def branchTarget (imm24 : BitVec 24) (s : State) : Word := s.cpu.pc + 8#32 + (imm24.signExtend 32 <<< 2)

/-- Write the link register of the current mode: the address of the next instruction (R502, R503). -/
def State.link (s : State) : State := s.setBankReg s.mode 14 (s.cpu.pc + 4#32)

/-- Go to a value that selects the state by bit 0 (R503). -/
def State.exchange (s : State) (v : Word) : State :=
  (s.setCpsr (withThumb s.cpu.cpsr (v.getLsbD 0))).branchTo (v &&& 0xFFFFFFFE#32)

/-- B (R502). -/
def execB (c : Cond) (imm24 : BitVec 24) (s : State) : Result :=
  s.conditionally c fun s => .next (s.branchTo (armTarget (branchTarget imm24 s)))

/-- BL (R502). -/
def execBl (c : Cond) (imm24 : BitVec 24) (s : State) : Result :=
  s.conditionally c fun s => .next (s.link.branchTo (armTarget (branchTarget imm24 s)))

/-- BX (R503). -/
def execBx (c : Cond) (rm : RegNum) (s : State) : Result :=
  s.conditionally c fun s => .next (s.exchange (s.reg rm))

/-- BLX: as BX after the link register is written (R503, assumption 25). -/
def execBlx (c : Cond) (rm : RegNum) (s : State) : Result :=
  s.conditionally c fun s => .next (s.link.exchange (s.link.reg rm))

end Sys2Proof.Machine
end

