-- ==== Sys2Proof/Machine/Cp15Registers.lean ====
section
/-! DEFINITION. What every CP15 access shares (spec/40_cp15_id_control.md R280 to R282), and the meanings of the reads and
writes of the CP15 registers c0 to c6, c9, c10, c13 and c15 (spec/40_, 41_, 42_, 43_). -/

namespace Sys2Proof.Machine

/-- The common rule (R280): the condition, then privilege, then the access; in User mode the Undefined instruction
exception (R258). -/
def cp15Access (c : Cond) (s : State) (body : State → Result) : Result :=
  s.conditionally c fun s => if s.privileged then body s else .next (takeUndefined s)

/-- Give Rd the value an MRC reads; r15 takes it as flags and the pc goes on (R281, R255). -/
def mrcFinish (rd : RegNum) (v : Word) (s : State) : State :=
  if rd = 15 then (s.setCpsr (withTopFlags s.cpu.cpsr v)).advance else (s.setReg rd v).advance

/-- The value an MCR writes; that of r15 is a free value (R255, assumption 37). -/
def mcrValue (rd : RegNum) (s : State) : Word := if rd = 15 then s.drawn 0 else s.reg rd

/-- The free values an MCR used. -/
def mcrSpend (rd : RegNum) (s : State) : State := if rd = 15 then s.spend 1 else s

/-- An MRC of a register every bit of which is known (R281). -/
def cp15Read (c : Cond) (rd : RegNum) (value : State → Word) (s : State) : Result :=
  cp15Access c s fun s => .next (mrcFinish rd (value s) s)

/-- An MRC of a register some bits of which are free (R281): value takes a drawn word for them. -/
def cp15ReadFree (c : Cond) (rd : RegNum) (value : State → Word → Word) (s : State) : Result :=
  cp15Access c s fun s => .next (mrcFinish rd (value s (s.drawn 0)) (s.spend 1))

/-- A word kept among those read of the Control Register, once (R291). -/
def keepRead (v : Word) (read : List Word) : List Word := if read.contains v then read else v :: read

/-- The value of an MRC noted as read of its register (D3, R260). -/
def State.noted (s : State) (f : LastRead → LastRead) : State := { s with lastRead := f s.lastRead }

/-- An MRC of a register with should-be-zero-or-preserved bits (R281): some bits are free, and the value is noted. -/
def cp15ReadNoted (c : Cond) (rd : RegNum) (value : State → Word → Word) (note : Word → LastRead → LastRead) (s : State) :
    Result :=
  cp15Access c s fun s => .next (mrcFinish rd (value s (s.drawn 0)) ((s.spend 1).noted (note (value s (s.drawn 0)))))

/-- The bits of a CP15 register that hold nothing: should be zero, should be one, and the fields that should be zero or preserved
(R15, R260). -/
structure Reserved where
  sbz : Word
  sbo : Word
  sbzp : List Word
deriving DecidableEq, Repr

/-- No such bits. -/
def Reserved.nothing : Reserved := { sbz := 0#32, sbo := 0#32, sbzp := [] }

/-- Should-be-zero bits alone. -/
def Reserved.zeros (m : Word) : Reserved := { sbz := m, sbo := 0#32, sbzp := [] }

/-- A word keeps to them, given the words that may be preserved, the last one read (R260), of the Control Register any one read
(R291): a preserved field holds zero or what it held in one of them (D3). -/
def Reserved.allows (r : Reserved) (read : List Word) (v : Word) : Bool :=
  v &&& r.sbz == 0#32 && v &&& r.sbo == r.sbo &&
    r.sbzp.all fun f => v &&& f == 0#32 || read.any fun w => v &&& f == w &&& f

/-- The Control Register (R33, R291). -/
def reservedControl : Reserved := { sbz := 0x00020C00#32, sbo := 0x00050078#32, sbzp := [0xFFF80000#32] }

/-- The fault status registers (R37); bit 8 is ignored. -/
def reservedFsr : Reserved := { sbz := 0#32, sbo := 0#32, sbzp := [0xFFFFFE00#32] }

/-- The cache lockdown registers (R40, R381). -/
def reservedLockdown : Reserved := { sbz := 0#32, sbo := 0x0000FFF0#32, sbzp := [0xFFFF0000#32] }

/-- The TCM region registers (R41, R617); the Size field is read-only, whatever is written to it (R389). -/
def reservedTcmRegion : Reserved := { sbz := 0#32, sbo := 0#32, sbzp := [0x00000FC0#32, 0x00000002#32] }

/-- The TLB Lockdown Register (R42, D9). -/
def reservedTlbLockdown : Reserved := { sbz := 0#32, sbo := 0#32, sbzp := [0xE0000000#32, 0x03FFFFFE#32] }

/-- The word an MCR writes may be written: it keeps to the reserved bits; the free value of r15 is taken as if it did: DESIGN CHOICE
(assumption 37). Unsafe. -/
def mcrAllowed (r : Reserved) (read : List Word) (rd : RegNum) (s : State) : Bool := rd == 15 || r.allows read (mcrValue rd s)

/-- An MCR (R282): write puts the stored fields. One that breaks the reserved bits is refused (D3, U39, assumption 33). -/
def cp15Write (c : Cond) (rd : RegNum) (r : Reserved) (read : LastRead → List Word) (write : Word → State → State) (s : State) :
    Result :=
  cp15Access c s fun s =>
    if mcrAllowed r (read s.lastRead) rd s then .next (write (mcrValue rd s) (mcrSpend rd s)).advance
    else .refused .reservedBits

/-- A write of a register whose reserved bits, if any, should be zero. -/
def cp15WriteZeros (c : Cond) (rd : RegNum) (sbz : Word) (write : Word → State → State) (s : State) : Result :=
  cp15Write c rd (Reserved.zeros sbz) (fun _ => []) write s

/-- An operation that a CP15 write starts; the word written is not used (R349). -/
def cp15Operation (c : Cond) (rd : RegNum) (op : State → State) (s : State) : Result :=
  cp15Access c s fun s => .next (op (mcrSpend rd s)).advance

/-- A write of CP15 registers alone. -/
def putCp15 (f : Word → Cp15 → Cp15) (v : Word) (s : State) : State := s.withCp15 (f v s.cp15)

/-- The ID Code Register (R30, R283). -/
def idCode (s : State) : Word := 0x41069260#32 ||| BitVec.ofNat 32 s.cfg.revision.val

/-- The Cache Type Register (R31, R284). -/
def cacheType (s : State) : Word :=
  0x1D012012#32 ||| (s.cfg.dcacheSize.code.setWidth 32 <<< 18) ||| (s.cfg.icacheSize.code.setWidth 32 <<< 6)

/-- The Control Register as read (R290): bits [31:19] are free. -/
def controlWord (s : State) (free : Word) : Word :=
  let k := s.cp15.ctrl
  free.extractLsb' 19 13 ++ 0b101#3 ++ BitVec.ofBool k.l4 ++ BitVec.ofBool k.rr ++ BitVec.ofBool k.v ++
    BitVec.ofBool k.i ++ 0#2 ++ BitVec.ofBool k.r ++ BitVec.ofBool k.s ++ BitVec.ofBool k.b ++ 15#4 ++
    BitVec.ofBool k.c ++ BitVec.ofBool k.a ++ BitVec.ofBool k.m

/-- The stored bits of a word written to the Control Register (R291). -/
def controlOf (v : Word) : Control where
  m := v.getLsbD 0
  a := v.getLsbD 1
  c := v.getLsbD 2
  b := v.getLsbD 7
  s := v.getLsbD 8
  r := v.getLsbD 9
  i := v.getLsbD 12
  v := v.getLsbD 13
  rr := v.getLsbD 14
  l4 := v.getLsbD 15

/-- Writing the Control Register (R291, R292): changing M, or turning the ICache on, flushes the prefetch buffer
(R160); changing B leaves the buffered writes on the byte lanes they were issued with (R108, assumption 62). -/
def writeControl (v : Word) (s : State) : State :=
  let new := controlOf v
  let old := s.cp15.ctrl
  { s with
    cp15 := { s.cp15 with ctrl := new }
    ms :=
      { s.ms with
        prefetch := if new.m != old.m || (new.i && !old.i) then [] else s.ms.prefetch } }

/-- The Translation Table Base Register as read (R310). -/
def ttbrWord (s : State) (free : Word) : Word := s.cp15.ttbr ++ free.extractLsb' 0 14

/-- A fault status register as read (R318): bits [31:9] free, bit 8 zero. -/
def fsrWord (f : BitVec 8) (free : Word) : Word := free.extractLsb' 9 23 ++ 0#1 ++ f

/-- A cache lockdown register as read (R380): bits [31:16] free, bits [15:4] ones. -/
def lockdownWord (l : BitVec 4) (free : Word) : Word := free.extractLsb' 16 16 ++ 0xFFF#12 ++ l

/-- A TCM region register as read (R388): bits [11:6] and [1] free. -/
def tcmRegionWord (r : TcmRegion) (size : TcmSize) (free : Word) : Word :=
  r.base ++ free.extractLsb' 6 6 ++ size.code ++ free.extractLsb' 1 1 ++ BitVec.ofBool r.enable

/-- The stored fields of a word written to a TCM region register (R389). -/
def tcmRegionOf (v : Word) : TcmRegion := { base := v.extractLsb' 12 20, enable := v.getLsbD 0 }

/-- Two fitted, enabled TCM regions share an address (R150). -/
def tcmRegionsOverlap (cfg : Config) (i d : TcmRegion) : Bool :=
  match cfg.itcmSize.log2, cfg.dtcmSize.log2 with
  | some j, some k => i.enable && d.enable && sameBlock (max j k) (i.base ++ 0#12) (d.base ++ 0#12)
  | _, _ => false

/-- A write of the TCM regions; one that breaks the reserved bits is refused (D3), and one that makes the regions overlap (U41,
assumption 39). -/
def writeTcmRegions (read : LastRead → List Word) (f : Word → Cp15 → Cp15) (c : Cond) (rd : RegNum) (s : State) : Result :=
  cp15Access c s fun s =>
    let cp := f (mcrValue rd s) s.cp15
    if mcrAllowed reservedTcmRegion (read s.lastRead) rd s = false then .refused .reservedBits
    else if tcmRegionsOverlap s.cfg cp.itcm cp.dtcm then .refused .tcmOverlap
    else .next ((mcrSpend rd s).withCp15 cp).advance

/-- The TLB Lockdown Register as read (R335, D9): the bits that hold nothing are free. -/
def tlbLockdownWord (s : State) (free : Word) : Word :=
  free.extractLsb' 29 3 ++ s.ms.victim ++ free.extractLsb' 1 25 ++ BitVec.ofBool s.ms.preserve

/-- The Debug Override Register as read (R400). -/
def debugOverrideWord (s : State) (free : Word) : Word :=
  free.extractLsb' 20 12 ++ s.cp15.dbgovr ++ free.extractLsb' 0 13

/-- The Trace Control Register as read (R405). -/
def traceControlWord (s : State) (free : Word) : Word :=
  free.extractLsb' 3 29 ++ s.cp15.tracectl ++ free.extractLsb' 0 1

/-- Read the ID Code Register (R283). -/
def execMrcId (c : Cond) (rd : RegNum) (s : State) : Result :=
  cp15Read c rd idCode s

/-- Read the Cache Type Register (R284). -/
def execMrcCacheType (c : Cond) (rd : RegNum) (s : State) : Result :=
  cp15Read c rd cacheType s

/-- Read the TCM Status Register (R285). -/
def execMrcTcmStatus (c : Cond) (rd : RegNum) (s : State) : Result :=
  cp15Read c rd (fun s => s.cfg.tcmStatusValue) s

/-- Read the ID Code Register by Opcode_2 = 3 (R286). -/
def execMrcIdAlias3 (c : Cond) (rd : RegNum) (s : State) : Result :=
  cp15Read c rd idCode s

/-- Read the ID Code Register by Opcode_2 = 4 (R286). -/
def execMrcIdAlias4 (c : Cond) (rd : RegNum) (s : State) : Result :=
  cp15Read c rd idCode s

/-- Read the ID Code Register by Opcode_2 = 5 (R286). -/
def execMrcIdAlias5 (c : Cond) (rd : RegNum) (s : State) : Result :=
  cp15Read c rd idCode s

/-- Read the ID Code Register by Opcode_2 = 6 (R286). -/
def execMrcIdAlias6 (c : Cond) (rd : RegNum) (s : State) : Result :=
  cp15Read c rd idCode s

/-- Read the ID Code Register by Opcode_2 = 7 (R286). -/
def execMrcIdAlias7 (c : Cond) (rd : RegNum) (s : State) : Result :=
  cp15Read c rd idCode s

/-- Read the Control Register (R290). -/
def execMrcControl (c : Cond) (rd : RegNum) (s : State) : Result :=
  cp15ReadNoted c rd controlWord (fun v l => { l with ctrl := keepRead v l.ctrl }) s

/-- Write the Control Register (R291). -/
def execMcrControl (c : Cond) (rd : RegNum) (s : State) : Result :=
  cp15Write c rd reservedControl (fun l => l.ctrl) writeControl s

/-- Read the Translation Table Base Register (R310). -/
def execMrcTtbr (c : Cond) (rd : RegNum) (s : State) : Result :=
  cp15ReadFree c rd ttbrWord s

/-- Write the Translation Table Base Register (R311). -/
def execMcrTtbr (c : Cond) (rd : RegNum) (s : State) : Result :=
  cp15WriteZeros c rd 0x00003FFF#32 (putCp15 fun v k => { k with ttbr := v.extractLsb' 14 18 }) s

/-- Read the Domain Access Control Register (R313). -/
def execMrcDacr (c : Cond) (rd : RegNum) (s : State) : Result :=
  cp15Read c rd (fun s => s.cp15.dacr) s

/-- Write the Domain Access Control Register (R314). -/
def execMcrDacr (c : Cond) (rd : RegNum) (s : State) : Result :=
  cp15WriteZeros c rd 0#32 (putCp15 fun v k => { k with dacr := v }) s

/-- Read the Data Fault Status Register (R318). -/
def execMrcDfsr (c : Cond) (rd : RegNum) (s : State) : Result :=
  cp15ReadNoted c rd (fun s => fsrWord s.cp15.dfsr) (fun v l => { l with dfsr := some v }) s

/-- Write the Data Fault Status Register (R319). -/
def execMcrDfsr (c : Cond) (rd : RegNum) (s : State) : Result :=
  cp15Write c rd reservedFsr (fun l => l.dfsr.toList) (putCp15 fun v k => { k with dfsr := v.extractLsb' 0 8 }) s

/-- Read the Instruction Fault Status Register (R320). -/
def execMrcIfsr (c : Cond) (rd : RegNum) (s : State) : Result :=
  cp15ReadNoted c rd (fun s => fsrWord s.cp15.ifsr) (fun v l => { l with ifsr := some v }) s

/-- Write the Instruction Fault Status Register (R321). -/
def execMcrIfsr (c : Cond) (rd : RegNum) (s : State) : Result :=
  cp15Write c rd reservedFsr (fun l => l.ifsr.toList) (putCp15 fun v k => { k with ifsr := v.extractLsb' 0 8 }) s

/-- Read the Fault Address Register (R323). -/
def execMrcFar (c : Cond) (rd : RegNum) (s : State) : Result :=
  cp15Read c rd (fun s => s.cp15.far) s

/-- Write the Fault Address Register (R324). -/
def execMcrFar (c : Cond) (rd : RegNum) (s : State) : Result :=
  cp15WriteZeros c rd 0#32 (putCp15 fun v k => { k with far := v }) s

/-- Read the DCache Lockdown Register (R380). -/
def execMrcDCacheLockdown (c : Cond) (rd : RegNum) (s : State) : Result :=
  cp15ReadNoted c rd (fun s => lockdownWord s.cp15.dlock) (fun v l => { l with dlock := some v }) s

/-- Write the DCache Lockdown Register (R381). -/
def execMcrDCacheLockdown (c : Cond) (rd : RegNum) (s : State) : Result :=
  cp15Write c rd reservedLockdown (fun l => l.dlock.toList) (putCp15 fun v k => { k with dlock := v.extractLsb' 0 4 }) s

/-- Read the ICache Lockdown Register (R382). -/
def execMrcICacheLockdown (c : Cond) (rd : RegNum) (s : State) : Result :=
  cp15ReadNoted c rd (fun s => lockdownWord s.cp15.ilock) (fun v l => { l with ilock := some v }) s

/-- Write the ICache Lockdown Register (R383). -/
def execMcrICacheLockdown (c : Cond) (rd : RegNum) (s : State) : Result :=
  cp15Write c rd reservedLockdown (fun l => l.ilock.toList) (putCp15 fun v k => { k with ilock := v.extractLsb' 0 4 }) s

/-- Read the data TCM Region Register (R388). -/
def execMrcDTcmRegion (c : Cond) (rd : RegNum) (s : State) : Result :=
  cp15ReadNoted c rd (fun s => tcmRegionWord s.cp15.dtcm s.cfg.dtcmSize) (fun v l => { l with dtcm := some v }) s

/-- Write the data TCM Region Register (R389). -/
def execMcrDTcmRegion (c : Cond) (rd : RegNum) (s : State) : Result :=
  writeTcmRegions (fun l => l.dtcm.toList) (fun v k => { k with dtcm := tcmRegionOf v }) c rd s

/-- Read the instruction TCM Region Register (R390). -/
def execMrcITcmRegion (c : Cond) (rd : RegNum) (s : State) : Result :=
  cp15ReadNoted c rd (fun s => tcmRegionWord s.cp15.itcm s.cfg.itcmSize) (fun v l => { l with itcm := some v }) s

/-- Write the instruction TCM Region Register (R391). -/
def execMcrITcmRegion (c : Cond) (rd : RegNum) (s : State) : Result :=
  writeTcmRegions (fun l => l.itcm.toList) (fun v k => { k with itcm := tcmRegionOf v }) c rd s

/-- Read the TLB Lockdown Register (R335). -/
def execMrcTlbLockdown (c : Cond) (rd : RegNum) (s : State) : Result :=
  cp15ReadNoted c rd tlbLockdownWord (fun v l => { l with tlbLock := some v }) s

/-- Write the TLB Lockdown Register (R336). -/
def execMcrTlbLockdown (c : Cond) (rd : RegNum) (s : State) : Result :=
  cp15Write c rd reservedTlbLockdown (fun l => l.tlbLock.toList)
    (fun v s => s.withMs { s.ms with victim := v.extractLsb' 26 3, preserve := v.getLsbD 0 }) s

/-- Read the FCSE PID Register (R340): bits [24:0] read as zero. -/
def execMrcFcsePid (c : Cond) (rd : RegNum) (s : State) : Result :=
  cp15Read c rd (fun s => s.cp15.fcsePid ++ 0#25) s

/-- Write the FCSE PID Register (R341). -/
def execMcrFcsePid (c : Cond) (rd : RegNum) (s : State) : Result :=
  cp15WriteZeros c rd 0x01FFFFFF#32 (putCp15 fun v k => { k with fcsePid := v.extractLsb' 25 7 }) s

/-- Read the Context ID Register (R343). -/
def execMrcContextId (c : Cond) (rd : RegNum) (s : State) : Result :=
  cp15Read c rd (fun s => s.cp15.contextId) s

/-- Write the Context ID Register, pulsing ETMPROCIDWR (R344). -/
def execMcrContextId (c : Cond) (rd : RegNum) (s : State) : Result :=
  cp15WriteZeros c rd 0#32
    (fun v s => { s with cp15 := { s.cp15 with contextId := v }, etmProcIdWr := true }) s

/-- Read the Debug Override Register (R400). -/
def execMrcDebugOverride (c : Cond) (rd : RegNum) (s : State) : Result :=
  cp15ReadFree c rd debugOverrideWord s

/-- Write the Debug Override Register (R401). -/
def execMcrDebugOverride (c : Cond) (rd : RegNum) (s : State) : Result :=
  cp15WriteZeros c rd 0xFFF01FFF#32 (putCp15 fun v k => { k with dbgovr := v.extractLsb' 13 7 }) s

/-- Read the Debug and Test Address Register (R403). -/
def execMrcDebugTestAddress (c : Cond) (rd : RegNum) (s : State) : Result :=
  cp15Read c rd (fun s => s.cp15.dtaddr) s

/-- Write the Debug and Test Address Register (R403). -/
def execMcrDebugTestAddress (c : Cond) (rd : RegNum) (s : State) : Result :=
  cp15WriteZeros c rd 0#32 (putCp15 fun v k => { k with dtaddr := v }) s

/-- Read the Memory Region Remap Register (R430): bits [31:16] are free (U16, assumption 50). -/
def execMrcMemoryRegionRemap (c : Cond) (rd : RegNum) (s : State) : Result :=
  cp15ReadFree c rd (fun s free => free.extractLsb' 16 16 ++ s.cp15.remap) s

/-- Write the Memory Region Remap Register (R430). -/
def execMcrMemoryRegionRemap (c : Cond) (rd : RegNum) (s : State) : Result :=
  cp15WriteZeros c rd 0xFFFF0000#32 (putCp15 fun v k => { k with remap := v.extractLsb' 0 16 }) s

/-- Read the Trace Control Register (R405). -/
def execMrcTraceControl (c : Cond) (rd : RegNum) (s : State) : Result :=
  cp15ReadFree c rd traceControlWord s

/-- Write the Trace Control Register (R405). -/
def execMcrTraceControl (c : Cond) (rd : RegNum) (s : State) : Result :=
  cp15WriteZeros c rd 0xFFFFFFF9#32 (putCp15 fun v k => { k with tracectl := v.extractLsb' 1 2 }) s

/-- Read the Cache Debug Control Register (R425). -/
def execMrcCacheDebugControl (c : Cond) (rd : RegNum) (s : State) : Result :=
  cp15ReadFree c rd (fun s free => free.extractLsb' 3 29 ++ s.cp15.cachedbg) s

/-- Write the Cache Debug Control Register (R425). -/
def execMcrCacheDebugControl (c : Cond) (rd : RegNum) (s : State) : Result :=
  cp15WriteZeros c rd 0xFFFFFFF8#32 (putCp15 fun v k => { k with cachedbg := v.extractLsb' 0 3 }) s

/-- Read the MMU Debug Control Register (R427). -/
def execMrcMmuDebugControl (c : Cond) (rd : RegNum) (s : State) : Result :=
  cp15ReadFree c rd (fun s free => free.extractLsb' 8 24 ++ s.cp15.mmudbg) s

/-- Write the MMU Debug Control Register (R427). -/
def execMcrMmuDebugControl (c : Cond) (rd : RegNum) (s : State) : Result :=
  cp15WriteZeros c rd 0xFFFFFF00#32 (putCp15 fun v k => { k with mmudbg := v.extractLsb' 0 8 }) s

end Sys2Proof.Machine
end

