-- ==== Sys2Proof/Machine/LoadStore.lean ====
section
/-! DEFINITION. The meanings of the word, byte, halfword and doubleword loads and stores, PLD and the swaps
(spec/45_core_isa_supplement.md R504 to R509). -/

namespace Sys2Proof.Machine

/-- Write the base register when the addressing does (R504); r15 as a base takes the value as a branch (assumption 32). -/
def State.writeBase (s : State) (rn : RegNum) (wb : Option Word) : State :=
  match wb with
  | none => s
  | some v => s.setReg rn v

/-- Go on in sequence, unless the base written was r15. -/
def State.advanceAfter (s : State) (rn : RegNum) (wb : Option Word) : State :=
  if wb.isSome ∧ rn = 15 then s else s.advance

/-- What a load to r15 does with the value: a word load may change state (R505); the narrower ones write the pc as any
other instruction (assumption 32). -/
def State.loadReg (s : State) (word : Bool) (rd : RegNum) (v : Word) : State :=
  if rd = 15 then (if word then s.loadPc v else s.setReg 15 v) else s.setReg rd v

/-- End a load: the base, then Rd; when both are one register, a free value (assumption 29). -/
def finishLoad (word : Bool) (rn rd : RegNum) (wb : Option Word) (v : Word) (s : State) : State :=
  let clash := wb.isSome && rn == rd
  let s' := (s.writeBase rn wb).loadReg word rd (if clash then s.drawn 0 else v)
  let s'' := if clash then s'.spend 1 else s'
  if rd = 15 then s'' else s''.advanceAfter rn wb

/-- End a store. -/
def finishStore (rn : RegNum) (wb : Option Word) (s : State) : State := (s.writeBase rn wb).advanceAfter rn wb

/-- What an instruction does with the answer of an access: go on, take the Data Abort (R541), or be refused. -/
def State.afterAccess {α : Type} (s : State) (a : Access α) (go : α → State → Result) : Result :=
  match a with
  | .ok v ms => go v (s.withMs ms)
  | .abort i ms => .next (takeDataAbort i (s.withMs ms))
  | .stop r => .refused r

/-- The alignment check of a word access with A = 1 (R110); with A = 0 the access goes on (R111). -/
def State.checkWord (s : State) (va : Word) (go : State → Result) : Result :=
  if s.cp15.ctrl.a ∧ wordAligned va = false then .next (takeDataAbort (alignmentAbort s.cp15 va) s) else go s

/-- The alignment check of an access whose misaligned form is Unpredictable with A = 0 (R111, assumption 44). -/
def State.checkStrict (s : State) (aligned : Bool) (va : Word) (go : State → Result) : Result :=
  if aligned then go s
  else if s.cp15.ctrl.a then .next (takeDataAbort (alignmentAbort s.cp15 va) s)
  else .refused .unpredictableAlignment

/-- What an access of a word or byte transfer reads: a user access in its user form (R216, assumption 28). -/
def State.transferCtx (s : State) (a : AddrMode) : Ctx := if userForm a then s.userCtx else s.ctx

/-- A word as LDR gives it: rotated right by 8 for each byte of misalignment (R111, R504). -/
def rotatedWord (va w : Word) : Word := w.rotateRight (8 * (va.extractLsb' 0 2).toNat)

/-- LDR at an address (R504). -/
def loadWord (a : AddrMode) (rn rd : RegNum) (adr : Address) (s : State) : Result :=
  s.checkWord adr.address fun s =>
    s.afterAccess (dataRead (s.transferCtx a) false adr.address s.ms) fun w s =>
      .next (finishLoad true rn rd adr.writeBack (rotatedWord adr.address w) s)

/-- LDRB at an address (R504). -/
def loadByte (a : AddrMode) (rn rd : RegNum) (adr : Address) (s : State) : Result :=
  s.afterAccess (dataRead (s.transferCtx a) false adr.address s.ms) fun w s =>
    .next (finishLoad false rn rd adr.writeBack ((byteOfWord s.cp15.ctrl.b adr.address w).setWidth 32) s)

/-- STR at an address: bits [1:0] are ignored (R504). -/
def storeWord (a : AddrMode) (rn rd : RegNum) (adr : Address) (s : State) : Result :=
  s.checkWord adr.address fun s =>
    s.afterAccess (dataWrite (s.transferCtx a) false adr.address 15#4 (s.stored rd) s.ms) fun _ s =>
      .next (finishStore rn adr.writeBack s)

/-- STRB at an address (R504). -/
def storeByte (a : AddrMode) (rn rd : RegNum) (adr : Address) (s : State) : Result :=
  s.afterAccess
    (dataWrite (s.transferCtx a) false adr.address (byteLanes s.cp15.ctrl.b adr.address)
      (byteOnLane s.cp15.ctrl.b adr.address ((s.stored rd).extractLsb' 0 8)) s.ms) fun _ s =>
      .next (finishStore rn adr.writeBack s)

/-- LDR with an immediate offset (R504). -/
def execLdrImm (c : Cond) (a : AddrMode) (rn rd : RegNum) (off : BitVec 12) (s : State) : Result :=
  s.conditionally c fun s => loadWord a rn rd (addressImm a rn off s) s

/-- LDR with a register offset (R504). -/
def execLdrReg (c : Cond) (a : AddrMode) (rn rd : RegNum) (op : ShiftOp) (s : State) : Result :=
  s.conditionally c fun s => loadWord a rn rd (addressReg a rn op s) s

/-- STR with an immediate offset (R504). -/
def execStrImm (c : Cond) (a : AddrMode) (rn rd : RegNum) (off : BitVec 12) (s : State) : Result :=
  s.conditionally c fun s => storeWord a rn rd (addressImm a rn off s) s

/-- STR with a register offset (R504). -/
def execStrReg (c : Cond) (a : AddrMode) (rn rd : RegNum) (op : ShiftOp) (s : State) : Result :=
  s.conditionally c fun s => storeWord a rn rd (addressReg a rn op s) s

/-- LDRB with an immediate offset (R504). -/
def execLdrbImm (c : Cond) (a : AddrMode) (rn rd : RegNum) (off : BitVec 12) (s : State) : Result :=
  s.conditionally c fun s => loadByte a rn rd (addressImm a rn off s) s

/-- LDRB with a register offset (R504). -/
def execLdrbReg (c : Cond) (a : AddrMode) (rn rd : RegNum) (op : ShiftOp) (s : State) : Result :=
  s.conditionally c fun s => loadByte a rn rd (addressReg a rn op s) s

/-- STRB with an immediate offset (R504). -/
def execStrbImm (c : Cond) (a : AddrMode) (rn rd : RegNum) (off : BitVec 12) (s : State) : Result :=
  s.conditionally c fun s => storeByte a rn rd (addressImm a rn off s) s

/-- STRB with a register offset (R504). -/
def execStrbReg (c : Cond) (a : AddrMode) (rn rd : RegNum) (op : ShiftOp) (s : State) : Result :=
  s.conditionally c fun s => storeByte a rn rd (addressReg a rn op s) s

/-- The halfword, signed and doubleword transfers have no post-indexed form with W = 1 (R506, assumption 28). -/
def State.checkHalfMode (s : State) (a : AddrMode) (go : State → Result) : Result :=
  if userForm a then .refused .unpredictableAddressing else go s

/-- LDRH and LDRSH at an address; the value of the halfword by the given extension (R506). -/
def loadHalf (extend : BitVec 16 → Word) (rn rd : RegNum) (adr : Address) (s : State) : Result :=
  s.checkStrict (halfAligned adr.address) adr.address fun s =>
    s.afterAccess (dataRead s.ctx false adr.address s.ms) fun w s =>
      .next (finishLoad false rn rd adr.writeBack (extend (halfOfWord s.cp15.ctrl.b adr.address w)) s)

/-- LDRSB at an address (R506). -/
def loadSignedByte (rn rd : RegNum) (adr : Address) (s : State) : Result :=
  s.afterAccess (dataRead s.ctx false adr.address s.ms) fun w s =>
    .next (finishLoad false rn rd adr.writeBack ((byteOfWord s.cp15.ctrl.b adr.address w).signExtend 32) s)

/-- STRH at an address (R506). -/
def storeHalf (rn rd : RegNum) (adr : Address) (s : State) : Result :=
  s.checkStrict (halfAligned adr.address) adr.address fun s =>
    s.afterAccess
      (dataWrite s.ctx false adr.address (halfLanes s.cp15.ctrl.b adr.address)
        (halfOnLanes s.cp15.ctrl.b adr.address ((s.stored rd).extractLsb' 0 16)) s.ms) fun _ s =>
      .next (finishStore rn adr.writeBack s)

/-- LDRH (R506). -/
def execLdrh (c : Cond) (a : AddrMode) (rn rd : RegNum) (off : HalfOffset) (s : State) : Result :=
  s.conditionally c fun s => s.checkHalfMode a fun s =>
    loadHalf (fun h => h.setWidth 32) rn rd (addressHalf a rn off s) s

/-- LDRSH (R506). -/
def execLdrsh (c : Cond) (a : AddrMode) (rn rd : RegNum) (off : HalfOffset) (s : State) : Result :=
  s.conditionally c fun s => s.checkHalfMode a fun s =>
    loadHalf (fun h => h.signExtend 32) rn rd (addressHalf a rn off s) s

/-- LDRSB (R506). -/
def execLdrsb (c : Cond) (a : AddrMode) (rn rd : RegNum) (off : HalfOffset) (s : State) : Result :=
  s.conditionally c fun s => s.checkHalfMode a fun s => loadSignedByte rn rd (addressHalf a rn off s) s

/-- STRH (R506). -/
def execStrh (c : Cond) (a : AddrMode) (rn rd : RegNum) (off : HalfOffset) (s : State) : Result :=
  s.conditionally c fun s => s.checkHalfMode a fun s => storeHalf rn rd (addressHalf a rn off s) s

/-- What follows the reading of several words: the Data Abort of the first that failed (R542), or the words. -/
def State.afterReads (s : State) (first : Word) (count : Nat) (r : Except Refusal ReadMany)
    (failed : List Word → State → State) (go : List Word → State → Result) : Result :=
  match r with
  | .error e => .refused e
  | .ok out =>
    match out.failed with
    | none => go out.words (s.withMs out.ms)
    | some (i, va) =>
      .next (takeDataAbort (multiAbort s.ctx first count i va) (failed out.words (s.withMs out.ms)))

/-- What follows the writing of several words: the Data Abort of the first that failed (R542), or going on. -/
def State.afterWrites (s : State) (first : Word) (count : Nat) (r : Except Refusal WriteMany) (failed : State → State)
    (go : State → Result) : Result :=
  match r with
  | .error e => .refused e
  | .ok out =>
    match out.failed with
    | none => go (s.withMs out.ms)
    | some (i, va) => .next (takeDataAbort (multiAbort s.ctx first count i va) (failed (s.withMs out.ms)))

/-- The register after one. -/
def nextReg (r : RegNum) : RegNum := Fin.ofNat 16 (r.val + 1)

/-- Rd of LDRD and STRD must be even (R506). -/
def State.checkPair (s : State) (rd : RegNum) (go : State → Result) : Result :=
  if rd.val % 2 = 1 then .refused .unpredictableRegisterPair else go s

/-- End LDRD: the base, then Rd and the register after it; one of them that is the written base takes a free value
(assumption 29). -/
def finishLoadPair (rn rd : RegNum) (wb : Option Word) (lo hi : Word) (s : State) : State :=
  let clash (r : RegNum) : Bool := wb.isSome && rn == r
  let s1 := (s.writeBase rn wb).setReg rd (if clash rd then s.drawn 0 else lo)
  let s2 := s1.setReg (nextReg rd) (if clash (nextReg rd) then s.drawn 0 else hi)
  let s3 := s2.spend 1
  if nextReg rd = 15 then s3 else s3.advanceAfter rn wb

/-- LDRD at an address (R506); an aborted LDRD writes no register (R541). An address that is a multiple of four and not of eight
is a fault with A = 1, as R506 says, where R110 speaks of a word access: DEDUCED (assumption 44). Unsafe. -/
def loadDouble (rn rd : RegNum) (adr : Address) (s : State) : Result :=
  s.checkStrict (doubleAligned adr.address) adr.address fun s =>
    s.afterReads adr.address 2 (readWords s.ctx [adr.address, adr.address + 4#32] s.ms) (fun _ s => s) fun ws s =>
      .next (finishLoadPair rn rd adr.writeBack (ws.getD 0 0#32) (ws.getD 1 0#32) s)

/-- STRD at an address (R506), aligned to eight bytes as LDRD's: DEDUCED (assumption 44). Unsafe. -/
def storeDouble (rn rd : RegNum) (adr : Address) (s : State) : Result :=
  s.checkStrict (doubleAligned adr.address) adr.address fun s =>
    s.afterWrites adr.address 2
      (writeWords s.ctx [(adr.address, s.stored rd), (adr.address + 4#32, s.stored (nextReg rd))] s.ms) id fun s =>
      .next (finishStore rn adr.writeBack s)

/-- LDRD (R506). -/
def execLdrd (c : Cond) (a : AddrMode) (rn rd : RegNum) (off : HalfOffset) (s : State) : Result :=
  s.conditionally c fun s => s.checkHalfMode a fun s => s.checkPair rd fun s =>
    loadDouble rn rd (addressHalf a rn off s) s

/-- STRD (R506). -/
def execStrd (c : Cond) (a : AddrMode) (rn rd : RegNum) (off : HalfOffset) (s : State) : Result :=
  s.conditionally c fun s => s.checkHalfMode a fun s => s.checkPair rd fun s =>
    storeDouble rn rd (addressHalf a rn off s) s

/-- SWP (R508, R117). Of Rm = r15 it writes the value that a store puts out, plus 8 or plus 12: R508 says r[Rm], which R21 makes
plus 8, and R504 says plus 8 or 12 of STR. DESIGN CHOICE (assumption 43). Unsafe. -/
def execSwp (c : Cond) (rn rd rm : RegNum) (s : State) : Result :=
  s.conditionally c fun s => s.checkStrict (wordAligned (s.reg rn)) (s.reg rn) fun s =>
    s.afterAccess (swapAccess s.ctx (s.reg rn) 15#4 (s.stored rm) s.ms) fun w s => .next (s.finish rd w)

/-- SWPB (R508, R117). Of Rm = r15 it writes a byte of the value that a store puts out: DESIGN CHOICE (assumption 43). Unsafe. -/
def execSwpb (c : Cond) (rn rd rm : RegNum) (s : State) : Result :=
  s.conditionally c fun s =>
    let va := s.reg rn
    let big := s.cp15.ctrl.b
    s.afterAccess
      (swapAccess s.ctx va (byteLanes big va) (byteOnLane big va ((s.stored rm).extractLsb' 0 8)) s.ms) fun w s =>
      .next (s.finish rd ((byteOfWord big va w).setWidth 32))

/-- PLD is a NOP (R119, R509). -/
def execPld (_i _u : Bool) (_rn : RegNum) (_off : BitVec 12) (s : State) : Result := .next s.advance

end Sys2Proof.Machine
end

