-- ==== Sys2Proof/Machine/Multiple.lean ====
section
/-! DEFINITION. The meanings of LDM and STM (spec/45_core_isa_supplement.md R507, R513; spec/60_exceptions.md R542). -/

namespace Sys2Proof.Machine

/-- The bank a register list names: User with the caret, but for an LDM that returns (R507). -/
def listMode (caret returns : Bool) (s : State) : BitVec 5 := if caret && !returns then 0b10000#5 else s.mode

/-- The listed register is the base register itself. -/
def isBase (m : BitVec 5) (rn r : RegNum) (s : State) : Bool :=
  if rn = 15 ∨ r = 15 then rn == r else physReg m r == physReg s.mode rn

/-- Write loaded words to listed registers of a bank; r15 apart. -/
def loadRegs (m : BitVec 5) : List (RegNum × Word) → State → State
  | [], s => s
  | (r, v) :: rest, s => loadRegs m rest (if r = 15 then s else s.setBankReg m r v)

/-- The loaded words with the registers they go to; a written base that is in the list takes a free value (assumption
29). -/
def loadedPairs (m : BitVec 5) (rn : RegNum) (writeBack : Bool) (regs : List RegNum) (words : List Word) (s : State) :
    List (RegNum × Word) :=
  (regs.zip words).map fun p => (p.1, if writeBack && isBase m rn p.1 s then s.drawn 0 else p.2)

/-- What an aborted LDM leaves of the registers read before the abort: each loaded or not, as the environment chooses; the
base is as it was (R542, assumption 30). -/
def partialLoad (m : BitVec 5) (rn : RegNum) (regs : List RegNum) (words : List Word) (s : State) : State :=
  (loadRegs m
    ((regs.zip words).filter fun p => (s.drawn 0).getLsbD p.1.val && !isBase m rn p.1 s) s).spend 1

/-- End an LDM: the base, the listed registers, and the pc if it is listed, as a load to the pc (R505) or a return from an
exception (R513). -/
def finishMultiple (caret : Bool) (rn : RegNum) (wb : Option Word) (regs : List RegNum) (words : List Word) (s : State) :
    Result :=
  let returns := caret && regs.contains 15
  let m := listMode caret returns s
  let pairs := loadedPairs m rn wb.isSome regs words s
  let s' := (loadRegs m pairs (s.writeBase rn wb)).spend 1
  match pairs.find? fun p => p.1 == 15 with
  | none => .next (s'.advanceAfter rn wb)
  | some p => if returns then returnFromException p.2 s' else .next (s'.loadPc p.2)

/-- LDM (R507). -/
def execLdm (c : Cond) (a : AddrMode) (caret : Bool) (rn : RegNum) (list : BitVec 16) (s : State) : Result :=
  s.conditionally c fun s =>
    let regs := listedRegs list
    let start := multipleStart a (s.reg rn) regs.length
    let wb := if a.w then some (multipleBase a (s.reg rn) regs.length) else none
    if regs = [] then .next (finishStore rn wb s)
    else
      s.checkWord start fun s =>
        s.afterReads start regs.length (readWords s.ctx (wordsFrom (armTarget start) regs.length) s.ms)
          (fun ws s => partialLoad (listMode caret (caret && regs.contains 15) s) rn regs ws s)
          (fun ws s => finishMultiple caret rn wb regs ws s)

/-- The words an STM stores (R507); a base in the list is stored as it was before (assumption 29). -/
def storedWords (caret : Bool) (regs : List RegNum) (s : State) : List Word :=
  regs.map fun r => if r = 15 then s.stored 15 else s.bankReg (listMode caret false s) r

/-- STM (R507). -/
def execStm (c : Cond) (a : AddrMode) (caret : Bool) (rn : RegNum) (list : BitVec 16) (s : State) : Result :=
  s.conditionally c fun s =>
    let regs := listedRegs list
    let start := multipleStart a (s.reg rn) regs.length
    let wb := if a.w then some (multipleBase a (s.reg rn) regs.length) else none
    if regs = [] then .next (finishStore rn wb s)
    else
      s.checkWord start fun s =>
        s.afterWrites start regs.length
          (writeWords s.ctx ((wordsFrom (armTarget start) regs.length).zip (storedWords caret regs s)) s.ms) id fun s =>
          .next (finishStore rn wb s)

end Sys2Proof.Machine
end

