-- ==== Sys2Proof/Machine/Status.lean ====
section
/-! DEFINITION. The meanings of MRS, MSR, SWI and the undefined words (spec/45_core_isa_supplement.md R510, R511, R514). -/

namespace Sys2Proof.Machine

/-- The bits of a status register that a field mask names: f, s, x, c from bit 3 down (R510). -/
def fieldBits (mask : BitVec 4) : Word :=
  (if mask.getLsbD 3 then 0xFF000000#32 else 0#32) ||| (if mask.getLsbD 2 then 0x00FF0000#32 else 0#32) |||
    (if mask.getLsbD 1 then 0x0000FF00#32 else 0#32) ||| (if mask.getLsbD 0 then 0x000000FF#32 else 0#32)

/-- The bits of the CPSR that MSR writes: in User mode only the f byte; never T or J (R510, assumption 26). The bits R22 calls
reserved, [26:25] and [23:8], are stored and read back as any other: DESIGN CHOICE (assumption 61). Unsafe. -/
def cpsrWriteBits (privileged : Bool) (mask : BitVec 4) : Word :=
  (if privileged then fieldBits mask else fieldBits mask &&& 0xFF000000#32) &&& 0xFEFFFFDF#32

/-- A register with the named bits replaced. -/
def replaceBits (old new bits : Word) : Word := (old &&& ~~~ bits) ||| (new &&& bits)

/-- MSR to the CPSR (R510); a mode field that names no mode faults (R23). -/
def writeCpsr (mask : BitVec 4) (v : Word) (s : State) : Result :=
  let new := replaceBits s.cpu.cpsr v (cpsrWriteBits s.privileged mask)
  if legalMode (modeOf new) then .next (s.setCpsr new).advance else .fault .illegalMode

/-- MSR to the SPSR of the current mode (R510). -/
def writeSpsr (mask : BitVec 4) (v : Word) (s : State) : Result :=
  match spsrIndex s.mode with
  | none => .refused .unpredictableSpsrWrite
  | some i =>
    .next { s with
      cpu := { s.cpu with
        spsr := s.cpu.spsr.set i.val (replaceBits (s.cpu.spsr.get i) v (fieldBits mask)) i.isLt } }.advance

/-- MSR (R510). -/
def writeStatus (r : Bool) (mask : BitVec 4) (v : Word) (s : State) : Result :=
  if r then writeSpsr mask v s else writeCpsr mask v s

/-- MRS (R510); the SPSR of User and System is a free value (assumption 27). -/
def execMrs (c : Cond) (r : Bool) (rd : RegNum) (s : State) : Result :=
  s.conditionally c fun s =>
    if r then
      match spsrIndex s.mode with
      | some i => .next (s.finish rd (s.cpu.spsr.get i))
      | none => .next ((s.finish rd (s.drawn 0)).spend 1)
    else .next (s.finish rd s.cpu.cpsr)

/-- MSR from a register (R510). -/
def execMsrReg (c : Cond) (r : Bool) (mask : BitVec 4) (rm : RegNum) (s : State) : Result :=
  s.conditionally c fun s => writeStatus r mask (s.reg rm) s

/-- MSR of an immediate (R510). -/
def execMsrImm (c : Cond) (r : Bool) (mask : BitVec 4) (op : ImmOp) (s : State) : Result :=
  s.conditionally c fun s => writeStatus r mask (operandImm op s).value s

/-- SWI takes the Software Interrupt exception (R511, R536). -/
def execSwi (c : Cond) (_imm24 : BitVec 24) (s : State) : Result :=
  s.conditionally c fun s => .next (takeException .swi (s.cpu.pc + 4#32) s)

/-- An undefined word takes the Undefined instruction exception (R514, R535). -/
def execUdf (c : Cond) (_hi : BitVec 20) (_lo : BitVec 4) (s : State) : Result :=
  s.conditionally c fun s => .next (takeUndefined s)

end Sys2Proof.Machine
end

