-- ==== Sys2Proof/Machine/Coprocessor.lean ====
section
/-! DEFINITION. The meanings of the CP15 accesses the spec does not define (spec/30_encoding.md R257), of the coprocessor
classes CP15 does not take (R258), and of the instructions for external coprocessors
(spec/44_coprocessor_interface.md). -/

namespace Sys2Proof.Machine

/-- Write to c0: Unpredictable in a privileged mode, Undefined in User mode (R287, R258). -/
def execCp15WriteC0 (c : Cond) (_op1 : BitVec 3) (_rd : RegNum) (_crm : BitVec 4) (_op2 : BitVec 3) (s : State) : Result :=
  cp15Access c s fun _ => .refused .unpredictableCp15

/-- Access to c4 (R316, R258). -/
def execCp15AccessC4 (c : Cond) (_op1 : BitVec 3) (_l : Bool) (_rd : RegNum) (_crm : BitVec 4) (_op2 : BitVec 3)
    (s : State) : Result :=
  cp15Access c s fun _ => .refused .unpredictableCp15

/-- Access to c11 (R338, R258). -/
def execCp15AccessC11 (c : Cond) (_op1 : BitVec 3) (_l : Bool) (_rd : RegNum) (_crm : BitVec 4) (_op2 : BitVec 3)
    (s : State) : Result :=
  cp15Access c s fun _ => .refused .unpredictableCp15

/-- Access to c12 (R338, R258). -/
def execCp15AccessC12 (c : Cond) (_op1 : BitVec 3) (_l : Bool) (_rd : RegNum) (_crm : BitVec 4) (_op2 : BitVec 3)
    (s : State) : Result :=
  cp15Access c s fun _ => .refused .unpredictableCp15

/-- Access to c14 (R338, R258). -/
def execCp15AccessC14 (c : Cond) (_op1 : BitVec 3) (_l : Bool) (_rd : RegNum) (_crm : BitVec 4) (_op2 : BitVec 3)
    (s : State) : Result :=
  cp15Access c s fun _ => .refused .unpredictableCp15

/-- Read of c8 (R333, R258). -/
def execCp15ReadC8 (c : Cond) (_rd : RegNum) (_crm : BitVec 4) (_op2 : BitVec 3) (s : State) : Result :=
  cp15Access c s fun _ => .refused .unpredictableCp15

/-- Any other CP15 access (R257, R258). -/
def execCp15Other (c : Cond) (_op1 : BitVec 3) (_l : Bool) (_crn : BitVec 4) (_rd : RegNum) (_crm : BitVec 4)
    (_op2 : BitVec 3) (s : State) : Result :=
  cp15Access c s fun _ => .refused .unpredictableCp15

/-- CDP to CP15 is Undefined in every mode (R258). -/
def execCdpCp15 (c : Cond) (_op1 _crn _crd : BitVec 4) (_op2 : BitVec 3) (_crm : BitVec 4) (s : State) : Result :=
  s.conditionally c fun s => .next (takeUndefined s)

/-- MCRR to CP15 is Undefined in every mode (R258). -/
def execMcrrCp15 (c : Cond) (_rn _rd : RegNum) (_op _crm : BitVec 4) (s : State) : Result :=
  s.conditionally c fun s => .next (takeUndefined s)

/-- MRRC to CP15 is Undefined in every mode (R258). -/
def execMrrcCp15 (c : Cond) (_rn _rd : RegNum) (_op _crm : BitVec 4) (s : State) : Result :=
  s.conditionally c fun s => .next (takeUndefined s)

/-- LDC to CP15 is Undefined in every mode (R258). -/
def execLdcCp15 (c : Cond) (_a : CoprocMode) (_rn : RegNum) (_crd : BitVec 4) (_imm8 : BitVec 8) (s : State) : Result :=
  s.conditionally c fun s => .next (takeUndefined s)

/-- STC to CP15 is Undefined in every mode (R258). -/
def execStcCp15 (c : Cond) (_a : CoprocMode) (_rn : RegNum) (_crd : BitVec 4) (_imm8 : BitVec 8) (s : State) : Result :=
  s.conditionally c fun s => .next (takeUndefined s)

/-- A coprocessor that can answer: fitted, and the interface enabled (R452). -/
def coprocessorPresent (s : State) (cp : BitVec 4) : Bool :=
  s.cfg.cpen && s.cfg.coprocessors.any fun n => n.val == cp.toNat

/-- The states of the handshake (R458). -/
inductive CpState
  | wait | go | absent | last
deriving DecidableEq, Repr

/-- Table 8-1 (R458). -/
def cpState (chs : BitVec 2) : CpState :=
  match chs.toNat with
  | 0 => .wait
  | 1 => .go
  | 2 => .absent
  | _ => .last

/-- The handshakes of several coprocessors combined: the top bits ANDed, the bottom bits ORed (R468). -/
def combineHandshakes (hs : List (BitVec 2)) : BitVec 2 :=
  BitVec.ofBool (hs.all fun h => h.getLsbD 1) ++ BitVec.ofBool (hs.any fun h => h.getLsbD 0)

/-- What the core sees in one cycle: CPDIN and CPBURST are ORed (R468). With nobody driving, ABSENT and zeros (R452). -/
def combineDrives (ds : List CpDrive) : CpDrive where
  chs := combineHandshakes (ds.map fun d => d.chs)
  cpdin := ds.foldr (fun d v => d.cpdin ||| v) 0#32
  cpburst := ds.foldr (fun d v => d.cpburst ||| v) 0#4

/-- The transfers GO, …, GO, LAST of an accepted instruction, with the word on CPDIN for each, and the cycles left after LAST; none
while LAST has not come. WAIT and ABSENT between them transfer nothing: DESIGN CHOICE (assumption 36). -/
def cpTransfers : List (List CpDrive) → Option (List Word × List (List CpDrive))
  | [] => none
  | ds :: later =>
    let d := combineDrives ds
    match cpState d.chs with
    | .last => some ([d.cpdin], later)
    | .go => (cpTransfers later).map fun r => (d.cpdin :: r.1, r.2)
    | .wait => cpTransfers later
    | .absent => cpTransfers later

/-- What the coprocessors answer to one instruction, with the cycles they drive afterwards. -/
inductive CpReply
  /-- Not yet: the instruction busy-waits. -/
  | waits (later : List (List CpDrive))
  | absent (later : List (List CpDrive))
  | accepts (words : List Word) (later : List (List CpDrive))
deriving DecidableEq, Repr

/-- The answer read from what the coprocessors drive, cycle by cycle (R458, R459). While they drive nothing yet, or have begun
transfers that they have not ended, the instruction waits. -/
def cpReply (drives : List (List CpDrive)) : CpReply :=
  match drives with
  | [] => .waits []
  | ds :: later =>
    match cpState (combineDrives ds).chs with
    | .wait => .waits later
    | .absent => .absent later
    | .go => (cpTransfers drives).elim (.waits drives) fun r => .accepts r.1 r.2
    | .last => (cpTransfers drives).elim (.waits drives) fun r => .accepts r.1 r.2

/-- The state with the cycles that the coprocessors still drive. -/
def State.withAnswers (s : State) (later : List (List CpDrive)) : State := { s with cpAnswers := later }

/-- CPBURST of the instruction in hand: it is driven in the cycle of the first answer, that on CHSDE, and kept while the instruction
busy-waits (R467); none while nobody has answered. -/
def State.cpburst (s : State) : Option (BitVec 4) :=
  s.cpPins.burst.or (s.cpAnswers.head?.map fun ds => (combineDrives ds).cpburst)

/-- A coprocessor instruction stays in Execute and busy-waits: it is not yet executed (R465). -/
def State.busyWaits (s : State) (later : List (List CpDrive)) : State :=
  { s with cpAnswers := later, executed := false, cpPins := { s.cpPins with waiting := true, burst := s.cpburst } }

/-- The handshake of one coprocessor instruction (R451, R452, R459): ABSENT takes the Undefined exception, a busy-wait leaves
the pc where it is so that an interrupt can come first (R465), acceptance performs the instruction. Coprocessor 14 is
refused (D26). -/
def handshake (cp : BitVec 4) (s : State) (go : List Word → State → Result) : Result :=
  if cp = 14#4 then .refused .debugCommsChannel
  else if coprocessorPresent s cp then
    match cpReply s.cpAnswers with
    | .waits later => .next (s.busyWaits later)
    | .absent later => .next (takeUndefined (s.withAnswers later))
    | .accepts words later => go words (s.withAnswers later)
  else .next (takeUndefined s)

/-- What the coprocessor is shown of an instruction it accepted: its bits [27:0], the level of nCPTRANS, the words on CPDOUT, and
CPABORT (R453, R461, R464, R466). -/
def State.sendCp (s : State) (cp : BitVec 4) (instr : BitVec 28) (words : List Word) (aborted : Bool) : State :=
  { s with
    cpOut := s.cpOut ++ [{ cp := cp, instr := instr, privileged := s.privileged, words := words, aborted := aborted }]
    cpPins := { s.cpPins with cpabort := aborted } }

/-- MCR: the coprocessor takes the register (R461). -/
def extMcr (cp : BitVec 4) (instr : BitVec 28) (rd : RegNum) (s : State) : Result :=
  handshake cp s fun _ s => .next ((mcrSpend rd s).sendCp cp instr [mcrValue rd s] false).advance

/-- MRC: the register, or the flags for r15, takes the word that comes with LAST (R461). -/
def extMrc (cp : BitVec 4) (instr : BitVec 28) (rd : RegNum) (s : State) : Result :=
  handshake cp s fun ws s => .next (mrcFinish rd (ws.getLastD 0#32) (s.sendCp cp instr [] false))

/-- CDP: the core's state changes only by the pc (R463). -/
def extCdp (cp : BitVec 4) (instr : BitVec 28) (s : State) : Result :=
  handshake cp s fun _ s => .next (s.sendCp cp instr [] false).advance

/-- MCRR: the coprocessor takes two registers, Rd the first (R461); for r15 a free value, as for MCR. DESIGN CHOICE (assumption
37). -/
def extMcrr (cp : BitVec 4) (instr : BitVec 28) (rn rd : RegNum) (s : State) : Result :=
  handshake cp s fun _ s =>
    let x := if rd = 15 then s.drawn 0 else s.reg rd
    let y := if rn = 15 then s.drawn 1 else s.reg rn
    .next ((s.spend 2).sendCp cp instr [x, y] false).advance

/-- MRRC: two registers take the coprocessor's words, Rd the first and then Rn (R461); a free value for a second word it does not
drive. Where Rd is Rn the second word stays, and a word for r15 is a branch. DESIGN CHOICE (assumptions 32 and 36). Unsafe. -/
def extMrrc (cp : BitVec 4) (instr : BitVec 28) (rn rd : RegNum) (s : State) : Result :=
  handshake cp s fun ws s =>
    let s' := ((s.setReg rd (ws.getD 0 0#32)).setReg rn (ws.getD 1 (s.drawn 0))).spend 1
    let told := s'.sendCp cp instr [] false
    .next (if rd = 15 ∨ rn = 15 then told else told.advance)

/-- P = U = N = W = 0 is Undefined (R261). -/
def undefinedMode (a : CoprocMode) : Bool := !a.p && !a.u && !a.n && !a.w

/-- LDC: the coprocessor takes as many words as it asks for (R464), from the addresses of assumption 36; an aborted one is
reported on CPABORT with the words read before the abort. -/
def extLdc (a : CoprocMode) (rn : RegNum) (cp : BitVec 4) (instr : BitVec 28) (imm8 : BitVec 8) (s : State) : Result :=
  if undefinedMode a then .next (takeUndefined s)
  else
    handshake cp s fun ws s =>
      let adr := addressCoproc a rn imm8 s
      if s.cp15.ctrl.a ∧ wordAligned adr.address = false then
        .next (takeDataAbort (alignmentAbort s.cp15 adr.address) (s.sendCp cp instr [] true))
      else
        s.afterReads adr.address ws.length (readWords s.ctx (wordsFrom (armTarget adr.address) ws.length) s.ms)
          (fun words s => s.sendCp cp instr words true)
          fun words s => .next (finishStore rn adr.writeBack (s.sendCp cp instr words false))

/-- STC: memory takes the words the coprocessor drives (R464), at the addresses of assumption 36; an aborted one is reported on
CPABORT. -/
def extStc (a : CoprocMode) (rn : RegNum) (cp : BitVec 4) (instr : BitVec 28) (imm8 : BitVec 8) (s : State) : Result :=
  if undefinedMode a then .next (takeUndefined s)
  else
    handshake cp s fun ws s =>
      let adr := addressCoproc a rn imm8 s
      if s.cp15.ctrl.a ∧ wordAligned adr.address = false then
        .next (takeDataAbort (alignmentAbort s.cp15 adr.address) (s.sendCp cp instr [] true))
      else
        s.afterWrites adr.address ws.length
          (writeWords s.ctx ((wordsFrom (armTarget adr.address) ws.length).zip ws) s.ms)
          (fun s => s.sendCp cp instr [] true)
          fun s => .next (finishStore rn adr.writeBack (s.sendCp cp instr [] false))

/-- Bits [27:0] of an instruction's word, which the coprocessor saw on CPINSTR (R453). -/
def shownBits (i : Instr) : BitVec 28 := (encode i).extractLsb' 0 28

/-- MCRR to an external coprocessor (R461). -/
def execMcrrExt (c : Cond) (rn rd : RegNum) (cp op crm : BitVec 4) (s : State) : Result :=
  s.conditionally c fun s => extMcrr cp (shownBits (.mcrrExt c rn rd cp op crm)) rn rd s

/-- MRRC to an external coprocessor (R461). -/
def execMrrcExt (c : Cond) (rn rd : RegNum) (cp op crm : BitVec 4) (s : State) : Result :=
  s.conditionally c fun s => extMrrc cp (shownBits (.mrrcExt c rn rd cp op crm)) rn rd s

/-- CDP to an external coprocessor (R463). -/
def execCdpExt (c : Cond) (op1 crn crd cp : BitVec 4) (op2 : BitVec 3) (crm : BitVec 4) (s : State) : Result :=
  s.conditionally c fun s => extCdp cp (shownBits (.cdpExt c op1 crn crd cp op2 crm)) s

/-- MCR to an external coprocessor (R461). -/
def execMcrExt (c : Cond) (op1 : BitVec 3) (crn : BitVec 4) (rd : RegNum) (cp : BitVec 4) (op2 : BitVec 3)
    (crm : BitVec 4) (s : State) : Result :=
  s.conditionally c fun s => extMcr cp (shownBits (.mcrExt c op1 crn rd cp op2 crm)) rd s

/-- MRC from an external coprocessor (R461). -/
def execMrcExt (c : Cond) (op1 : BitVec 3) (crn : BitVec 4) (rd : RegNum) (cp : BitVec 4) (op2 : BitVec 3)
    (crm : BitVec 4) (s : State) : Result :=
  s.conditionally c fun s => extMrc cp (shownBits (.mrcExt c op1 crn rd cp op2 crm)) rd s

/-- LDC to an external coprocessor (R464). -/
def execLdcExt (c : Cond) (a : CoprocMode) (rn : RegNum) (crd cp : BitVec 4) (imm8 : BitVec 8) (s : State) : Result :=
  s.conditionally c fun s => extLdc a rn cp (shownBits (.ldcExt c a rn crd cp imm8)) imm8 s

/-- STC from an external coprocessor (R464). -/
def execStcExt (c : Cond) (a : CoprocMode) (rn : RegNum) (crd cp : BitVec 4) (imm8 : BitVec 8) (s : State) : Result :=
  s.conditionally c fun s => extStc a rn cp (shownBits (.stcExt c a rn crd cp imm8)) imm8 s

/-- The addressing bits of an unconditional LDC or STC word: bits [24], [23:21] (R261). -/
def unconditionalMode (top : BitVec 2) (mid : BitVec 12) : CoprocMode :=
  { p := top.getLsbD 0, u := mid.getLsbD 11, n := mid.getLsbD 10, w := mid.getLsbD 9 }

/-- CDP2, MCR2, MRC2, LDC2, STC2 and the two-register forms (R470, D2): for CP15 refused; for another coprocessor as the
conditional form with the same fields. -/
def execCoprocUnconditional (top : BitVec 2) (mid : BitVec 12) (cp : BitVec 4) (low : BitVec 8) (s : State) : Result :=
  let l := mid.getLsbD 8
  let rn := regOf (mid.extractLsb' 4 4)
  let rd := regOf (mid.extractLsb' 0 4)
  let a := unconditionalMode top mid
  let shown := shownBits (.coprocUnconditional top mid cp low)
  if cp = 15#4 then .refused .cp15Unconditional
  else if top.getLsbD 1 then
    if low.getLsbD 4 then (if l then extMrc cp shown rd s else extMcr cp shown rd s) else extCdp cp shown s
  else if a.notTwoRegister then (if l then extLdc a rn cp shown low s else extStc a rn cp shown low s)
  else if l then extMrrc cp shown rn rd s
  else extMcrr cp shown rn rd s

end Sys2Proof.Machine
end

