-- ==== Sys2Proof/Machine/Cp15Cache.lean ====
section
/-! DEFINITION. The meanings of the CP15 c7 operations (spec/42_cp15_cache_tcm.md R347 to R371). -/

namespace Sys2Proof.Machine

/-- A cache maintenance operation (R347): not while a cache RAM is powered down (R585). -/
def cacheOperation (c : Cond) (rd : RegNum) (op : Word → State → MemSys → MemSys) (s : State) : Result :=
  cp15Access c s fun s =>
    if s.pins.icacheRam && s.pins.dcacheRam then
      .next ((mcrSpend rd s).withMs (op (mcrValue rd s) s (mcrSpend rd s).ms)).advance
    else .refused .ramPoweredDown

/-- The line a Set/Way operand names in the ICache (R349). -/
def atOperandI (v : Word) (s : State) (l : CacheLine) : Bool :=
  l.isAt s.cfg.icacheSize (operandSet s.cfg.icacheSize v) (operandWay v)

/-- The line a Set/Way operand names in the DCache (R349). -/
def atOperandD (v : Word) (s : State) (l : CacheLine) : Bool :=
  l.isAt s.cfg.dcacheSize (operandSet s.cfg.dcacheSize v) (operandWay v)

/-- The line an MVA operand hits (R349); no translation is made and FCSE does not apply (R103, R347). Where two ways hold one tag
the operation acts on both (assumption 40). -/
def atMva (v : Word) (l : CacheLine) : Bool := l.block == lineAddr v

/-- Invalidate ICache and DCache (R350). -/
def execMcrInvalidateCaches (c : Cond) (rd : RegNum) (s : State) : Result :=
  cacheOperation c rd (fun _ _ ms => dropILines (fun _ => true) (dropDLines (fun _ => true) ms)) s

/-- Invalidate ICache (R351). -/
def execMcrInvalidateICache (c : Cond) (rd : RegNum) (s : State) : Result :=
  cacheOperation c rd (fun _ _ ms => dropILines (fun _ => true) ms) s

/-- Invalidate ICache single entry by MVA (R352). -/
def execMcrInvalidateICacheMva (c : Cond) (rd : RegNum) (s : State) : Result :=
  cacheOperation c rd (fun v _ ms => dropILines (atMva v) ms) s

/-- Invalidate ICache single entry by Set/Way (R353). -/
def execMcrInvalidateICacheSetWay (c : Cond) (rd : RegNum) (s : State) : Result :=
  cacheOperation c rd (fun v s ms => dropILines (atOperandI v s) ms) s

/-- Invalidate DCache (R355). -/
def execMcrInvalidateDCache (c : Cond) (rd : RegNum) (s : State) : Result :=
  cacheOperation c rd (fun _ _ ms => dropDLines (fun _ => true) ms) s

/-- Invalidate DCache single entry by MVA (R356). -/
def execMcrInvalidateDCacheMva (c : Cond) (rd : RegNum) (s : State) : Result :=
  cacheOperation c rd (fun v _ ms => dropDLines (atMva v) ms) s

/-- Invalidate DCache single entry by Set/Way (R357). -/
def execMcrInvalidateDCacheSetWay (c : Cond) (rd : RegNum) (s : State) : Result :=
  cacheOperation c rd (fun v s ms => dropDLines (atOperandD v s) ms) s

/-- Clean DCache single entry by MVA (R360). -/
def execMcrCleanDCacheMva (c : Cond) (rd : RegNum) (s : State) : Result :=
  cacheOperation c rd (fun v _ ms => cleanLines (atMva v) ms) s

/-- Clean DCache single entry by Set/Way (R361). -/
def execMcrCleanDCacheSetWay (c : Cond) (rd : RegNum) (s : State) : Result :=
  cacheOperation c rd (fun v s ms => cleanLines (atOperandD v s) ms) s

/-- Clean and invalidate DCache entry by MVA (R362). -/
def execMcrCleanInvalidateDCacheMva (c : Cond) (rd : RegNum) (s : State) : Result :=
  cacheOperation c rd (fun v _ ms => dropDLines (atMva v) (cleanLines (atMva v) ms)) s

/-- Clean and invalidate DCache entry by Set/Way (R363). -/
def execMcrCleanInvalidateDCacheSetWay (c : Cond) (rd : RegNum) (s : State) : Result :=
  cacheOperation c rd (fun v s ms => dropDLines (atOperandD v s) (cleanLines (atOperandD v s) ms)) s

/-- What a prefetch of an ICache line does after the lookup missed (R354): a fault is recorded in the IFSR and raises nothing
(D4); a cachable line not in the ITCM is filled. Before the fill the hardware may act (R18) and other agents may write (R588), with
the MMU on as for any translated access. -/
def prefetchLine (mva : Word) (s : State) : Result :=
  let k := s.ctx
  match (if k.cp15.ctrl.m then translate k .fetch mva s.ms
    else .ok { pa := mva, c := false, b := false } (s.ms.meanwhile k)) with
  | .stop r => .refused r
  | .abort a ms =>
    .next { s with
      cp15 := { s.cp15 with ifsr := faultStatusWord a (ms.drawn 0) }
      ms := ms.spend 1 }.advance
  | .ok t ms =>
    match fetchRoute k (fetchType k k.cp15.ctrl.m t) t.pa with
    | .cache => .next (s.withMs (fillICache k mva t.pa ms)).advance
    | _ => .next (s.withMs ms).advance

/-- Prefetch ICache line (R354): bits [4:0] of the MVA are ignored; a hit does nothing. -/
def execMcrPrefetchICacheLine (c : Cond) (rd : RegNum) (s : State) : Result :=
  cp15Access c s fun s =>
    if s.pins.icacheRam && s.pins.dcacheRam then
      let mva := mcrValue rd s &&& 0xFFFFFFE0#32
      let s' := mcrSpend rd s
      match findLine s'.ms.icache (lineAddr mva) with
      | some _ => .next s'.advance
      | none => prefetchLine mva s'
    else .refused .ramPoweredDown

/-- How often in a row test-and-clean may find only clean lines while dirty ones remain: as many times as the largest cache
has lines (D5, assumption 38). -/
def testPatience : Nat := 4096

/-- The line one test-and-clean cleans (R365): none when no line is dirty; else one the environment picks, or none if the
lines it examined were clean and the fairness bound is not reached. -/
def testPick (s : State) : Option CacheLine :=
  match s.ms.dcache.filter CacheLine.dirty with
  | [] => none
  | l :: ls =>
    if (s.drawn 0).getLsbD 0 ∨ testPatience ≤ s.tcPatience then
      some ((l :: ls).getD ((s.drawn 0 >>> 2).toNat % (ls.length + 1)) l)
    else none

/-- The DCache has no dirty line. -/
def allClean (ms : MemSys) : Bool := ms.dcache.all fun l => !l.dirty

/-- The memory system after one test-and-clean, the complete cache at once with DBGOVR[19] (R366). -/
def afterTestClean (s : State) : MemSys :=
  if s.cp15.dbgovr.getLsbD 6 then cleanLines CacheLine.dirty s.ms
  else
    match testPick s with
    | none => s.ms
    | some l => cleanLines (fun x => x == l) s.ms

/-- Bit 30 of the value (R365): whether no line is dirty, sampled before or after the clean as the environment chooses
(D5); after it with DBGOVR[19]. -/
def testBit (s : State) : Bool :=
  let before := allClean s.ms
  let after := allClean (afterTestClean s)
  if before = after ∨ s.cp15.dbgovr.getLsbD 6 then after else if (s.drawn 0).getLsbD 1 then before else after

/-- The value test-and-clean returns: the bits other than bit 30 are free (R365). -/
def testValue (s : State) : Word :=
  (s.drawn 1).extractLsb' 31 1 ++ BitVec.ofBool (testBit s) ++ (s.drawn 1).extractLsb' 0 30

/-- The fairness counter after one test-and-clean. -/
def nextPatience (s : State) : Nat :=
  if allClean s.ms ∨ (testPick s).isSome then 0 else s.tcPatience + 1

/-- Test-and-clean (R365, R366, R368); with the second form the cache is invalidated when bit 30 is 1. -/
def testAndClean (invalidate : Bool) (c : Cond) (rd : RegNum) (s : State) : Result :=
  cp15Access c s fun s =>
    if s.pins.icacheRam && s.pins.dcacheRam then
      let cleaned := afterTestClean s
      let ms := if invalidate && testBit s then dropDLines (fun _ => true) cleaned else cleaned
      .next (mrcFinish rd (testValue s) { s with ms := ms.spend 2, tcPatience := nextPatience s })
    else .refused .ramPoweredDown

/-- Test and clean DCache (R365). -/
def execMrcTestClean (c : Cond) (rd : RegNum) (s : State) : Result :=
  testAndClean false c rd s

/-- Test, clean and invalidate DCache (R368). -/
def execMrcTestCleanInvalidate (c : Cond) (rd : RegNum) (s : State) : Result :=
  testAndClean true c rd s

/-- No write is pending for a TCM RAM without power. -/
def State.drainable (s : State) : Bool :=
  (s.pins.itcmRam || s.ms.itcmWb.isEmpty) && (s.pins.dtcmRam || s.ms.dtcmWb.isEmpty)

/-- An operation that drains the write buffers; refused where it would write a TCM RAM without power (R585, U52). -/
def drainOperation (c : Cond) (rd : RegNum) (op : State → State) (s : State) : Result :=
  cp15Access c s fun s => if s.drainable then .next (op (mcrSpend rd s)).advance else .refused .ramPoweredDown

/-- Drain write buffer (R370): every pending write, AHB and TCM, completes. -/
def execMcrDrainWriteBuffer (c : Cond) (rd : RegNum) (s : State) : Result :=
  drainOperation c rd (fun s => s.withMs s.ms.drainAll) s

/-- Wait for interrupt (R371): drain, then standby. -/
def execMcrWaitForInterrupt (c : Cond) (rd : RegNum) (s : State) : Result :=
  drainOperation c rd (fun s => { s with ms := s.ms.drainAll, standby := true }) s

end Sys2Proof.Machine
end

