-- ==== Sys2Proof/Machine/Cp15Tlb.lean ====
section
/-! DEFINITION. The meanings of the TLB operations of CP15 c8 (spec/41_cp15_mmu_regs.md R330, R331) and of the MMU test
operations of c15 (spec/43_cp15_test_debug.md R409 to R419). -/

namespace Sys2Proof.Machine

/-- An operation on the TLB RAM: not while it is powered down (R585), nor with an operand that breaks its reserved bits (D3). -/
def tlbWrite (r : Reserved) (c : Cond) (rd : RegNum) (op : Word → State → State) (s : State) : Result :=
  cp15Access c s fun s =>
    if s.pins.mmuRam = false then .refused .ramPoweredDown
    else if mcrAllowed r [] rd s then .next (op (mcrValue rd s) (mcrSpend rd s)).advance
    else .refused .reservedBits

/-- An operation on the TLB, whose operand has no reserved bits. -/
def tlbOperation (c : Cond) (rd : RegNum) (op : Word → State → MemSys → MemSys) (s : State) : Result :=
  tlbWrite .nothing c rd (fun v s => s.withMs (op v s s.ms)) s

/-- The invalidation of the whole set-associative part, whose operand should be zero (R330). -/
def tlbInvalidateAll (c : Cond) (rd : RegNum) (s : State) : Result :=
  tlbWrite (.zeros 0xFFFFFFFF#32) c rd (fun _ s => s.withMs (invalidateMain s.ms)) s

/-- The main TLB entry the Debug and Test Address Register selects: way [31], index [14:10] (R403). -/
def mainIndex (dtaddr : Word) : BitVec 6 := dtaddr.extractLsb' 31 1 ++ dtaddr.extractLsb' 10 5

/-- The lockdown TLB entry the Debug and Test Address Register selects: [28:26] (R403). -/
def lockIndex (dtaddr : Word) : BitVec 3 := dtaddr.extractLsb' 26 3

/-- The selected main TLB entry. -/
def selectedMain (s : State) : TlbEntry := s.ms.tlbMain.get (mainIndex s.cp15.dtaddr).toFin

/-- The selected lockdown TLB entry. -/
def selectedLock (s : State) : TlbEntry := s.ms.tlbLock.get (lockIndex s.cp15.dtaddr).toFin

/-- An entry's tag in the format of Table B-5 (R410). -/
def tagFormat (e : TlbEntry) : Word := e.tag ++ 0#5 ++ BitVec.ofBool e.valid ++ e.size

/-- An entry's address and protection in the format of Table B-6 (R412). -/
def paFormat (e : TlbEntry) : Word := e.pa ++ 0#2 ++ e.domain ++ e.ap ++ BitVec.ofBool e.c ++ BitVec.ofBool e.b

/-- The entry that the two storage registers describe (R414). -/
def entryOfFormats (tag pa : Word) : TlbEntry where
  valid := tag.getLsbD 4
  tag := tag.extractLsb' 10 22
  size := tag.extractLsb' 0 4
  pa := pa.extractLsb' 10 22
  domain := pa.extractLsb' 4 4
  ap := pa.extractLsb' 2 2
  c := pa.getLsbD 1
  b := pa.getLsbD 0

/-- A read of the TLB RAM (R410, R412, R415, R417). -/
def tlbRead (c : Cond) (rd : RegNum) (value : State → Word) (s : State) : Result :=
  cp15Access c s fun s =>
    if s.pins.mmuRam then .next (mrcFinish rd (value s) s) else .refused .ramPoweredDown

/-- A write of a storage register of the TLB RAM (R411, R413, R416, R418), some of whose bits should be zero. -/
def tlbStore (sbz : Word) (c : Cond) (rd : RegNum) (f : Word → Cp15 → Cp15) (s : State) : Result :=
  tlbWrite (.zeros sbz) c rd (putCp15 f) s

/-- A write of a tag storage register: bits [9:5] should be zero (R49). -/
def tlbStoreTag (c : Cond) (rd : RegNum) (f : Word → Cp15 → Cp15) (s : State) : Result :=
  tlbStore 0x000003E0#32 c rd f s

/-- A write of an address and protection storage register: bits [9:8] should be zero (R49). -/
def tlbStorePa (c : Cond) (rd : RegNum) (f : Word → Cp15 → Cp15) (s : State) : Result :=
  tlbStore 0x00000300#32 c rd f s

/-- Invalidate set-associative TLB (R330). -/
def execMcrInvalidateTlb (c : Cond) (rd : RegNum) (s : State) : Result :=
  tlbInvalidateAll c rd s

/-- Invalidate TLB single entry (R331). -/
def execMcrInvalidateTlbEntry (c : Cond) (rd : RegNum) (s : State) : Result :=
  tlbOperation c rd (fun v _ ms => invalidateEntry v ms) s

/-- Invalidate set-associative TLB, the instruction form (R330). -/
def execMcrInvalidateITlb (c : Cond) (rd : RegNum) (s : State) : Result :=
  tlbInvalidateAll c rd s

/-- Invalidate TLB single entry, the instruction form (R331). -/
def execMcrInvalidateITlbEntry (c : Cond) (rd : RegNum) (s : State) : Result :=
  tlbOperation c rd (fun v _ ms => invalidateEntry v ms) s

/-- Invalidate set-associative TLB, the data form (R330). -/
def execMcrInvalidateDTlb (c : Cond) (rd : RegNum) (s : State) : Result :=
  tlbInvalidateAll c rd s

/-- Invalidate TLB single entry, the data form (R331). -/
def execMcrInvalidateDTlbEntry (c : Cond) (rd : RegNum) (s : State) : Result :=
  tlbOperation c rd (fun v _ ms => invalidateEntry v ms) s

/-- Read tag in main TLB entry, by Opcode_1 = 4 (R410). -/
def execMrcMainTlbTag4 (c : Cond) (rd : RegNum) (s : State) : Result :=
  tlbRead c rd (fun s => tagFormat (selectedMain s)) s

/-- Write tag in main TLB entry, by Opcode_1 = 4 (R411). -/
def execMcrMainTlbTag4 (c : Cond) (rd : RegNum) (s : State) : Result :=
  tlbStoreTag c rd (fun v k => { k with tlbTagMain := v }) s

/-- Read PA and access permission data in main TLB entry, by Opcode_1 = 4 (R412). -/
def execMrcMainTlbPa4 (c : Cond) (rd : RegNum) (s : State) : Result :=
  tlbRead c rd (fun s => paFormat (selectedMain s)) s

/-- Write PA and access permission data in main TLB entry, by Opcode_1 = 4 (R413). -/
def execMcrMainTlbPa4 (c : Cond) (rd : RegNum) (s : State) : Result :=
  tlbStorePa c rd (fun v k => { k with tlbPaMain := v }) s

/-- Transfer main TLB entry into RAM, by Opcode_1 = 4 (R414). -/
def execMcrMainTlbTransfer4 (c : Cond) (rd : RegNum) (s : State) : Result :=
  tlbOperation c rd (fun _ s ms =>
    ms.setMain (mainIndex s.cp15.dtaddr) (entryOfFormats s.cp15.tlbTagMain s.cp15.tlbPaMain)) s

/-- Read tag in lockdown TLB entry, by Opcode_1 = 4 (R415). -/
def execMrcLockTlbTag4 (c : Cond) (rd : RegNum) (s : State) : Result :=
  tlbRead c rd (fun s => tagFormat (selectedLock s)) s

/-- Write tag in lockdown TLB entry, by Opcode_1 = 4 (R416). -/
def execMcrLockTlbTag4 (c : Cond) (rd : RegNum) (s : State) : Result :=
  tlbStoreTag c rd (fun v k => { k with tlbTagLock := v }) s

/-- Read PA and access permission data in lockdown TLB entry, by Opcode_1 = 4 (R417). -/
def execMrcLockTlbPa4 (c : Cond) (rd : RegNum) (s : State) : Result :=
  tlbRead c rd (fun s => paFormat (selectedLock s)) s

/-- Write PA and access permission data in lockdown TLB entry, by Opcode_1 = 4 (R418). -/
def execMcrLockTlbPa4 (c : Cond) (rd : RegNum) (s : State) : Result :=
  tlbStorePa c rd (fun v k => { k with tlbPaLock := v }) s

/-- Transfer lockdown TLB entry into RAM, by Opcode_1 = 4 (R419). -/
def execMcrLockTlbTransfer4 (c : Cond) (rd : RegNum) (s : State) : Result :=
  tlbOperation c rd (fun _ s ms =>
    ms.setLock (lockIndex s.cp15.dtaddr) (entryOfFormats s.cp15.tlbTagLock s.cp15.tlbPaLock)) s

/-- Read tag in main TLB entry, by Opcode_1 = 5 (R410). -/
def execMrcMainTlbTag5 (c : Cond) (rd : RegNum) (s : State) : Result :=
  tlbRead c rd (fun s => tagFormat (selectedMain s)) s

/-- Write tag in main TLB entry, by Opcode_1 = 5 (R411). -/
def execMcrMainTlbTag5 (c : Cond) (rd : RegNum) (s : State) : Result :=
  tlbStoreTag c rd (fun v k => { k with tlbTagMain := v }) s

/-- Read PA and access permission data in main TLB entry, by Opcode_1 = 5 (R412). -/
def execMrcMainTlbPa5 (c : Cond) (rd : RegNum) (s : State) : Result :=
  tlbRead c rd (fun s => paFormat (selectedMain s)) s

/-- Write PA and access permission data in main TLB entry, by Opcode_1 = 5 (R413). -/
def execMcrMainTlbPa5 (c : Cond) (rd : RegNum) (s : State) : Result :=
  tlbStorePa c rd (fun v k => { k with tlbPaMain := v }) s

/-- Transfer main TLB entry into RAM, by Opcode_1 = 5 (R414). -/
def execMcrMainTlbTransfer5 (c : Cond) (rd : RegNum) (s : State) : Result :=
  tlbOperation c rd (fun _ s ms =>
    ms.setMain (mainIndex s.cp15.dtaddr) (entryOfFormats s.cp15.tlbTagMain s.cp15.tlbPaMain)) s

/-- Read tag in lockdown TLB entry, by Opcode_1 = 5 (R415). -/
def execMrcLockTlbTag5 (c : Cond) (rd : RegNum) (s : State) : Result :=
  tlbRead c rd (fun s => tagFormat (selectedLock s)) s

/-- Write tag in lockdown TLB entry, by Opcode_1 = 5 (R416). -/
def execMcrLockTlbTag5 (c : Cond) (rd : RegNum) (s : State) : Result :=
  tlbStoreTag c rd (fun v k => { k with tlbTagLock := v }) s

/-- Read PA and access permission data in lockdown TLB entry, by Opcode_1 = 5 (R417). -/
def execMrcLockTlbPa5 (c : Cond) (rd : RegNum) (s : State) : Result :=
  tlbRead c rd (fun s => paFormat (selectedLock s)) s

/-- Write PA and access permission data in lockdown TLB entry, by Opcode_1 = 5 (R418). -/
def execMcrLockTlbPa5 (c : Cond) (rd : RegNum) (s : State) : Result :=
  tlbStorePa c rd (fun v k => { k with tlbPaLock := v }) s

/-- Transfer lockdown TLB entry into RAM, by Opcode_1 = 5 (R419). -/
def execMcrLockTlbTransfer5 (c : Cond) (rd : RegNum) (s : State) : Result :=
  tlbOperation c rd (fun _ s ms =>
    ms.setLock (lockIndex s.cp15.dtaddr) (entryOfFormats s.cp15.tlbTagLock s.cp15.tlbPaLock)) s

end Sys2Proof.Machine
end

