-- ==== Sys2Proof/Machine/DataProcessing.lean ====
section
/-! DEFINITION. The meanings of the data-processing instructions (spec/45_core_isa_supplement.md R482 to R501). -/

namespace Sys2Proof.Machine

/-- Write a data-processing result (R483): Rd, and the flags when S = 1; r15 is a branch, or with S = 1 a return from an
exception (R513). -/
def dpWrite (setFlags : Bool) (rd : RegNum) (out : AluOut) (s : State) : Result :=
  if rd = 15 ∧ setFlags then returnFromException out.value s
  else if rd = 15 then .next (s.setReg 15 out.value)
  else .next (((s.setReg rd out.value).setCpsr
    (if setFlags then withAluFlags s.cpu.cpsr out else s.cpu.cpsr)).advance)

/-- Write the flags of a compare (R483). -/
def dpFlags (out : AluOut) (s : State) : Result := .next ((s.setCpsr (withAluFlags s.cpu.cpsr out)).advance)

/-- A data-processing instruction with a result. -/
def dataProcess (alu : Word → Shifted → Word → AluOut) (c : Cond) (setFlags : Bool) (rn rd : RegNum)
    (operand : State → Shifted) (s : State) : Result :=
  s.conditionally c fun s => dpWrite setFlags rd (alu (s.reg rn) (operand s) s.cpu.cpsr) s

/-- A data-processing instruction without a result. -/
def dataCompare (alu : Word → Shifted → Word → AluOut) (c : Cond) (rn : RegNum) (operand : State → Shifted) (s : State) :
    Result :=
  s.conditionally c fun s => dpFlags (alu (s.reg rn) (operand s) s.cpu.cpsr) s

/-- MOV and MVN, which have no first operand. -/
def dataMove (alu : Word → Shifted → Word → AluOut) (c : Cond) (setFlags : Bool) (rd : RegNum) (operand : State → Shifted)
    (s : State) : Result :=
  s.conditionally c fun s => dpWrite setFlags rd (alu 0#32 (operand s) s.cpu.cpsr) s

/-- AND with an immediate (R490). -/
def execAndImm (c : Cond) (setFlags : Bool) (rn rd : RegNum) (op : ImmOp) (s : State) : Result :=
  dataProcess aluAnd c setFlags rn rd (operandImm op) s

/-- AND with a shifted register (R490). -/
def execAndReg (c : Cond) (setFlags : Bool) (rn rd : RegNum) (op : ShiftOp) (s : State) : Result :=
  dataProcess aluAnd c setFlags rn rd (operandReg op) s

/-- EOR with an immediate (R492). -/
def execEorImm (c : Cond) (setFlags : Bool) (rn rd : RegNum) (op : ImmOp) (s : State) : Result :=
  dataProcess aluEor c setFlags rn rd (operandImm op) s

/-- EOR with a shifted register (R492). -/
def execEorReg (c : Cond) (setFlags : Bool) (rn rd : RegNum) (op : ShiftOp) (s : State) : Result :=
  dataProcess aluEor c setFlags rn rd (operandReg op) s

/-- SUB with an immediate (R488). -/
def execSubImm (c : Cond) (setFlags : Bool) (rn rd : RegNum) (op : ImmOp) (s : State) : Result :=
  dataProcess aluSub c setFlags rn rd (operandImm op) s

/-- SUB with a shifted register (R488). -/
def execSubReg (c : Cond) (setFlags : Bool) (rn rd : RegNum) (op : ShiftOp) (s : State) : Result :=
  dataProcess aluSub c setFlags rn rd (operandReg op) s

/-- RSB with an immediate (R489). -/
def execRsbImm (c : Cond) (setFlags : Bool) (rn rd : RegNum) (op : ImmOp) (s : State) : Result :=
  dataProcess aluRsb c setFlags rn rd (operandImm op) s

/-- RSB with a shifted register (R489). -/
def execRsbReg (c : Cond) (setFlags : Bool) (rn rd : RegNum) (op : ShiftOp) (s : State) : Result :=
  dataProcess aluRsb c setFlags rn rd (operandReg op) s

/-- ADD with an immediate (R486). -/
def execAddImm (c : Cond) (setFlags : Bool) (rn rd : RegNum) (op : ImmOp) (s : State) : Result :=
  dataProcess aluAdd c setFlags rn rd (operandImm op) s

/-- ADD with a shifted register (R486). -/
def execAddReg (c : Cond) (setFlags : Bool) (rn rd : RegNum) (op : ShiftOp) (s : State) : Result :=
  dataProcess aluAdd c setFlags rn rd (operandReg op) s

/-- ADC with an immediate (R498). -/
def execAdcImm (c : Cond) (setFlags : Bool) (rn rd : RegNum) (op : ImmOp) (s : State) : Result :=
  dataProcess aluAdc c setFlags rn rd (operandImm op) s

/-- ADC with a shifted register (R498). -/
def execAdcReg (c : Cond) (setFlags : Bool) (rn rd : RegNum) (op : ShiftOp) (s : State) : Result :=
  dataProcess aluAdc c setFlags rn rd (operandReg op) s

/-- SBC with an immediate (R499). -/
def execSbcImm (c : Cond) (setFlags : Bool) (rn rd : RegNum) (op : ImmOp) (s : State) : Result :=
  dataProcess aluSbc c setFlags rn rd (operandImm op) s

/-- SBC with a shifted register (R499). -/
def execSbcReg (c : Cond) (setFlags : Bool) (rn rd : RegNum) (op : ShiftOp) (s : State) : Result :=
  dataProcess aluSbc c setFlags rn rd (operandReg op) s

/-- RSC with an immediate (R501). -/
def execRscImm (c : Cond) (setFlags : Bool) (rn rd : RegNum) (op : ImmOp) (s : State) : Result :=
  dataProcess aluRsc c setFlags rn rd (operandImm op) s

/-- RSC with a shifted register (R501). -/
def execRscReg (c : Cond) (setFlags : Bool) (rn rd : RegNum) (op : ShiftOp) (s : State) : Result :=
  dataProcess aluRsc c setFlags rn rd (operandReg op) s

/-- TST with an immediate (R496). -/
def execTstImm (c : Cond) (rn : RegNum) (_sbz : BitVec 4) (op : ImmOp) (s : State) : Result :=
  dataCompare aluAnd c rn (operandImm op) s

/-- TST with a shifted register (R496). -/
def execTstReg (c : Cond) (rn : RegNum) (_sbz : BitVec 4) (op : ShiftOp) (s : State) : Result :=
  dataCompare aluAnd c rn (operandReg op) s

/-- TEQ with an immediate (R497). -/
def execTeqImm (c : Cond) (rn : RegNum) (_sbz : BitVec 4) (op : ImmOp) (s : State) : Result :=
  dataCompare aluEor c rn (operandImm op) s

/-- TEQ with a shifted register (R497). -/
def execTeqReg (c : Cond) (rn : RegNum) (_sbz : BitVec 4) (op : ShiftOp) (s : State) : Result :=
  dataCompare aluEor c rn (operandReg op) s

/-- CMP with an immediate (R494). -/
def execCmpImm (c : Cond) (rn : RegNum) (_sbz : BitVec 4) (op : ImmOp) (s : State) : Result :=
  dataCompare aluSub c rn (operandImm op) s

/-- CMP with a shifted register (R494). -/
def execCmpReg (c : Cond) (rn : RegNum) (_sbz : BitVec 4) (op : ShiftOp) (s : State) : Result :=
  dataCompare aluSub c rn (operandReg op) s

/-- CMN with an immediate (R495). -/
def execCmnImm (c : Cond) (rn : RegNum) (_sbz : BitVec 4) (op : ImmOp) (s : State) : Result :=
  dataCompare aluAdd c rn (operandImm op) s

/-- CMN with a shifted register (R495). -/
def execCmnReg (c : Cond) (rn : RegNum) (_sbz : BitVec 4) (op : ShiftOp) (s : State) : Result :=
  dataCompare aluAdd c rn (operandReg op) s

/-- ORR with an immediate (R491). -/
def execOrrImm (c : Cond) (setFlags : Bool) (rn rd : RegNum) (op : ImmOp) (s : State) : Result :=
  dataProcess aluOrr c setFlags rn rd (operandImm op) s

/-- ORR with a shifted register (R491). -/
def execOrrReg (c : Cond) (setFlags : Bool) (rn rd : RegNum) (op : ShiftOp) (s : State) : Result :=
  dataProcess aluOrr c setFlags rn rd (operandReg op) s

/-- MOV with an immediate (R484). -/
def execMovImm (c : Cond) (setFlags : Bool) (_sbz : BitVec 4) (rd : RegNum) (op : ImmOp) (s : State) : Result :=
  dataMove aluMov c setFlags rd (operandImm op) s

/-- MOV with a shifted register (R484). -/
def execMovReg (c : Cond) (setFlags : Bool) (_sbz : BitVec 4) (rd : RegNum) (op : ShiftOp) (s : State) : Result :=
  dataMove aluMov c setFlags rd (operandReg op) s

/-- BIC with an immediate (R493). -/
def execBicImm (c : Cond) (setFlags : Bool) (rn rd : RegNum) (op : ImmOp) (s : State) : Result :=
  dataProcess aluBic c setFlags rn rd (operandImm op) s

/-- BIC with a shifted register (R493). -/
def execBicReg (c : Cond) (setFlags : Bool) (rn rd : RegNum) (op : ShiftOp) (s : State) : Result :=
  dataProcess aluBic c setFlags rn rd (operandReg op) s

/-- MVN with an immediate (R485). -/
def execMvnImm (c : Cond) (setFlags : Bool) (_sbz : BitVec 4) (rd : RegNum) (op : ImmOp) (s : State) : Result :=
  dataMove aluMvn c setFlags rd (operandImm op) s

/-- MVN with a shifted register (R485). -/
def execMvnReg (c : Cond) (setFlags : Bool) (_sbz : BitVec 4) (rd : RegNum) (op : ShiftOp) (s : State) : Result :=
  dataMove aluMvn c setFlags rd (operandReg op) s

/-- ADR of a label ahead: ADD from r15 without flags (R487). -/
def execAdrAhead (c : Cond) (rd : RegNum) (op : ImmOp) (s : State) : Result :=
  dataProcess aluAdd c false 15 rd (operandImm op) s

/-- ADR of a label behind: SUB from r15 without flags (R487). -/
def execAdrBehind (c : Cond) (rd : RegNum) (op : ImmOp) (s : State) : Result :=
  dataProcess aluSub c false 15 rd (operandImm op) s

end Sys2Proof.Machine
end

