-- ==== Sys2Proof/Machine/Dispatch.lean ====
section
/-! DEFINITION. One arm for each instruction, in the order of spec/opcode_table.json. -/

namespace Sys2Proof.Machine

/-- What an instruction does. -/
def exec (i : Instr) (s : State) : Host.Outcome State Fault Refusal :=
  match i with
  | .mrcId c rd => Sys2Proof.Machine.execMrcId c rd s
  | .mrcCacheType c rd => Sys2Proof.Machine.execMrcCacheType c rd s
  | .mrcTcmStatus c rd => Sys2Proof.Machine.execMrcTcmStatus c rd s
  | .mrcIdAlias3 c rd => Sys2Proof.Machine.execMrcIdAlias3 c rd s
  | .mrcIdAlias4 c rd => Sys2Proof.Machine.execMrcIdAlias4 c rd s
  | .mrcIdAlias5 c rd => Sys2Proof.Machine.execMrcIdAlias5 c rd s
  | .mrcIdAlias6 c rd => Sys2Proof.Machine.execMrcIdAlias6 c rd s
  | .mrcIdAlias7 c rd => Sys2Proof.Machine.execMrcIdAlias7 c rd s
  | .mrcControl c rd => Sys2Proof.Machine.execMrcControl c rd s
  | .mcrControl c rd => Sys2Proof.Machine.execMcrControl c rd s
  | .mrcTtbr c rd => Sys2Proof.Machine.execMrcTtbr c rd s
  | .mcrTtbr c rd => Sys2Proof.Machine.execMcrTtbr c rd s
  | .mrcDacr c rd => Sys2Proof.Machine.execMrcDacr c rd s
  | .mcrDacr c rd => Sys2Proof.Machine.execMcrDacr c rd s
  | .mrcDfsr c rd => Sys2Proof.Machine.execMrcDfsr c rd s
  | .mcrDfsr c rd => Sys2Proof.Machine.execMcrDfsr c rd s
  | .mrcIfsr c rd => Sys2Proof.Machine.execMrcIfsr c rd s
  | .mcrIfsr c rd => Sys2Proof.Machine.execMcrIfsr c rd s
  | .mrcFar c rd => Sys2Proof.Machine.execMrcFar c rd s
  | .mcrFar c rd => Sys2Proof.Machine.execMcrFar c rd s
  | .mcrWaitForInterrupt c rd => Sys2Proof.Machine.execMcrWaitForInterrupt c rd s
  | .mcrInvalidateICache c rd => Sys2Proof.Machine.execMcrInvalidateICache c rd s
  | .mcrInvalidateICacheMva c rd => Sys2Proof.Machine.execMcrInvalidateICacheMva c rd s
  | .mcrInvalidateICacheSetWay c rd => Sys2Proof.Machine.execMcrInvalidateICacheSetWay c rd s
  | .mcrInvalidateDCache c rd => Sys2Proof.Machine.execMcrInvalidateDCache c rd s
  | .mcrInvalidateDCacheMva c rd => Sys2Proof.Machine.execMcrInvalidateDCacheMva c rd s
  | .mcrInvalidateDCacheSetWay c rd => Sys2Proof.Machine.execMcrInvalidateDCacheSetWay c rd s
  | .mcrInvalidateCaches c rd => Sys2Proof.Machine.execMcrInvalidateCaches c rd s
  | .mcrCleanDCacheMva c rd => Sys2Proof.Machine.execMcrCleanDCacheMva c rd s
  | .mcrCleanDCacheSetWay c rd => Sys2Proof.Machine.execMcrCleanDCacheSetWay c rd s
  | .mcrDrainWriteBuffer c rd => Sys2Proof.Machine.execMcrDrainWriteBuffer c rd s
  | .mcrPrefetchICacheLine c rd => Sys2Proof.Machine.execMcrPrefetchICacheLine c rd s
  | .mcrCleanInvalidateDCacheMva c rd => Sys2Proof.Machine.execMcrCleanInvalidateDCacheMva c rd s
  | .mcrCleanInvalidateDCacheSetWay c rd => Sys2Proof.Machine.execMcrCleanInvalidateDCacheSetWay c rd s
  | .mrcTestClean c rd => Sys2Proof.Machine.execMrcTestClean c rd s
  | .mrcTestCleanInvalidate c rd => Sys2Proof.Machine.execMrcTestCleanInvalidate c rd s
  | .mcrInvalidateTlb c rd => Sys2Proof.Machine.execMcrInvalidateTlb c rd s
  | .mcrInvalidateTlbEntry c rd => Sys2Proof.Machine.execMcrInvalidateTlbEntry c rd s
  | .mcrInvalidateITlb c rd => Sys2Proof.Machine.execMcrInvalidateITlb c rd s
  | .mcrInvalidateITlbEntry c rd => Sys2Proof.Machine.execMcrInvalidateITlbEntry c rd s
  | .mcrInvalidateDTlb c rd => Sys2Proof.Machine.execMcrInvalidateDTlb c rd s
  | .mcrInvalidateDTlbEntry c rd => Sys2Proof.Machine.execMcrInvalidateDTlbEntry c rd s
  | .mrcDCacheLockdown c rd => Sys2Proof.Machine.execMrcDCacheLockdown c rd s
  | .mcrDCacheLockdown c rd => Sys2Proof.Machine.execMcrDCacheLockdown c rd s
  | .mrcICacheLockdown c rd => Sys2Proof.Machine.execMrcICacheLockdown c rd s
  | .mcrICacheLockdown c rd => Sys2Proof.Machine.execMcrICacheLockdown c rd s
  | .mrcDTcmRegion c rd => Sys2Proof.Machine.execMrcDTcmRegion c rd s
  | .mcrDTcmRegion c rd => Sys2Proof.Machine.execMcrDTcmRegion c rd s
  | .mrcITcmRegion c rd => Sys2Proof.Machine.execMrcITcmRegion c rd s
  | .mcrITcmRegion c rd => Sys2Proof.Machine.execMcrITcmRegion c rd s
  | .mrcTlbLockdown c rd => Sys2Proof.Machine.execMrcTlbLockdown c rd s
  | .mcrTlbLockdown c rd => Sys2Proof.Machine.execMcrTlbLockdown c rd s
  | .mrcFcsePid c rd => Sys2Proof.Machine.execMrcFcsePid c rd s
  | .mcrFcsePid c rd => Sys2Proof.Machine.execMcrFcsePid c rd s
  | .mrcContextId c rd => Sys2Proof.Machine.execMrcContextId c rd s
  | .mcrContextId c rd => Sys2Proof.Machine.execMcrContextId c rd s
  | .mrcDebugOverride c rd => Sys2Proof.Machine.execMrcDebugOverride c rd s
  | .mcrDebugOverride c rd => Sys2Proof.Machine.execMcrDebugOverride c rd s
  | .mrcDebugTestAddress c rd => Sys2Proof.Machine.execMrcDebugTestAddress c rd s
  | .mcrDebugTestAddress c rd => Sys2Proof.Machine.execMcrDebugTestAddress c rd s
  | .mrcMemoryRegionRemap c rd => Sys2Proof.Machine.execMrcMemoryRegionRemap c rd s
  | .mcrMemoryRegionRemap c rd => Sys2Proof.Machine.execMcrMemoryRegionRemap c rd s
  | .mrcTraceControl c rd => Sys2Proof.Machine.execMrcTraceControl c rd s
  | .mcrTraceControl c rd => Sys2Proof.Machine.execMcrTraceControl c rd s
  | .mrcMainTlbTag4 c rd => Sys2Proof.Machine.execMrcMainTlbTag4 c rd s
  | .mcrMainTlbTag4 c rd => Sys2Proof.Machine.execMcrMainTlbTag4 c rd s
  | .mrcMainTlbPa4 c rd => Sys2Proof.Machine.execMrcMainTlbPa4 c rd s
  | .mcrMainTlbPa4 c rd => Sys2Proof.Machine.execMcrMainTlbPa4 c rd s
  | .mcrMainTlbTransfer4 c rd => Sys2Proof.Machine.execMcrMainTlbTransfer4 c rd s
  | .mrcLockTlbTag4 c rd => Sys2Proof.Machine.execMrcLockTlbTag4 c rd s
  | .mcrLockTlbTag4 c rd => Sys2Proof.Machine.execMcrLockTlbTag4 c rd s
  | .mrcLockTlbPa4 c rd => Sys2Proof.Machine.execMrcLockTlbPa4 c rd s
  | .mcrLockTlbPa4 c rd => Sys2Proof.Machine.execMcrLockTlbPa4 c rd s
  | .mcrLockTlbTransfer4 c rd => Sys2Proof.Machine.execMcrLockTlbTransfer4 c rd s
  | .mrcMainTlbTag5 c rd => Sys2Proof.Machine.execMrcMainTlbTag5 c rd s
  | .mcrMainTlbTag5 c rd => Sys2Proof.Machine.execMcrMainTlbTag5 c rd s
  | .mrcMainTlbPa5 c rd => Sys2Proof.Machine.execMrcMainTlbPa5 c rd s
  | .mcrMainTlbPa5 c rd => Sys2Proof.Machine.execMcrMainTlbPa5 c rd s
  | .mcrMainTlbTransfer5 c rd => Sys2Proof.Machine.execMcrMainTlbTransfer5 c rd s
  | .mrcLockTlbTag5 c rd => Sys2Proof.Machine.execMrcLockTlbTag5 c rd s
  | .mcrLockTlbTag5 c rd => Sys2Proof.Machine.execMcrLockTlbTag5 c rd s
  | .mrcLockTlbPa5 c rd => Sys2Proof.Machine.execMrcLockTlbPa5 c rd s
  | .mcrLockTlbPa5 c rd => Sys2Proof.Machine.execMcrLockTlbPa5 c rd s
  | .mcrLockTlbTransfer5 c rd => Sys2Proof.Machine.execMcrLockTlbTransfer5 c rd s
  | .mrcCacheDebugControl c rd => Sys2Proof.Machine.execMrcCacheDebugControl c rd s
  | .mcrCacheDebugControl c rd => Sys2Proof.Machine.execMcrCacheDebugControl c rd s
  | .mrcMmuDebugControl c rd => Sys2Proof.Machine.execMrcMmuDebugControl c rd s
  | .mcrMmuDebugControl c rd => Sys2Proof.Machine.execMcrMmuDebugControl c rd s
  | .cp15WriteC0 c op1 rd crm op2 => Sys2Proof.Machine.execCp15WriteC0 c op1 rd crm op2 s
  | .cp15AccessC4 c op1 l rd crm op2 => Sys2Proof.Machine.execCp15AccessC4 c op1 l rd crm op2 s
  | .cp15AccessC11 c op1 l rd crm op2 => Sys2Proof.Machine.execCp15AccessC11 c op1 l rd crm op2 s
  | .cp15AccessC12 c op1 l rd crm op2 => Sys2Proof.Machine.execCp15AccessC12 c op1 l rd crm op2 s
  | .cp15AccessC14 c op1 l rd crm op2 => Sys2Proof.Machine.execCp15AccessC14 c op1 l rd crm op2 s
  | .cp15ReadC8 c rd crm op2 => Sys2Proof.Machine.execCp15ReadC8 c rd crm op2 s
  | .cp15Other c op1 l crn rd crm op2 => Sys2Proof.Machine.execCp15Other c op1 l crn rd crm op2 s
  | .cdpCp15 c op1 crn crd op2 crm => Sys2Proof.Machine.execCdpCp15 c op1 crn crd op2 crm s
  | .mcrrCp15 c rn rd op crm => Sys2Proof.Machine.execMcrrCp15 c rn rd op crm s
  | .mrrcCp15 c rn rd op crm => Sys2Proof.Machine.execMrrcCp15 c rn rd op crm s
  | .ldcCp15 c a rn crd imm8 => Sys2Proof.Machine.execLdcCp15 c a rn crd imm8 s
  | .stcCp15 c a rn crd imm8 => Sys2Proof.Machine.execStcCp15 c a rn crd imm8 s
  | .mcrrExt c rn rd cp op crm => Sys2Proof.Machine.execMcrrExt c rn rd cp op crm s
  | .mrrcExt c rn rd cp op crm => Sys2Proof.Machine.execMrrcExt c rn rd cp op crm s
  | .cdpExt c op1 crn crd cp op2 crm => Sys2Proof.Machine.execCdpExt c op1 crn crd cp op2 crm s
  | .mcrExt c op1 crn rd cp op2 crm => Sys2Proof.Machine.execMcrExt c op1 crn rd cp op2 crm s
  | .mrcExt c op1 crn rd cp op2 crm => Sys2Proof.Machine.execMrcExt c op1 crn rd cp op2 crm s
  | .ldcExt c a rn crd cp imm8 => Sys2Proof.Machine.execLdcExt c a rn crd cp imm8 s
  | .stcExt c a rn crd cp imm8 => Sys2Proof.Machine.execStcExt c a rn crd cp imm8 s
  | .coprocUnconditional top mid cp low => Sys2Proof.Machine.execCoprocUnconditional top mid cp low s
  | .andImm c setFlags rn rd op => Sys2Proof.Machine.execAndImm c setFlags rn rd op s
  | .andReg c setFlags rn rd op => Sys2Proof.Machine.execAndReg c setFlags rn rd op s
  | .eorImm c setFlags rn rd op => Sys2Proof.Machine.execEorImm c setFlags rn rd op s
  | .eorReg c setFlags rn rd op => Sys2Proof.Machine.execEorReg c setFlags rn rd op s
  | .subImm c setFlags rn rd op => Sys2Proof.Machine.execSubImm c setFlags rn rd op s
  | .subReg c setFlags rn rd op => Sys2Proof.Machine.execSubReg c setFlags rn rd op s
  | .rsbImm c setFlags rn rd op => Sys2Proof.Machine.execRsbImm c setFlags rn rd op s
  | .rsbReg c setFlags rn rd op => Sys2Proof.Machine.execRsbReg c setFlags rn rd op s
  | .addImm c setFlags rn rd op => Sys2Proof.Machine.execAddImm c setFlags rn rd op s
  | .addReg c setFlags rn rd op => Sys2Proof.Machine.execAddReg c setFlags rn rd op s
  | .adcImm c setFlags rn rd op => Sys2Proof.Machine.execAdcImm c setFlags rn rd op s
  | .adcReg c setFlags rn rd op => Sys2Proof.Machine.execAdcReg c setFlags rn rd op s
  | .sbcImm c setFlags rn rd op => Sys2Proof.Machine.execSbcImm c setFlags rn rd op s
  | .sbcReg c setFlags rn rd op => Sys2Proof.Machine.execSbcReg c setFlags rn rd op s
  | .rscImm c setFlags rn rd op => Sys2Proof.Machine.execRscImm c setFlags rn rd op s
  | .rscReg c setFlags rn rd op => Sys2Proof.Machine.execRscReg c setFlags rn rd op s
  | .tstImm c rn sbz op => Sys2Proof.Machine.execTstImm c rn sbz op s
  | .tstReg c rn sbz op => Sys2Proof.Machine.execTstReg c rn sbz op s
  | .teqImm c rn sbz op => Sys2Proof.Machine.execTeqImm c rn sbz op s
  | .teqReg c rn sbz op => Sys2Proof.Machine.execTeqReg c rn sbz op s
  | .cmpImm c rn sbz op => Sys2Proof.Machine.execCmpImm c rn sbz op s
  | .cmpReg c rn sbz op => Sys2Proof.Machine.execCmpReg c rn sbz op s
  | .cmnImm c rn sbz op => Sys2Proof.Machine.execCmnImm c rn sbz op s
  | .cmnReg c rn sbz op => Sys2Proof.Machine.execCmnReg c rn sbz op s
  | .orrImm c setFlags rn rd op => Sys2Proof.Machine.execOrrImm c setFlags rn rd op s
  | .orrReg c setFlags rn rd op => Sys2Proof.Machine.execOrrReg c setFlags rn rd op s
  | .movImm c setFlags sbz rd op => Sys2Proof.Machine.execMovImm c setFlags sbz rd op s
  | .movReg c setFlags sbz rd op => Sys2Proof.Machine.execMovReg c setFlags sbz rd op s
  | .bicImm c setFlags rn rd op => Sys2Proof.Machine.execBicImm c setFlags rn rd op s
  | .bicReg c setFlags rn rd op => Sys2Proof.Machine.execBicReg c setFlags rn rd op s
  | .mvnImm c setFlags sbz rd op => Sys2Proof.Machine.execMvnImm c setFlags sbz rd op s
  | .mvnReg c setFlags sbz rd op => Sys2Proof.Machine.execMvnReg c setFlags sbz rd op s
  | .adrAhead c rd op => Sys2Proof.Machine.execAdrAhead c rd op s
  | .adrBehind c rd op => Sys2Proof.Machine.execAdrBehind c rd op s
  | .b c imm24 => Sys2Proof.Machine.execB c imm24 s
  | .bl c imm24 => Sys2Proof.Machine.execBl c imm24 s
  | .bx c rm => Sys2Proof.Machine.execBx c rm s
  | .blx c rm => Sys2Proof.Machine.execBlx c rm s
  | .ldrImm c a rn rd off => Sys2Proof.Machine.execLdrImm c a rn rd off s
  | .ldrReg c a rn rd op => Sys2Proof.Machine.execLdrReg c a rn rd op s
  | .strImm c a rn rd off => Sys2Proof.Machine.execStrImm c a rn rd off s
  | .strReg c a rn rd op => Sys2Proof.Machine.execStrReg c a rn rd op s
  | .ldrbImm c a rn rd off => Sys2Proof.Machine.execLdrbImm c a rn rd off s
  | .ldrbReg c a rn rd op => Sys2Proof.Machine.execLdrbReg c a rn rd op s
  | .strbImm c a rn rd off => Sys2Proof.Machine.execStrbImm c a rn rd off s
  | .strbReg c a rn rd op => Sys2Proof.Machine.execStrbReg c a rn rd op s
  | .ldrh c a rn rd off => Sys2Proof.Machine.execLdrh c a rn rd off s
  | .strh c a rn rd off => Sys2Proof.Machine.execStrh c a rn rd off s
  | .ldrsb c a rn rd off => Sys2Proof.Machine.execLdrsb c a rn rd off s
  | .ldrsh c a rn rd off => Sys2Proof.Machine.execLdrsh c a rn rd off s
  | .ldrd c a rn rd off => Sys2Proof.Machine.execLdrd c a rn rd off s
  | .strd c a rn rd off => Sys2Proof.Machine.execStrd c a rn rd off s
  | .ldm c a caret rn list => Sys2Proof.Machine.execLdm c a caret rn list s
  | .stm c a caret rn list => Sys2Proof.Machine.execStm c a caret rn list s
  | .swp c rn rd rm => Sys2Proof.Machine.execSwp c rn rd rm s
  | .swpb c rn rd rm => Sys2Proof.Machine.execSwpb c rn rd rm s
  | .pld fromReg u rn off => Sys2Proof.Machine.execPld fromReg u rn off s
  | .mrs c r rd => Sys2Proof.Machine.execMrs c r rd s
  | .msrReg c r mask rm => Sys2Proof.Machine.execMsrReg c r mask rm s
  | .msrImm c r mask op => Sys2Proof.Machine.execMsrImm c r mask op s
  | .swi c imm24 => Sys2Proof.Machine.execSwi c imm24 s
  | .udf c hi lo => Sys2Proof.Machine.execUdf c hi lo s

end Sys2Proof.Machine
end

