-- ==== Sys2Proof/Machine/Cycle.lean ====
section
/-! DEFINITION. One step of the machine (spec/45_core_isa_supplement.md R516): scan chain 15, the instruction boundary, the
pipeline, the instruction. -/

namespace Sys2Proof.Machine

/-- What the environment does to the TLB between two instructions: it drops unlocked entries, and with the MMU on it may walk
ahead (R18, R227, assumption 13). -/
def tlbTick (s : State) (ms : MemSys) : MemSys :=
  if s.pins.mmuRam then (if s.cp15.ctrl.m then churn s.ctx ms else ms.dropUnlocked) else ms

/-- The state after what may come between two instructions: other agents' writes (R588), and what the hardware does by itself
(R18): drain the buffers (R143), evict dirty lines, change the unlocked TLB. -/
def State.ticked (s : State) : State := s.withMs (tlbTick s (s.ms.meanwhile s.ctx))

/-- The same before an input or a scan chain access, since R18 says at any time; not in standby, when no access starts (R371,
R581). -/
def State.atLarge (s : State) : State := if s.standby then s else s.ticked

/-- The contents of TLB entry n after a reset while running, or after its RAM got its power back: unknown (D10, R585,
R595). -/
def MemSys.unknownEntry (ms : MemSys) (n : Nat) : TlbEntry :=
  TlbEntry.ofBits ((ms.drawn (2 * n) ++ ms.drawn (2 * n + 1)).extractLsb' 0 57)

/-- The memory system after a reset while running (R591, R593 to R595, D11): memory and TCMs as they were, buffers and
caches empty, the TLB unknown; what other agents are still to write is not the core's. -/
def MemSys.afterReset (ms : MemSys) : MemSys :=
  { MemSys.reset with
    mem := ms.mem, itcm := ms.itcm, dtcm := ms.dtcm
    tlbMain := Vector.ofFn fun i => ms.unknownEntry i.val
    tlbLock := Vector.ofFn fun i => ms.unknownEntry (64 + i.val)
    outside := ms.outside
    draws := ms.draws + 144 }

/-- Line n of a cache RAM that gets its power back, ways in turn: valid or not, and with any contents (R585). -/
def MemSys.unknownLine (size : CacheSize) (ms : MemSys) (n : Nat) : Option CacheLine :=
  let d (k : Nat) : Word := ms.drawn (11 * n + k)
  if (d 0).getLsbD 0 then
    some
      { way := BitVec.ofNat 2 (n / 2 ^ size.setBits)
        block := BitVec.ofNat 27 (n % 2 ^ size.setBits) + (d 1).setWidth 27 <<< size.setBits
        pa := (d 2).setWidth 27
        words := Vector.ofFn fun (i : Fin 8) => d (3 + i.val)
        dirtyLo := (d 0).getLsbD 1
        dirtyHi := (d 0).getLsbD 2 }
  else none

/-- The contents of a cache RAM that gets its power back. -/
def MemSys.unknownLines (size : CacheSize) (ms : MemSys) : List CacheLine :=
  (List.range (4 * 2 ^ size.setBits)).filterMap (ms.unknownLine size)

/-- The ICache RAM gets its power back. -/
def MemSys.icachePowered (size : CacheSize) (ms : MemSys) : MemSys :=
  { ms with icache := ms.unknownLines size, draws := ms.draws + 44 * 2 ^ size.setBits }

/-- The DCache RAM gets its power back. -/
def MemSys.dcachePowered (size : CacheSize) (ms : MemSys) : MemSys :=
  { ms with dcache := ms.unknownLines size, draws := ms.draws + 44 * 2 ^ size.setBits }

/-- The RAM of the MMU gets its power back. -/
def MemSys.mmuPowered (ms : MemSys) : MemSys :=
  { ms with
    tlbMain := Vector.ofFn fun i => ms.unknownEntry i.val
    tlbLock := Vector.ofFn fun i => ms.unknownEntry (64 + i.val)
    draws := ms.draws + 144 }

/-- The contents of a TCM RAM that gets its power back: any byte in each of its cells (R585, U52). -/
def MemSys.unknownTcm (size : TcmSize) (ms : MemSys) : Memory :=
  match size.log2 with
  | none => []
  | some n => Memory.ofBytes 0 ((List.range (2 ^ n)).map fun a => (ms.drawn a).setWidth 8)

/-- The free values that the contents of a TCM RAM take. -/
def tcmDraws (size : TcmSize) : Nat := size.log2.elim 0 fun n => 2 ^ n

/-- The RAM of the instruction TCM gets its power back. -/
def MemSys.itcmPowered (size : TcmSize) (ms : MemSys) : MemSys :=
  { ms with itcm := ms.unknownTcm size, draws := ms.draws + tcmDraws size }

/-- The RAM of the data TCM gets its power back. -/
def MemSys.dtcmPowered (size : TcmSize) (ms : MemSys) : MemSys :=
  { ms with dtcm := ms.unknownTcm size, draws := ms.draws + tcmDraws size }

/-- The power inputs change: a RAM that had no power and gets it holds unknown contents (R585, U52, assumption 40). -/
def State.setPower (icache dcache mmu itcm dtcm : Bool) (s : State) : State :=
  let ms1 := if icache && !s.pins.icacheRam then s.ms.icachePowered s.cfg.icacheSize else s.ms
  let ms2 := if dcache && !s.pins.dcacheRam then ms1.dcachePowered s.cfg.dcacheSize else ms1
  let ms3 := if mmu && !s.pins.mmuRam then ms2.mmuPowered else ms2
  let ms4 := if itcm && !s.pins.itcmRam then ms3.itcmPowered s.cfg.itcmSize else ms3
  let ms5 := if dtcm && !s.pins.dtcmRam then ms4.dtcmPowered s.cfg.dtcmSize else ms4
  { s with
    ms := ms5
    pins := { s.pins with icacheRam := icache, dcacheRam := dcache, mmuRam := mmu, itcmRam := itcm, dtcmRam := dtcm } }

/-- Reset while running (R534, R590, R591): the values of State.reset but for memory, the TLB, and what is not the core's:
its pins, the coprocessors, the debug logic, and what software has read of the processor (R291). -/
def State.resetPin (s : State) : State :=
  { State.resetWith s.cfg with
    ms := s.ms.afterReset, pins := s.pins, cpAnswers := s.cpAnswers, cpOut := s.cpOut, scan := s.scan
    inputs := s.inputs, lastRead := s.lastRead }

/-- Scan chain 15 updated (R575): with bit 32 set a new access waits; with it clear nothing is done and, with no access pending,
the data shifted in stays. While an access is pending a second one is not taken, and after a NOP the access-complete bit reads as
before: DESIGN CHOICE (assumption 59). Unsafe. -/
def Scan.update (c : Scan) (bits : BitVec 48) : Scan :=
  match c.request with
  | some _ => c
  | none =>
    if bits.getLsbD 32 then { request := some bits, data := bits.extractLsb' 0 32, complete := false }
    else { c with data := bits.extractLsb' 0 32 }

/-- One input taken (R18). -/
def State.receive (s : State) (i : Input) : State :=
  match i with
  | .lines nirq nfiq edbgrq fifofull =>
    { s with pins := { s.pins with nirq := nirq, nfiq := nfiq, edbgrq := edbgrq, fifofull := fifofull } }
  | .write store word lanes data => s.withMs (s.ms.writeFromOutside store word lanes data)
  | .during writes => s.withMs { s.ms with outside := s.ms.outside ++ writes }
  | .debugLines iebkpt dewpt ext =>
    { s with pins := { s.pins with dbgiebkpt := iebkpt, dbgdewpt := dewpt, dbgext := ext } }
  | .scan bits => { s with scan := s.scan.update bits }
  | .scanUpper bits => { s with scan := s.scan.update (bits ++ 1#1 ++ s.scan.data) }
  | .debugReset => { s with scan := Scan.reset }
  | .power icache dcache mmu itcm dtcm => s.setPower icache dcache mmu itcm dtcm
  | .reset => s.resetPin

/-- The inputs of this step taken (assumption 9), with what the hardware and other agents may do before each (R18). -/
def State.absorb (s : State) : State :=
  match s.inputs with
  | [] => s
  | now :: later => now.foldl (fun t i => t.atLarge.receive i) { s with inputs := later }

/-- The state in which a scan chain access is made (R575): Supervisor, with the data value in r0. -/
def scanState (s : State) (data : Word) : State :=
  { s with cpu := { s.cpu.setPhys 0 data with cpsr := 0x000000D3#32 } }

/-- A scan chain access done: the core's own state as it was, the value read in the data part (R575). After a write the data part
keeps the word written: R262 and R575 say what it holds for reads alone. DESIGN CHOICE (assumption 59). Unsafe. -/
def scanDone (s t : State) (write : Bool) (data : Word) : State :=
  { t with
    cpu := s.cpu, nonseq := s.nonseq
    scan := { request := none, data := if write then data else t.cpu.regs.get 0, complete := true } }

/-- What a request on scan chain 15 does (R262, R575): the CP15 operation R256 gives its fields, or a read of the ID register
when there is none. -/
def scanAccess (r : BitVec 48) (s : State) : Result :=
  let write := r.getLsbD 47
  let data : Word := r.extractLsb' 0 32
  match cp15Find (transferHi (r.extractLsb' 44 3) (!write) (r.extractLsb' 37 4))
      (transferLo 15#4 (r.extractLsb' 41 3) (r.extractLsb' 33 4)) with
  | none => .next { s with scan := { request := none, data := idCode s, complete := true } }
  | some f =>
    match exec (f .al 0) (scanState s data) with
    | .next t => .next (scanDone s t write data)
    | .fault e => .fault e
    | .refused e => .refused e

/-- The debugger's turn: only with DBGEN (D24), and in wait-for-interrupt too, where R371 has no external access start and the
spec says nothing of scan chain 15: DESIGN CHOICE (assumption 51). Unsafe. Between the last instruction and the access the hardware
may act (R18). -/
def scanPhase (s : State) : Result :=
  if s.cfg.dbgen then
    match s.scan.request with
    | none => .next s
    | some r => scanAccess r s.atLarge
  else .next s

/-- FIFOFULL stalls the core (R572): with ETMEN, unless an interrupt that the Trace Control Register lets count is
requested (R405), and at an instruction boundary only, so not while a coprocessor instruction busy-waits. -/
def traceStall (s : State) : Bool :=
  s.cfg.etmen && s.pins.fifofull && !s.cpPins.waiting && !(!s.pins.nfiq && !s.cp15.tracectl.getLsbD 1) &&
    !(!s.pins.nirq && !s.cp15.tracectl.getLsbD 0)

/-- A slot fetched now: at a nonsequential fetch the prefetch buffer is flushed first (R160). -/
def freshSlot (s : State) : Slot × MemSys :=
  fetchSlot s.ctx s.cpu.pc (if s.nonseq then { s.ms with prefetch := [] } else s.ms)

/-- The MVA of an instruction fetched later than its slot was: the slot's own, or, when M has changed since, the one that the new
M and the slot's FCSE PID give (R610, R611). -/
def lateMva (s : State) (slot : Slot) : Word :=
  if slot.mmuOn = s.cp15.ctrl.m then slot.mva else fcse { s.cp15 with fcsePid := slot.pid } slot.va

/-- The same instruction fetched later than its slot was: with the old FCSE PID (R610), under the new settings when M changed
(R611). -/
def lateFetch (s : State) (slot : Slot) : FetchOut := fetchAt s.ctx s.cp15.ctrl.m (lateMva s slot) s.ms

/-- The slot holds an instruction marked as breakpointed at its fetch (R570). -/
def Slot.breakpointed (slot : Slot) : Bool :=
  match slot.result with
  | .word _ => false
  | .abort _ => false
  | .stop _ => false
  | .breakpoint _ => true

/-- The instruction to execute, out of the pipeline: where a later fetch would have brought something else, the environment
picks, by a value drawn for that alone (R13, R621, assumption 20). One fetched as breakpointed stays so (R570), and one that
busy-waits is in Execute and stays what it is (R456, R465). -/
def pipelinedSlot (s : State) (slot : Slot) : Slot × MemSys :=
  let late := lateFetch s slot
  if s.cpPins.waiting ∨ late.result = slot.result ∨ slot.breakpointed then (slot, s.ms)
  else if (late.ms.drawn 0).getLsbD 0 then ({ slot with result := late.result }, late.ms.spend 1)
  else (slot, { s.ms with draws := late.ms.draws + 1 })

/-- The instruction to execute: the pipeline's first slot when it is the one at the pc and the fetch is sequential. -/
def currentSlot (s : State) : Slot × MemSys :=
  match s.pipe with
  | [] => freshSlot s
  | slot :: _ => if s.nonseq = false ∧ slot.va = s.cpu.pc then pipelinedSlot s slot else freshSlot s

/-- The slots that still follow the instruction to execute. -/
def followingSlots (s : State) : List Slot :=
  match s.pipe with
  | [] => []
  | slot :: rest => if s.nonseq = false ∧ slot.va = s.cpu.pc then rest else []

/-- Keep the next n slots of the pipeline filled, from an address on (R62). -/
def fillPipe (k : Ctx) : Nat → Word → List Slot → MemSys → List Slot × MemSys
  | 0, _, _, ms => ([], ms)
  | n + 1, va, slot :: rest, ms =>
    if slot.va = va then
      (slot :: (fillPipe k n (va + 4#32) rest ms).1, (fillPipe k n (va + 4#32) rest ms).2)
    else
      ((fetchSlot k va ms).1 :: (fillPipe k n (va + 4#32) [] (fetchSlot k va ms).2).1,
        (fillPipe k n (va + 4#32) [] (fetchSlot k va ms).2).2)
  | n + 1, va, [], ms =>
    ((fetchSlot k va ms).1 :: (fillPipe k n (va + 4#32) [] (fetchSlot k va ms).2).1,
      (fillPipe k n (va + 4#32) [] (fetchSlot k va ms).2).2)

/-- What the fetch of the instruction to execute brings. -/
def fetchedResult (s : State) : SlotResult := (currentSlot s.ticked).1.result

/-- The words that the fetches of slots brought. -/
def slotWords (slots : List Slot) : List Word := slots.filterMap fun slot => slot.result.shown

/-- DBGINSTREXEC: the instruction in Execute passed its condition (R456, R570); a busy-wait takes it back. HIGH for one that ends in
an exception of its own: DESIGN CHOICE (assumption 58). Unsafe. -/
def executesOf (r : SlotResult) (psr : Word) : Bool :=
  match r with
  | .word w => wordPasses w psr
  | .abort _ => false
  | .stop _ => false
  | .breakpoint _ => false

/-- The instruction to execute where it was fetched now: not where it comes from the pipeline as it stood there. -/
def currentFetched (s : State) : List Slot :=
  let current := (currentSlot s).1
  match s.pipe with
  | [] => [current]
  | slot :: _ => if s.nonseq = false ∧ slot.va = s.cpu.pc ∧ current = slot then [] else [current]

/-- How many of the first n slots, from an address on, fillPipe keeps. -/
def keptSlots : Nat → Word → List Slot → Nat
  | 0, _, _ => 0
  | _ + 1, _, [] => 0
  | n + 1, va, slot :: rest => if slot.va = va then keptSlots n (va + 4#32) rest + 1 else 0

/-- The state in which the instruction executes: it is fetched, and the two after it are (R62). CPINSTR shows every word fetched
now, that of a breakpointed instruction too (R453). With CPEN LOW, which "disables the external coprocessor interface" (R452), its
outputs are set all the same: the spec does not say what they show then. DESIGN CHOICE (assumption 58). Unsafe. -/
def State.prepared (s : State) : State :=
  let t := s.ticked
  let current := currentSlot t
  let filled := fillPipe t.ctx 2 (t.cpu.pc + 4#32) (followingSlots t) current.2
  { t with
    ms := filled.2, pipe := filled.1, nonseq := false, executed := executesOf current.1.result t.cpu.cpsr
    cpPins :=
      { cpinstr := slotWords (currentFetched t ++ filled.1.drop (keptSlots 2 (t.cpu.pc + 4#32) (followingSlots t)))
        cppass := cppassOf current.1.result t.cpu.cpsr
        cplatecancel := false, cpabort := false, waiting := false
        burst := if t.cpPins.waiting then t.cpPins.burst else none } }

/-- What a step adds to an instruction's answer: the instruction at the top of the address space must branch (R21, U57); one
that leaves the pc where it is waits in the pipeline (R465). -/
def afterInstruction (before : State) (slot : Slot) (r : Result) : Result :=
  match r with
  | .next t =>
    if t.nonseq then .next t
    else if armTarget before.cpu.pc = 0xFFFFFFFC#32 ∧ t.cpu.pc = before.cpu.pc + 4#32 then .refused .runsOffTop
    else if t.cpu.pc = before.cpu.pc then .next { t with pipe := slot :: t.pipe }
    else .next t
  | .fault e => .fault e
  | .refused e => .refused e

/-- A BKPT word. PRESUMED (assumption 53): R537 names the instruction, the spec gives it no encoding. Unsafe. -/
def isBreakpoint (w : Word) : Bool := w &&& 0xFFF000F0#32 == 0xE1200070#32

/-- BKPT (R537, D24): with DBGEN LOW a Prefetch Abort, of which the IFSR records nothing; else debug state. -/
def runBreakpoint (s : State) : Result :=
  if s.cfg.dbgen then .refused .debugState else .next (takeException .prefetchAbort (s.cpu.pc + 4#32) s)

/-- A fetched word executed (R516 steps 3 to 6): of the words that no row of the table matches, a BKPT has its effect, and any
other does nothing when its condition fails, and is refused when it passes (R514, D30). -/
def runWord (w : Word) (s : State) : Result :=
  match decode w with
  | some i => exec i s
  | none =>
    if isBreakpoint w then runBreakpoint s
    else match condOf (field w 28 4) with
    | some c => s.conditionally c fun _ => .refused .unspecifiedWord
    | none => .refused .unspecifiedWord

/-- One instruction in ARM state (R516 steps 1 to 6). -/
def runInstruction (s : State) : Result :=
  match fetchedResult s with
  | .stop r => .refused r
  | .breakpoint _ => .refused .debugState
  | .abort a => .next (takePrefetchAbort a s.prepared)
  | .word w => afterInstruction s (currentSlot s.ticked).1 (runWord w s.prepared)

/-- An interrupt taken at the boundary abandons a coprocessor instruction that busy-waits: CPLATECANCEL (R465). -/
def State.abandoned (s : State) : State :=
  { s with cpPins := { s.cpPins with cplatecancel := s.cpPins.waiting, waiting := false, burst := none } }

/-- The instruction boundary (R516 step 0, R550, R533): FIQ before IRQ, each when its line is LOW and its mask clear; then the
instruction. The link is the pc plus 4 in every state; R531 gives it for ARM state alone: DESIGN CHOICE (assumption 23). Unsafe.
Thumb and Jazelle state are refused (R517). -/
def runBoundary (s : State) : Result :=
  if s.pins.nfiq = false ∧ fiqMasked s.cpu.cpsr = false then .next (takeException .fiq (s.cpu.pc + 4#32) s.abandoned)
  else if s.pins.nirq = false ∧ irqMasked s.cpu.cpsr = false then
    .next (takeException .irq (s.cpu.pc + 4#32) s.abandoned)
  else if thumbBit s.cpu.cpsr then .refused .thumbState
  else if jazelleBit s.cpu.cpsr then .refused .jazelleState
  else runInstruction s

/-- What the last step showed for one step is over: the ETMPROCIDWR pulse (R344) and the coprocessor interface, but for the
instruction that busy-waits (R465). -/
def State.cleared (s : State) : State :=
  { s with
    etmProcIdWr := false, executed := false
    cpPins := { CpPins.idle with waiting := s.cpPins.waiting, burst := s.cpPins.burst } }

/-- The machine awake. -/
def State.awake (s : State) : State := { s with standby := false }

/-- One step after the debugger's turn: a debug request enters debug state, which is refused (R570); standby lasts until an
interrupt line is LOW, masked or not (R371, D6); a trace stall does nothing (R572). -/
def stepCore (s : State) : Result :=
  if s.cfg.dbgen && s.pins.edbgrq then .refused .debugState
  else if s.standby && s.pins.nirq && s.pins.nfiq then .next s
  else if traceStall s.awake then .next s.awake
  else runBoundary s.awake

/-- One step after the inputs are taken. -/
def stepInside (s : State) : Result :=
  match scanPhase s.cleared with
  | .next t => stepCore t
  | .fault e => .fault e
  | .refused e => .refused e

/-- The physical address of the next fetch, as far as the TLB or a table walk now gives it. Where its translation aborts or is
refused, the spec does not say whether the fetch uses the instruction TCM, and the MVA stands for the address: DESIGN CHOICE
(assumption 10). Safe. -/
def fetchAddress (s : State) : Word :=
  let mva := fcse s.cp15 s.cpu.pc
  if s.cp15.ctrl.m then
    match lookup s.cp15 .fetch mva s.ms with
    | .hit e => e.physical mva
    | .stop _ => mva
    | .miss =>
      match walk s.ctx s.ms s.ms (s.drawn 0) mva with
      | .entry e => e.physical mva
      | .fault _ _ => mva
      | .stop _ => mva
  else mva

/-- An input is a write of the instruction TCM from outside. -/
def Input.writesItcm (i : Input) : Bool :=
  match i with
  | .write .itcm _ _ _ => true
  | _ => false

/-- The core uses the instruction TCM: it executes from it, or has writes to it pending; IRIDLE is LOW (R157). -/
def usesItcm (s : State) : Bool :=
  !s.standby && (!s.ms.itcmWb.isEmpty || (tcmOffset s.cfg.itcmSize s.cp15.itcm (fetchAddress s)).isSome)

/-- DMA writes the instruction TCM now while the core uses it (R157, U49). -/
def itcmClash (s : State) : Bool := (s.inputs.headD []).any Input.writesItcm && usesItcm s

/-- The state once DMA to the instruction TCM has been checked against the core: the value that fetchAddress read is used. -/
def State.dmaChecked (s : State) : State := if (s.inputs.headD []).any Input.writesItcm then s.spend 1 else s

/-- One step (R516). DMA to the instruction TCM while the core uses it is refused (U49). -/
def stepAll (s : State) : Result := if itcmClash s then .refused .itcmDma else stepInside s.dmaChecked.absorb

/-- A program word loaded from outside where the next step fetches (D29, assumption 8): into the instruction TCM or the
memory on AHB, with nothing pending, cached, fetched ahead or still to be written by another agent in its way. -/
def loadFetchWord (s : State) (w : Word) : State :=
  let pa := fetchAddress s
  let held (l : CacheLine) : Bool := l.pa == lineAddr pa
  let ms := dropDLines held (cleanLines held s.ms).drainAll
  let loaded : MemSys :=
    match tcmOffset s.cfg.itcmSize s.cp15.itcm pa with
    | some off => { ms with itcm := ms.itcm.writeLanes off 15#4 w }
    | none => { ms with mem := ms.mem.writeLanes (wordAddr pa) 15#4 w }
  { s with
    ms := { loaded with
      outside := []
      icache := loaded.icache.filter fun l => !(l.block == lineAddr (fcse s.cp15 s.cpu.pc)) }
    nonseq := true }

end Sys2Proof.Machine
end

