-- ==== Sys2Proof/Machine/Step.lean ====
section
/-! DEFINITION. The step function and the loading of one instruction. -/

namespace Sys2Proof.Machine

/-- One step of the machine. -/
def step (s : State) : Host.Outcome State Fault Refusal := stepAll s

/-- The state with one instruction stored where the next step fetches (assumption 8); an instruction is one word. -/
def State.withFetchWord (s : State) (_nbits w : Nat) : State := loadFetchWord s (BitVec.ofNat 32 w)

end Sys2Proof.Machine
end

