-- ==== Sys2Proof/Safety.lean ====
section
/-! DEFINITION. What a safe run is, the invariant of the machine, and the words that the statements use: what memory holds,
where an access goes straight to AHB, and what an instruction leaves as it was. -/

namespace Sys2Proof.Machine

/-- A step goes on: it ends in no fault and no refusal. -/
def State.goesOn (s : State) : Prop := ∃ t, step s = .next t

/-- A run of n steps is safe: every one of them goes on. -/
def State.safeFor : Nat → State → Prop
  | 0, _ => True
  | n + 1, s => ∃ t, step s = .next t ∧ State.safeFor n t

/-- The three memories are in canonical form. -/
def MemSys.wf (ms : MemSys) : Bool := ms.mem.wf && ms.itcm.wf && ms.dtcm.wf

/-- The invariant that every step keeps: the memories are in canonical form, the mode is one of the seven (R23), and the two
TCM regions do not overlap (R150). -/
def State.inv (s : State) : Bool :=
  s.ms.wf && legalMode s.mode && !tcmRegionsOverlap s.cfg s.cp15.itcm s.cp15.dtcm

/-- A byte of the memory on AHB, the pending writes included. -/
def State.byteAt (s : State) (cell : Nat) : Byte := s.ms.settledMem.read cell

/-- A word of the memory on AHB, the pending writes included. -/
def State.wordAt (s : State) (word : BitVec 30) : Word := s.ms.settledMem.readWord word

/-- Some write of another agent still to come drives the byte in a cell, of the data TCM or of the memory on AHB (R588). -/
def MemSys.othersWrite (ms : MemSys) (toDtcm : Bool) (cell : Nat) : Bool :=
  ms.outside.any fun ws => ws.any fun w => w.toDtcm == toDtcm && w.word.toNat == cell / 4 && w.lanes.getLsbD (cell % 4)

/-- No other agent is to write a byte of this word of the memory on AHB. -/
def MemSys.alone (ms : MemSys) (word : BitVec 30) : Bool :=
  (List.range 4).all fun lane => !ms.othersWrite false (cellOf word lane)

/-- A data access at an address goes straight to AHB and is answered: the MMU and the DCache are off, the address lies in no
TCM, its slave does not answer ERROR (R100, R129, R130, R165), no watchpoint is asked for (R570), and no other agent is to write the
word (R588). -/
def State.plain (s : State) (a : Word) : Bool :=
  s.ms.alone (wordAddr a) && !s.ctx.watched && !s.cp15.ctrl.m && !s.cp15.ctrl.c && (tcmOffset s.cfg.dtcmSize s.cp15.dtcm a).isNone &&
    (tcmOffset s.cfg.itcmSize s.cp15.itcm a).isNone && !busError s.cfg (wordAddr a)

/-- Nothing but the core's own registers differs. -/
def onlyCore (s t : State) : Prop := t = { s with cpu := t.cpu, nonseq := t.nonseq }

/-- Nothing but the CP15 registers and the pc differs. -/
def onlyCp15 (s t : State) : Prop := t = { s with cp15 := t.cp15, cpu := { s.cpu with pc := t.cpu.pc } }

/-- Nothing but the memory system and the pc differs. -/
def onlyMemory (s t : State) : Prop := t = { s with ms := t.ms, cpu := { s.cpu with pc := t.cpu.pc } }

/-- The physical registers but those listed are as they were. -/
def sameRegsBut (ps : List (Fin 30)) (s t : State) : Prop :=
  ∀ p, p ∉ ps → t.cpu.regs.get p = s.cpu.regs.get p

/-- Nothing of the memory system differs but the memory on AHB, the writes that wait for it, how many writes to the TCMs still
wait, what other agents wrote by now of what they are to write, in which bytes of the data TCM, and how many values were drawn. -/
def onlyStores (ms ms' : MemSys) : Prop :=
  ms' = { ms with mem := ms'.mem, wbuf := ms'.wbuf, itcm := ms'.itcm, itcmWb := ms'.itcmWb, dtcm := ms'.dtcm,
                  dtcmWb := ms'.dtcmWb, outside := ms'.outside, draws := ms'.draws } ∧
    ms'.settledItcm = ms.settledItcm ∧
    (∀ cell, ms.othersWrite true cell = false → ms'.settledDtcm.read cell = ms.settledDtcm.read cell) ∧
    ms'.outside.flatten.Sublist ms.outside.flatten

/-- The memory on AHB holds the same bytes, pending writes included, but for those that another agent is to write (R588), and
nothing else of the memory system differs but what onlyStores names. -/
def sameBytes (ms ms' : MemSys) : Prop :=
  onlyStores ms ms' ∧
    ∀ cell, ms.othersWrite false cell = false → ms'.settledMem.read cell = ms.settledMem.read cell

/-- The cells that f names hold the bytes it gives, every other byte of the memory on AHB is as it was, pending writes
included, but for those that another agent is to write (R588), and nothing else of the memory system differs but what onlyStores
names. -/
def storesBytes (f : Nat → Option Byte) (ms ms' : MemSys) : Prop :=
  onlyStores ms ms' ∧
    ∀ cell, ms.othersWrite false cell = false →
      ms'.settledMem.read cell = (f cell).getD (ms.settledMem.read cell)

/-- The cell of a byte address: the same address, its low bits reversed when B = 1 (R106). -/
def byteCell (big : Bool) (a : Word) : Nat := if big then (a ^^^ 3#32).toNat else a.toNat

/-- The lower cell of an aligned halfword address (R106). -/
def halfCell (big : Bool) (a : Word) : Nat := if big then (a ^^^ 2#32).toNat else a.toNat

/-- The bytes of a word stored at an address, by cell; address bits [1:0] are ignored (R105, R106). -/
def wordBytes (a v : Word) (cell : Nat) : Option Byte :=
  if cell / 4 = a.toNat / 4 then some (v.extractLsb' (8 * (cell % 4)) 8) else none

/-- A bit in its place. -/
def bitAt (n : Nat) (b : Bool) : Word := if b then 1#32 <<< n else 0#32

/-- A boundary at which no input, no request of the debugger and no interrupt comes before the instruction, in ARM state, with
the machine awake. -/
def State.quiet (s : State) : Prop :=
  s.inputs = [] ∧ s.cfg.dbgen = false ∧ s.standby = false ∧ traceStall s = false ∧ s.pins.nfiq = true ∧
    s.pins.nirq = true ∧ thumbBit s.cpu.cpsr = false ∧ jazelleBit s.cpu.cpsr = false

end Sys2Proof.Machine
end

