-- ==== Sys2Proof/Certificates/Slice0/Obligations.lean ====
section
/-! DEFINITION. The statements about the machine, and the tables of instructions they speak of. -/

namespace Sys2Proof.Claims

open Sys2Proof.Machine

/-- The opcodes that write a result. -/
inductive ResultOp
  | and | eor | sub | rsb | add | adc | sbc | rsc | orr | mov | bic | mvn
deriving DecidableEq, Repr

/-- The opcodes that write flags alone. -/
inductive CompareOp
  | tst | teq | cmp | cmn
deriving DecidableEq, Repr

/-- The operand forms of R482. -/
inductive Operand
  | imm (op : ImmOp)
  | reg (op : ShiftOp)
deriving DecidableEq, Repr

/-- The value and the shifter carry of an operand. -/
def Operand.shifted : Operand → State → Shifted
  | .imm op, s => operandImm op s
  | .reg op, s => operandReg op s

/-- The instruction of an opcode; MOV and MVN have no first operand, their field takes the number all the same. -/
def ResultOp.instr (o : ResultOp) (c : Cond) (setFlags : Bool) (rn rd : RegNum) (op : Operand) : Instr :=
  match o, op with
  | .and, .imm v => .andImm c setFlags rn rd v
  | .and, .reg v => .andReg c setFlags rn rd v
  | .eor, .imm v => .eorImm c setFlags rn rd v
  | .eor, .reg v => .eorReg c setFlags rn rd v
  | .sub, .imm v => .subImm c setFlags rn rd v
  | .sub, .reg v => .subReg c setFlags rn rd v
  | .rsb, .imm v => .rsbImm c setFlags rn rd v
  | .rsb, .reg v => .rsbReg c setFlags rn rd v
  | .add, .imm v => .addImm c setFlags rn rd v
  | .add, .reg v => .addReg c setFlags rn rd v
  | .adc, .imm v => .adcImm c setFlags rn rd v
  | .adc, .reg v => .adcReg c setFlags rn rd v
  | .sbc, .imm v => .sbcImm c setFlags rn rd v
  | .sbc, .reg v => .sbcReg c setFlags rn rd v
  | .rsc, .imm v => .rscImm c setFlags rn rd v
  | .rsc, .reg v => .rscReg c setFlags rn rd v
  | .orr, .imm v => .orrImm c setFlags rn rd v
  | .orr, .reg v => .orrReg c setFlags rn rd v
  | .mov, .imm v => .movImm c setFlags (regBits rn) rd v
  | .mov, .reg v => .movReg c setFlags (regBits rn) rd v
  | .bic, .imm v => .bicImm c setFlags rn rd v
  | .bic, .reg v => .bicReg c setFlags rn rd v
  | .mvn, .imm v => .mvnImm c setFlags (regBits rn) rd v
  | .mvn, .reg v => .mvnReg c setFlags (regBits rn) rd v

/-- The instruction of a compare. -/
def CompareOp.instr (o : CompareOp) (c : Cond) (rn : RegNum) (sbz : BitVec 4) (op : Operand) : Instr :=
  match o, op with
  | .tst, .imm v => .tstImm c rn sbz v
  | .tst, .reg v => .tstReg c rn sbz v
  | .teq, .imm v => .teqImm c rn sbz v
  | .teq, .reg v => .teqReg c rn sbz v
  | .cmp, .imm v => .cmpImm c rn sbz v
  | .cmp, .reg v => .cmpReg c rn sbz v
  | .cmn, .imm v => .cmnImm c rn sbz v
  | .cmn, .reg v => .cmnReg c rn sbz v

/-- A result with the C and V flags that go with it. -/
structure Outcome where
  value : Word
  c : Bool
  v : Bool
deriving DecidableEq, Repr

/-- ADD-type (R483), over the integers: the sum, the carry out of bit 31, whether the signed sum leaves 32 bits. -/
def sumOutcome (a b : Word) (c : Bool) : Outcome where
  value := BitVec.ofNat 32 (a.toNat + b.toNat + c.toNat)
  c := decide (2 ^ 32 ≤ a.toNat + b.toNat + c.toNat)
  v := decide (a.toInt + b.toInt + c.toNat < -2 ^ 31 ∨ 2 ^ 31 ≤ a.toInt + b.toInt + c.toNat)

/-- SUB-type (R483), over the integers: the difference, no borrow, whether the signed difference leaves 32 bits. -/
def differenceOutcome (a b : Word) (c : Bool) : Outcome where
  value := BitVec.ofInt 32 ((a.toNat : Int) - b.toNat - (!c).toNat)
  c := decide (b.toNat + (!c).toNat ≤ a.toNat)
  v := decide (a.toInt - b.toInt - (!c).toNat < -2 ^ 31 ∨ 2 ^ 31 ≤ a.toInt - b.toInt - (!c).toNat)

/-- What an opcode with a result gives (R484 to R501), from the first operand, the operand and the flags C and V. -/
def ResultOp.outcome (o : ResultOp) (x : Word) (y : Shifted) (c v : Bool) : Outcome :=
  match o with
  | .and => ⟨x &&& y.value, y.carry, v⟩
  | .eor => ⟨x ^^^ y.value, y.carry, v⟩
  | .orr => ⟨x ||| y.value, y.carry, v⟩
  | .bic => ⟨x &&& ~~~ y.value, y.carry, v⟩
  | .mov => ⟨y.value, y.carry, v⟩
  | .mvn => ⟨~~~ y.value, y.carry, v⟩
  | .add => sumOutcome x y.value false
  | .adc => sumOutcome x y.value c
  | .sub => differenceOutcome x y.value true
  | .sbc => differenceOutcome x y.value c
  | .rsb => differenceOutcome y.value x true
  | .rsc => differenceOutcome y.value x c

/-- What a compare computes (R494 to R497). -/
def CompareOp.outcome (o : CompareOp) (x : Word) (y : Shifted) (v : Bool) : Outcome :=
  match o with
  | .tst => ⟨x &&& y.value, y.carry, v⟩
  | .teq => ⟨x ^^^ y.value, y.carry, v⟩
  | .cmp => differenceOutcome x y.value true
  | .cmn => sumOutcome x y.value false

/-- The flags are those of an outcome, and the other 28 bits of the status register are as they were. -/
def flagsAre (o : Outcome) (old new : Word) : Prop :=
  flagN new = o.value.getLsbD 31 ∧ flagZ new = decide (o.value = 0#32) ∧ flagC new = o.c ∧ flagV new = o.v ∧
    new.extractLsb' 0 28 = old.extractLsb' 0 28

/-- The opcode field of R482, bits [24:21]. -/
def ResultOp.code : ResultOp → BitVec 4
  | .and => 0b0000#4
  | .eor => 0b0001#4
  | .sub => 0b0010#4
  | .rsb => 0b0011#4
  | .add => 0b0100#4
  | .adc => 0b0101#4
  | .sbc => 0b0110#4
  | .rsc => 0b0111#4
  | .orr => 0b1100#4
  | .mov => 0b1101#4
  | .bic => 0b1110#4
  | .mvn => 0b1111#4

/-- The opcode field of R482 of a compare. -/
def CompareOp.code : CompareOp → BitVec 4
  | .tst => 0b1000#4
  | .teq => 0b1001#4
  | .cmp => 0b1010#4
  | .cmn => 0b1011#4

/-- The condition of an instruction that has one: every instruction but PLD and the unconditional coprocessor words. -/
def conditionOf (i : Instr) : Option Cond :=
  match i with
  | .mrcId c _ => some c
  | .mrcCacheType c _ => some c
  | .mrcTcmStatus c _ => some c
  | .mrcIdAlias3 c _ => some c
  | .mrcIdAlias4 c _ => some c
  | .mrcIdAlias5 c _ => some c
  | .mrcIdAlias6 c _ => some c
  | .mrcIdAlias7 c _ => some c
  | .mrcControl c _ => some c
  | .mcrControl c _ => some c
  | .mrcTtbr c _ => some c
  | .mcrTtbr c _ => some c
  | .mrcDacr c _ => some c
  | .mcrDacr c _ => some c
  | .mrcDfsr c _ => some c
  | .mcrDfsr c _ => some c
  | .mrcIfsr c _ => some c
  | .mcrIfsr c _ => some c
  | .mrcFar c _ => some c
  | .mcrFar c _ => some c
  | .mcrWaitForInterrupt c _ => some c
  | .mcrInvalidateICache c _ => some c
  | .mcrInvalidateICacheMva c _ => some c
  | .mcrInvalidateICacheSetWay c _ => some c
  | .mcrInvalidateDCache c _ => some c
  | .mcrInvalidateDCacheMva c _ => some c
  | .mcrInvalidateDCacheSetWay c _ => some c
  | .mcrInvalidateCaches c _ => some c
  | .mcrCleanDCacheMva c _ => some c
  | .mcrCleanDCacheSetWay c _ => some c
  | .mcrDrainWriteBuffer c _ => some c
  | .mcrPrefetchICacheLine c _ => some c
  | .mcrCleanInvalidateDCacheMva c _ => some c
  | .mcrCleanInvalidateDCacheSetWay c _ => some c
  | .mrcTestClean c _ => some c
  | .mrcTestCleanInvalidate c _ => some c
  | .mcrInvalidateTlb c _ => some c
  | .mcrInvalidateTlbEntry c _ => some c
  | .mcrInvalidateITlb c _ => some c
  | .mcrInvalidateITlbEntry c _ => some c
  | .mcrInvalidateDTlb c _ => some c
  | .mcrInvalidateDTlbEntry c _ => some c
  | .mrcDCacheLockdown c _ => some c
  | .mcrDCacheLockdown c _ => some c
  | .mrcICacheLockdown c _ => some c
  | .mcrICacheLockdown c _ => some c
  | .mrcDTcmRegion c _ => some c
  | .mcrDTcmRegion c _ => some c
  | .mrcITcmRegion c _ => some c
  | .mcrITcmRegion c _ => some c
  | .mrcTlbLockdown c _ => some c
  | .mcrTlbLockdown c _ => some c
  | .mrcFcsePid c _ => some c
  | .mcrFcsePid c _ => some c
  | .mrcContextId c _ => some c
  | .mcrContextId c _ => some c
  | .mrcDebugOverride c _ => some c
  | .mcrDebugOverride c _ => some c
  | .mrcDebugTestAddress c _ => some c
  | .mcrDebugTestAddress c _ => some c
  | .mrcMemoryRegionRemap c _ => some c
  | .mcrMemoryRegionRemap c _ => some c
  | .mrcTraceControl c _ => some c
  | .mcrTraceControl c _ => some c
  | .mrcMainTlbTag4 c _ => some c
  | .mcrMainTlbTag4 c _ => some c
  | .mrcMainTlbPa4 c _ => some c
  | .mcrMainTlbPa4 c _ => some c
  | .mcrMainTlbTransfer4 c _ => some c
  | .mrcLockTlbTag4 c _ => some c
  | .mcrLockTlbTag4 c _ => some c
  | .mrcLockTlbPa4 c _ => some c
  | .mcrLockTlbPa4 c _ => some c
  | .mcrLockTlbTransfer4 c _ => some c
  | .mrcMainTlbTag5 c _ => some c
  | .mcrMainTlbTag5 c _ => some c
  | .mrcMainTlbPa5 c _ => some c
  | .mcrMainTlbPa5 c _ => some c
  | .mcrMainTlbTransfer5 c _ => some c
  | .mrcLockTlbTag5 c _ => some c
  | .mcrLockTlbTag5 c _ => some c
  | .mrcLockTlbPa5 c _ => some c
  | .mcrLockTlbPa5 c _ => some c
  | .mcrLockTlbTransfer5 c _ => some c
  | .mrcCacheDebugControl c _ => some c
  | .mcrCacheDebugControl c _ => some c
  | .mrcMmuDebugControl c _ => some c
  | .mcrMmuDebugControl c _ => some c
  | .cp15WriteC0 c _ _ _ _ => some c
  | .cp15AccessC4 c _ _ _ _ _ => some c
  | .cp15AccessC11 c _ _ _ _ _ => some c
  | .cp15AccessC12 c _ _ _ _ _ => some c
  | .cp15AccessC14 c _ _ _ _ _ => some c
  | .cp15ReadC8 c _ _ _ => some c
  | .cp15Other c _ _ _ _ _ _ => some c
  | .cdpCp15 c _ _ _ _ _ => some c
  | .mcrrCp15 c _ _ _ _ => some c
  | .mrrcCp15 c _ _ _ _ => some c
  | .ldcCp15 c _ _ _ _ => some c
  | .stcCp15 c _ _ _ _ => some c
  | .mcrrExt c _ _ _ _ _ => some c
  | .mrrcExt c _ _ _ _ _ => some c
  | .cdpExt c _ _ _ _ _ _ => some c
  | .mcrExt c _ _ _ _ _ _ => some c
  | .mrcExt c _ _ _ _ _ _ => some c
  | .ldcExt c _ _ _ _ _ => some c
  | .stcExt c _ _ _ _ _ => some c
  | .coprocUnconditional _ _ _ _ => none
  | .andImm c _ _ _ _ => some c
  | .andReg c _ _ _ _ => some c
  | .eorImm c _ _ _ _ => some c
  | .eorReg c _ _ _ _ => some c
  | .subImm c _ _ _ _ => some c
  | .subReg c _ _ _ _ => some c
  | .rsbImm c _ _ _ _ => some c
  | .rsbReg c _ _ _ _ => some c
  | .addImm c _ _ _ _ => some c
  | .addReg c _ _ _ _ => some c
  | .adcImm c _ _ _ _ => some c
  | .adcReg c _ _ _ _ => some c
  | .sbcImm c _ _ _ _ => some c
  | .sbcReg c _ _ _ _ => some c
  | .rscImm c _ _ _ _ => some c
  | .rscReg c _ _ _ _ => some c
  | .tstImm c _ _ _ => some c
  | .tstReg c _ _ _ => some c
  | .teqImm c _ _ _ => some c
  | .teqReg c _ _ _ => some c
  | .cmpImm c _ _ _ => some c
  | .cmpReg c _ _ _ => some c
  | .cmnImm c _ _ _ => some c
  | .cmnReg c _ _ _ => some c
  | .orrImm c _ _ _ _ => some c
  | .orrReg c _ _ _ _ => some c
  | .movImm c _ _ _ _ => some c
  | .movReg c _ _ _ _ => some c
  | .bicImm c _ _ _ _ => some c
  | .bicReg c _ _ _ _ => some c
  | .mvnImm c _ _ _ _ => some c
  | .mvnReg c _ _ _ _ => some c
  | .adrAhead c _ _ => some c
  | .adrBehind c _ _ => some c
  | .b c _ => some c
  | .bl c _ => some c
  | .bx c _ => some c
  | .blx c _ => some c
  | .ldrImm c _ _ _ _ => some c
  | .ldrReg c _ _ _ _ => some c
  | .strImm c _ _ _ _ => some c
  | .strReg c _ _ _ _ => some c
  | .ldrbImm c _ _ _ _ => some c
  | .ldrbReg c _ _ _ _ => some c
  | .strbImm c _ _ _ _ => some c
  | .strbReg c _ _ _ _ => some c
  | .ldrh c _ _ _ _ => some c
  | .strh c _ _ _ _ => some c
  | .ldrsb c _ _ _ _ => some c
  | .ldrsh c _ _ _ _ => some c
  | .ldrd c _ _ _ _ => some c
  | .strd c _ _ _ _ => some c
  | .ldm c _ _ _ _ => some c
  | .stm c _ _ _ _ => some c
  | .swp c _ _ _ => some c
  | .swpb c _ _ _ => some c
  | .pld _ _ _ _ => none
  | .mrs c _ _ => some c
  | .msrReg c _ _ _ => some c
  | .msrImm c _ _ _ => some c
  | .swi c _ => some c
  | .udf c _ _ => some c

/-- The MRC and MCR transfers with CP15, defined or not (R256, R257). -/
def isCp15Transfer (i : Instr) : Bool :=
  match i with
  | .mrcId _ _ => true
  | .mrcCacheType _ _ => true
  | .mrcTcmStatus _ _ => true
  | .mrcIdAlias3 _ _ => true
  | .mrcIdAlias4 _ _ => true
  | .mrcIdAlias5 _ _ => true
  | .mrcIdAlias6 _ _ => true
  | .mrcIdAlias7 _ _ => true
  | .mrcControl _ _ => true
  | .mcrControl _ _ => true
  | .mrcTtbr _ _ => true
  | .mcrTtbr _ _ => true
  | .mrcDacr _ _ => true
  | .mcrDacr _ _ => true
  | .mrcDfsr _ _ => true
  | .mcrDfsr _ _ => true
  | .mrcIfsr _ _ => true
  | .mcrIfsr _ _ => true
  | .mrcFar _ _ => true
  | .mcrFar _ _ => true
  | .mcrWaitForInterrupt _ _ => true
  | .mcrInvalidateICache _ _ => true
  | .mcrInvalidateICacheMva _ _ => true
  | .mcrInvalidateICacheSetWay _ _ => true
  | .mcrInvalidateDCache _ _ => true
  | .mcrInvalidateDCacheMva _ _ => true
  | .mcrInvalidateDCacheSetWay _ _ => true
  | .mcrInvalidateCaches _ _ => true
  | .mcrCleanDCacheMva _ _ => true
  | .mcrCleanDCacheSetWay _ _ => true
  | .mcrDrainWriteBuffer _ _ => true
  | .mcrPrefetchICacheLine _ _ => true
  | .mcrCleanInvalidateDCacheMva _ _ => true
  | .mcrCleanInvalidateDCacheSetWay _ _ => true
  | .mrcTestClean _ _ => true
  | .mrcTestCleanInvalidate _ _ => true
  | .mcrInvalidateTlb _ _ => true
  | .mcrInvalidateTlbEntry _ _ => true
  | .mcrInvalidateITlb _ _ => true
  | .mcrInvalidateITlbEntry _ _ => true
  | .mcrInvalidateDTlb _ _ => true
  | .mcrInvalidateDTlbEntry _ _ => true
  | .mrcDCacheLockdown _ _ => true
  | .mcrDCacheLockdown _ _ => true
  | .mrcICacheLockdown _ _ => true
  | .mcrICacheLockdown _ _ => true
  | .mrcDTcmRegion _ _ => true
  | .mcrDTcmRegion _ _ => true
  | .mrcITcmRegion _ _ => true
  | .mcrITcmRegion _ _ => true
  | .mrcTlbLockdown _ _ => true
  | .mcrTlbLockdown _ _ => true
  | .mrcFcsePid _ _ => true
  | .mcrFcsePid _ _ => true
  | .mrcContextId _ _ => true
  | .mcrContextId _ _ => true
  | .mrcDebugOverride _ _ => true
  | .mcrDebugOverride _ _ => true
  | .mrcDebugTestAddress _ _ => true
  | .mcrDebugTestAddress _ _ => true
  | .mrcMemoryRegionRemap _ _ => true
  | .mcrMemoryRegionRemap _ _ => true
  | .mrcTraceControl _ _ => true
  | .mcrTraceControl _ _ => true
  | .mrcMainTlbTag4 _ _ => true
  | .mcrMainTlbTag4 _ _ => true
  | .mrcMainTlbPa4 _ _ => true
  | .mcrMainTlbPa4 _ _ => true
  | .mcrMainTlbTransfer4 _ _ => true
  | .mrcLockTlbTag4 _ _ => true
  | .mcrLockTlbTag4 _ _ => true
  | .mrcLockTlbPa4 _ _ => true
  | .mcrLockTlbPa4 _ _ => true
  | .mcrLockTlbTransfer4 _ _ => true
  | .mrcMainTlbTag5 _ _ => true
  | .mcrMainTlbTag5 _ _ => true
  | .mrcMainTlbPa5 _ _ => true
  | .mcrMainTlbPa5 _ _ => true
  | .mcrMainTlbTransfer5 _ _ => true
  | .mrcLockTlbTag5 _ _ => true
  | .mcrLockTlbTag5 _ _ => true
  | .mrcLockTlbPa5 _ _ => true
  | .mcrLockTlbPa5 _ _ => true
  | .mcrLockTlbTransfer5 _ _ => true
  | .mrcCacheDebugControl _ _ => true
  | .mcrCacheDebugControl _ _ => true
  | .mrcMmuDebugControl _ _ => true
  | .mcrMmuDebugControl _ _ => true
  | .cp15WriteC0 _ _ _ _ _ => true
  | .cp15AccessC4 _ _ _ _ _ _ => true
  | .cp15AccessC11 _ _ _ _ _ _ => true
  | .cp15AccessC12 _ _ _ _ _ _ => true
  | .cp15AccessC14 _ _ _ _ _ _ => true
  | .cp15ReadC8 _ _ _ _ => true
  | .cp15Other _ _ _ _ _ _ _ => true
  | _ => false

/-- A load of one register, with what it does with the word it reads. -/
structure SingleLoad where
  cond : Cond
  base : RegNum
  dest : RegNum
  /-- A word load, which alone may change the state when Rd is r15 (R505). -/
  word : Bool
  adr : Address
  /-- The access checks of R110 and R111 let it pass, and the form is one the spec defines (R506). -/
  allowed : Bool
  /-- The value loaded, from the bytes in memory. -/
  value : Word
  /-- The rights its access is checked with: the user's in the user form (R216). -/
  ctx : Ctx

/-- A word as LDR gives it (R504): rotated right by 8 for each byte of misalignment. -/
def wordLoaded (s : State) (a : Word) : Word := (s.wordAt (wordAddr a)).rotateRight (8 * (a.toNat % 4))

/-- The byte at an address. -/
def byteLoaded (s : State) (a : Word) : Byte := s.byteAt (byteCell s.cp15.ctrl.b a)

/-- The halfword at an aligned address. -/
def halfLoaded (s : State) (a : Word) : BitVec 16 :=
  s.byteAt (halfCell s.cp15.ctrl.b a + 1) ++ s.byteAt (halfCell s.cp15.ctrl.b a)

/-- The rights of a word or byte transfer: the user's with P = 0 and W = 1 (R216, R504). -/
def transferRights (a : AddrMode) (s : State) : Ctx := if a.p = false ∧ a.w = true then s.userCtx else s.ctx

/-- The loads of one register. -/
def singleLoad (i : Instr) (s : State) : Option SingleLoad :=
  let wordOk (a : Word) : Bool := !s.cp15.ctrl.a || a.toNat % 4 == 0
  match i with
  | .ldrImm c a rn rd off =>
    let adr := addressImm a rn off s
    some ⟨c, rn, rd, true, adr, wordOk adr.address, wordLoaded s adr.address,
      transferRights a s⟩
  | .ldrReg c a rn rd op =>
    let adr := addressReg a rn op s
    some ⟨c, rn, rd, true, adr, wordOk adr.address, wordLoaded s adr.address,
      transferRights a s⟩
  | .ldrbImm c a rn rd off =>
    let adr := addressImm a rn off s
    some ⟨c, rn, rd, false, adr, true, (byteLoaded s adr.address).setWidth 32,
      transferRights a s⟩
  | .ldrbReg c a rn rd op =>
    let adr := addressReg a rn op s
    some ⟨c, rn, rd, false, adr, true, (byteLoaded s adr.address).setWidth 32,
      transferRights a s⟩
  | .ldrh c a rn rd off =>
    let adr := addressHalf a rn off s
    some ⟨c, rn, rd, false, adr, adr.address.toNat % 2 == 0 && !userForm a, (halfLoaded s adr.address).setWidth 32,
      s.ctx⟩
  | .ldrsh c a rn rd off =>
    let adr := addressHalf a rn off s
    some ⟨c, rn, rd, false, adr, adr.address.toNat % 2 == 0 && !userForm a, (halfLoaded s adr.address).signExtend 32,
      s.ctx⟩
  | .ldrsb c a rn rd off =>
    let adr := addressHalf a rn off s
    some ⟨c, rn, rd, false, adr, !userForm a, (byteLoaded s adr.address).signExtend 32,
      s.ctx⟩
  | _ => none

/-- A store of one register, with the bytes it stores. -/
structure SingleStore where
  cond : Cond
  base : RegNum
  adr : Address
  allowed : Bool
  bytes : Nat → Option Byte
  /-- The rights its access is checked with. -/
  ctx : Ctx

/-- The stores of one register: the address bits [1:0] of a word are ignored, a byte goes to its cell, a halfword to its
two. -/
def singleStore (i : Instr) (s : State) : Option SingleStore :=
  let wordOk (a : Word) : Bool := !s.cp15.ctrl.a || a.toNat % 4 == 0
  let byteAt (a v : Word) (cell : Nat) : Option Byte :=
    if cell = byteCell s.cp15.ctrl.b a then some (v.extractLsb' 0 8) else none
  let halfAt (a v : Word) (cell : Nat) : Option Byte :=
    if cell = halfCell s.cp15.ctrl.b a then some (v.extractLsb' 0 8)
    else if cell = halfCell s.cp15.ctrl.b a + 1 then some (v.extractLsb' 8 8) else none
  match i with
  | .strImm c a rn rd off =>
    let adr := addressImm a rn off s
    some ⟨c, rn, adr, wordOk adr.address, wordBytes adr.address (s.stored rd), transferRights a s⟩
  | .strReg c a rn rd op =>
    let adr := addressReg a rn op s
    some ⟨c, rn, adr, wordOk adr.address, wordBytes adr.address (s.stored rd), transferRights a s⟩
  | .strbImm c a rn rd off =>
    let adr := addressImm a rn off s
    some ⟨c, rn, adr, true, byteAt adr.address (s.stored rd), transferRights a s⟩
  | .strbReg c a rn rd op =>
    let adr := addressReg a rn op s
    some ⟨c, rn, adr, true, byteAt adr.address (s.stored rd), transferRights a s⟩
  | .strh c a rn rd off =>
    let adr := addressHalf a rn off s
    some ⟨c, rn, adr, adr.address.toNat % 2 == 0 && !userForm a, halfAt adr.address (s.stored rd), s.ctx⟩
  | _ => none

/-- The transfers that R110 checks for alignment, with their address and the alignment they need in bytes. -/
def alignedTransfer (i : Instr) (s : State) : Option (Cond × Word × Nat) :=
  match i with
  | .ldrImm c a rn _ off => some (c, (addressImm a rn off s).address, 4)
  | .ldrReg c a rn _ op => some (c, (addressReg a rn op s).address, 4)
  | .strImm c a rn _ off => some (c, (addressImm a rn off s).address, 4)
  | .strReg c a rn _ op => some (c, (addressReg a rn op s).address, 4)
  | .ldrh c a rn _ off => if userForm a then none else some (c, (addressHalf a rn off s).address, 2)
  | .ldrsh c a rn _ off => if userForm a then none else some (c, (addressHalf a rn off s).address, 2)
  | .strh c a rn _ off => if userForm a then none else some (c, (addressHalf a rn off s).address, 2)
  | .ldrd c a rn rd off =>
    if userForm a ∨ rd.val % 2 = 1 then none else some (c, (addressHalf a rn off s).address, 8)
  | .strd c a rn rd off =>
    if userForm a ∨ rd.val % 2 = 1 then none else some (c, (addressHalf a rn off s).address, 8)
  | .ldm c a _ rn list =>
    if list = 0#16 then none else some (c, multipleStart a (s.reg rn) (listedRegs list).length, 4)
  | .stm c a _ rn list =>
    if list = 0#16 then none else some (c, multipleStart a (s.reg rn) (listedRegs list).length, 4)
  | .swp c rn _ _ => some (c, s.reg rn, 4)
  | _ => none

/-- The words at n consecutive word addresses. -/
def wordsAt (s : State) (start : Word) (n : Nat) : List Word :=
  (List.range n).map fun k => s.wordAt (wordAddr (start + BitVec.ofNat 32 (4 * k)))

/-- Every word of a transfer goes straight to AHB. -/
def plainWords (s : State) (start : Word) (n : Nat) : Prop :=
  ∀ k < n, s.plain (start + BitVec.ofNat 32 (4 * k)) = true

/-- The bytes of several words stored at consecutive addresses, by cell. -/
def wordsBytes (start : Word) : List Word → Nat → Option Byte
  | [], _ => none
  | v :: vs, cell => (wordBytes start v cell).or (wordsBytes (start + 4#32) vs cell)

/-- What a read of a CP15 register gives: the bits the spec defines, and their value. -/
structure Cp15Value where
  mask : Word
  value : Word
deriving DecidableEq, Repr

/-- A bit field in its place. -/
def bitsAt (n : Nat) {w : Nat} (v : BitVec w) : Word := v.setWidth 32 <<< n

/-- The reads of the CP15 registers (R283 to R286, R290, R310 to R343, R380 to R405, R425 to R430): the register, and the
defined bits of its value. -/
def cp15Reading (i : Instr) (s : State) : Option (RegNum × Cp15Value) :=
  let k := s.cp15
  let id : Cp15Value := ⟨0xFFFFFFFF#32, 0x41069260#32 + BitVec.ofNat 32 s.cfg.revision.val⟩
  match i with
  | .mrcId _ rd => some (rd, id)
  | .mrcIdAlias3 _ rd => some (rd, id)
  | .mrcIdAlias4 _ rd => some (rd, id)
  | .mrcIdAlias5 _ rd => some (rd, id)
  | .mrcIdAlias6 _ rd => some (rd, id)
  | .mrcIdAlias7 _ rd => some (rd, id)
  | .mrcCacheType _ rd =>
    some (rd, ⟨0xFFFFFFFF#32, 0x1D012012#32 + bitsAt 18 s.cfg.dcacheSize.code + bitsAt 6 s.cfg.icacheSize.code⟩)
  | .mrcTcmStatus _ rd => some (rd, ⟨0xFFFFFFFF#32, s.cfg.tcmStatusValue⟩)
  | .mrcControl _ rd =>
    some (rd, ⟨0x0007FFFF#32, 0x00050078#32 ||| bitAt 0 k.ctrl.m ||| bitAt 1 k.ctrl.a ||| bitAt 2 k.ctrl.c |||
      bitAt 7 k.ctrl.b ||| bitAt 8 k.ctrl.s ||| bitAt 9 k.ctrl.r ||| bitAt 12 k.ctrl.i ||| bitAt 13 k.ctrl.v |||
      bitAt 14 k.ctrl.rr ||| bitAt 15 k.ctrl.l4⟩)
  | .mrcTtbr _ rd => some (rd, ⟨0xFFFFC000#32, bitsAt 14 k.ttbr⟩)
  | .mrcDacr _ rd => some (rd, ⟨0xFFFFFFFF#32, k.dacr⟩)
  | .mrcDfsr _ rd => some (rd, ⟨0x000001FF#32, bitsAt 0 k.dfsr⟩)
  | .mrcIfsr _ rd => some (rd, ⟨0x000001FF#32, bitsAt 0 k.ifsr⟩)
  | .mrcFar _ rd => some (rd, ⟨0xFFFFFFFF#32, k.far⟩)
  | .mrcDCacheLockdown _ rd => some (rd, ⟨0x0000FFFF#32, 0xFFF0#32 ||| bitsAt 0 k.dlock⟩)
  | .mrcICacheLockdown _ rd => some (rd, ⟨0x0000FFFF#32, 0xFFF0#32 ||| bitsAt 0 k.ilock⟩)
  | .mrcDTcmRegion _ rd =>
    some (rd, ⟨0xFFFFF03D#32, bitsAt 12 k.dtcm.base ||| bitsAt 2 s.cfg.dtcmSize.code ||| bitAt 0 k.dtcm.enable⟩)
  | .mrcITcmRegion _ rd =>
    some (rd, ⟨0xFFFFF03D#32, bitsAt 12 k.itcm.base ||| bitsAt 2 s.cfg.itcmSize.code ||| bitAt 0 k.itcm.enable⟩)
  | .mrcTlbLockdown _ rd => some (rd, ⟨0x1C000001#32, bitsAt 26 s.ms.victim ||| bitAt 0 s.ms.preserve⟩)
  | .mrcFcsePid _ rd => some (rd, ⟨0xFFFFFFFF#32, bitsAt 25 k.fcsePid⟩)
  | .mrcContextId _ rd => some (rd, ⟨0xFFFFFFFF#32, k.contextId⟩)
  | .mrcDebugOverride _ rd => some (rd, ⟨0x000FE000#32, bitsAt 13 k.dbgovr⟩)
  | .mrcDebugTestAddress _ rd => some (rd, ⟨0xFFFFFFFF#32, k.dtaddr⟩)
  | .mrcMemoryRegionRemap _ rd => some (rd, ⟨0x0000FFFF#32, bitsAt 0 k.remap⟩)
  | .mrcTraceControl _ rd => some (rd, ⟨0x00000006#32, bitsAt 1 k.tracectl⟩)
  | .mrcCacheDebugControl _ rd => some (rd, ⟨0x00000007#32, bitsAt 0 k.cachedbg⟩)
  | .mrcMmuDebugControl _ rd => some (rd, ⟨0x000000FF#32, bitsAt 0 k.mmudbg⟩)
  | _ => none

/-- A register that software writes and reads back: the two instructions, and the bits that come back. -/
structure Cp15Pair where
  write : Instr
  read : Instr
  mask : Word
deriving DecidableEq, Repr

/-- The registers of CP15 that are both written and read back, with a source register and a destination. -/
def cp15Pairs (rs rd : RegNum) : List Cp15Pair :=
  [⟨.mcrControl .al rs, .mrcControl .al rd, 0x0000F387#32⟩, ⟨.mcrTtbr .al rs, .mrcTtbr .al rd, 0xFFFFC000#32⟩,
    ⟨.mcrDacr .al rs, .mrcDacr .al rd, 0xFFFFFFFF#32⟩, ⟨.mcrDfsr .al rs, .mrcDfsr .al rd, 0x000000FF#32⟩,
    ⟨.mcrIfsr .al rs, .mrcIfsr .al rd, 0x000000FF#32⟩, ⟨.mcrFar .al rs, .mrcFar .al rd, 0xFFFFFFFF#32⟩,
    ⟨.mcrDCacheLockdown .al rs, .mrcDCacheLockdown .al rd, 0x0000000F#32⟩,
    ⟨.mcrICacheLockdown .al rs, .mrcICacheLockdown .al rd, 0x0000000F#32⟩,
    ⟨.mcrDTcmRegion .al rs, .mrcDTcmRegion .al rd, 0xFFFFF001#32⟩,
    ⟨.mcrITcmRegion .al rs, .mrcITcmRegion .al rd, 0xFFFFF001#32⟩,
    ⟨.mcrTlbLockdown .al rs, .mrcTlbLockdown .al rd, 0x1C000001#32⟩,
    ⟨.mcrFcsePid .al rs, .mrcFcsePid .al rd, 0xFE000000#32⟩,
    ⟨.mcrContextId .al rs, .mrcContextId .al rd, 0xFFFFFFFF#32⟩,
    ⟨.mcrDebugOverride .al rs, .mrcDebugOverride .al rd, 0x000FE000#32⟩,
    ⟨.mcrDebugTestAddress .al rs, .mrcDebugTestAddress .al rd, 0xFFFFFFFF#32⟩,
    ⟨.mcrMemoryRegionRemap .al rs, .mrcMemoryRegionRemap .al rd, 0x0000FFFF#32⟩,
    ⟨.mcrTraceControl .al rs, .mrcTraceControl .al rd, 0x00000006#32⟩,
    ⟨.mcrCacheDebugControl .al rs, .mrcCacheDebugControl .al rd, 0x00000007#32⟩,
    ⟨.mcrMmuDebugControl .al rs, .mrcMmuDebugControl .al rd, 0x000000FF#32⟩]

/-- The writes of the CP15 registers but the Control Register and the TCM regions, which have a statement of their own: what the
word written does to the state. -/
def cp15Writing (i : Instr) : Option (Cond × RegNum × (Word → State → State)) :=
  match i with
  | .mcrTtbr c rd => some (c, rd, fun v s => { s with cp15 := { s.cp15 with ttbr := v.extractLsb' 14 18 } })
  | .mcrDacr c rd => some (c, rd, fun v s => { s with cp15 := { s.cp15 with dacr := v } })
  | .mcrDfsr c rd => some (c, rd, fun v s => { s with cp15 := { s.cp15 with dfsr := v.extractLsb' 0 8 } })
  | .mcrIfsr c rd => some (c, rd, fun v s => { s with cp15 := { s.cp15 with ifsr := v.extractLsb' 0 8 } })
  | .mcrFar c rd => some (c, rd, fun v s => { s with cp15 := { s.cp15 with far := v } })
  | .mcrDCacheLockdown c rd => some (c, rd, fun v s => { s with cp15 := { s.cp15 with dlock := v.extractLsb' 0 4 } })
  | .mcrICacheLockdown c rd => some (c, rd, fun v s => { s with cp15 := { s.cp15 with ilock := v.extractLsb' 0 4 } })
  | .mcrFcsePid c rd => some (c, rd, fun v s => { s with cp15 := { s.cp15 with fcsePid := v.extractLsb' 25 7 } })
  | .mcrDebugOverride c rd => some (c, rd, fun v s => { s with cp15 := { s.cp15 with dbgovr := v.extractLsb' 13 7 } })
  | .mcrDebugTestAddress c rd => some (c, rd, fun v s => { s with cp15 := { s.cp15 with dtaddr := v } })
  | .mcrMemoryRegionRemap c rd => some (c, rd, fun v s => { s with cp15 := { s.cp15 with remap := v.extractLsb' 0 16 } })
  | .mcrTraceControl c rd => some (c, rd, fun v s => { s with cp15 := { s.cp15 with tracectl := v.extractLsb' 1 2 } })
  | .mcrCacheDebugControl c rd => some (c, rd, fun v s => { s with cp15 := { s.cp15 with cachedbg := v.extractLsb' 0 3 } })
  | .mcrMmuDebugControl c rd => some (c, rd, fun v s => { s with cp15 := { s.cp15 with mmudbg := v.extractLsb' 0 8 } })
  | .mcrTlbLockdown c rd =>
    some (c, rd, fun v s => { s with ms := { s.ms with victim := v.extractLsb' 26 3, preserve := v.getLsbD 0 } })
  | .mcrContextId c rd =>
    some (c, rd, fun v s => { s with cp15 := { s.cp15 with contextId := v }, etmProcIdWr := true })
  | _ => none

/-- The bits of a CP15 register that hold nothing (R15, R33, R37, R40, R41, R42): those that should be zero, those that should be
one, the fields that should be zero or preserved, and the words that those may be preserved from. -/
structure ReservedBits where
  zeros : Word
  ones : Word
  preserved : List Word
  read : List Word

/-- Those bits of the register that an MCR writes; for most of the registers only should-be-zero ones. -/
def reservedBits (i : Instr) (l : LastRead) : ReservedBits :=
  match i with
  | .mcrControl _ _ => ⟨0x00020C00#32, 0x00050078#32, [0xFFF80000#32], l.ctrl⟩
  | .mcrTtbr _ _ => ⟨0x00003FFF#32, 0#32, [], []⟩
  | .mcrDfsr _ _ => ⟨0#32, 0#32, [0xFFFFFE00#32], l.dfsr.toList⟩
  | .mcrIfsr _ _ => ⟨0#32, 0#32, [0xFFFFFE00#32], l.ifsr.toList⟩
  | .mcrDCacheLockdown _ _ => ⟨0#32, 0x0000FFF0#32, [0xFFFF0000#32], l.dlock.toList⟩
  | .mcrICacheLockdown _ _ => ⟨0#32, 0x0000FFF0#32, [0xFFFF0000#32], l.ilock.toList⟩
  | .mcrDTcmRegion _ _ => ⟨0#32, 0#32, [0x00000FC0#32, 0x00000002#32], l.dtcm.toList⟩
  | .mcrITcmRegion _ _ => ⟨0#32, 0#32, [0x00000FC0#32, 0x00000002#32], l.itcm.toList⟩
  | .mcrTlbLockdown _ _ => ⟨0#32, 0#32, [0xE0000000#32, 0x03FFFFFE#32], l.tlbLock.toList⟩
  | .mcrFcsePid _ _ => ⟨0x01FFFFFF#32, 0#32, [], []⟩
  | .mcrDebugOverride _ _ => ⟨0xFFF01FFF#32, 0#32, [], []⟩
  | .mcrMemoryRegionRemap _ _ => ⟨0xFFFF0000#32, 0#32, [], []⟩
  | .mcrTraceControl _ _ => ⟨0xFFFFFFF9#32, 0#32, [], []⟩
  | .mcrCacheDebugControl _ _ => ⟨0xFFFFFFF8#32, 0#32, [], []⟩
  | .mcrMmuDebugControl _ _ => ⟨0xFFFFFF00#32, 0#32, [], []⟩
  | _ => ⟨0#32, 0#32, [], []⟩

/-- A word keeps to the reserved bits of the register an MCR writes (D3): a preserved field holds zero or the value last read from
it (R260), of the Control Register any value read (R291). -/
def keepsReserved (i : Instr) (l : LastRead) (v : Word) : Bool :=
  let r := reservedBits i l
  v &&& r.zeros == 0#32 && ~~~ v &&& r.ones == 0#32 &&
    r.preserved.all fun f => v &&& f == 0#32 || r.read.any fun w => (v ^^^ w) &&& f == 0#32

/-- What an MRC notes of the word it read: the last one of its register, of the Control Register each of them once (D3). -/
def readNoted (i : Instr) (v : Word) (l : LastRead) : LastRead :=
  match i with
  | .mrcControl _ _ => { l with ctrl := if v ∈ l.ctrl then l.ctrl else v :: l.ctrl }
  | .mrcDfsr _ _ => { l with dfsr := some v }
  | .mrcIfsr _ _ => { l with ifsr := some v }
  | .mrcDCacheLockdown _ _ => { l with dlock := some v }
  | .mrcICacheLockdown _ _ => { l with ilock := some v }
  | .mrcDTcmRegion _ _ => { l with dtcm := some v }
  | .mrcITcmRegion _ _ => { l with itcm := some v }
  | .mrcTlbLockdown _ _ => { l with tlbLock := some v }
  | _ => l

/-- The TCM region that a word written to a region register gives (R41). -/
def regionOf (v : Word) : TcmRegion := ⟨v.extractLsb' 12 20, v.getLsbD 0⟩

/-- The regions that a write of a TCM region register gives do not overlap; true of any other write. -/
def regionsApart (i : Instr) (s : State) : Bool :=
  match i with
  | .mcrDTcmRegion _ rd => !tcmRegionsOverlap s.cfg s.cp15.itcm (regionOf (s.reg rd))
  | .mcrITcmRegion _ rd => !tcmRegionsOverlap s.cfg (regionOf (s.reg rd)) s.cp15.dtcm
  | _ => true

/-- STM of a list that is not empty, and STRD: the condition, whether the alignment checks let it pass, the first address, and
the addresses with the words stored. -/
def multiStore (i : Instr) (s : State) : Option (Cond × Bool × Word × List (Word × Word)) :=
  match i with
  | .stm c a caret rn list =>
    let regs := listedRegs list
    let start := multipleStart a (s.reg rn) regs.length
    if list = 0#16 then none
    else some (c, !s.cp15.ctrl.a || start.toNat % 4 == 0, start,
      (wordsFrom (start &&& 0xFFFFFFFC#32) regs.length).zip (regs.map fun r =>
        if r = 15 then s.stored 15 else s.bankReg (if caret then 0b10000#5 else s.mode) r))
  | .strd c a rn rd off =>
    let adr := (addressHalf a rn off s).address
    if userForm a ∨ rd.val % 2 = 1 then none
    else some (c, adr.toNat % 8 == 0, adr, [(adr, s.stored rd), (adr + 4#32, s.stored (nextReg rd))])
  | _ => none

/-- Bits [27:0] of an instruction's word. -/
def shownTo (i : Instr) : BitVec 28 := (encode i).extractLsb' 0 28

/-- The invalidations of cache lines (R350 to R353, R355 to R357): which ICache lines go, which DCache lines go, by the
operand. -/
def cacheInvalidation (i : Instr) (cfg : Config) :
    Option (Cond × RegNum × (Word → CacheLine → Bool) × (Word → CacheLine → Bool)) :=
  let mva (v : Word) (l : CacheLine) : Bool := l.block == v.extractLsb' 5 27
  let setWay (size : CacheSize) (v : Word) (l : CacheLine) : Bool :=
    l.way == v.extractLsb' 30 2 && l.block.toNat % 2 ^ size.setBits == v.toNat / 32 % 2 ^ size.setBits
  let all (_ : Word) (_ : CacheLine) : Bool := true
  let no (_ : Word) (_ : CacheLine) : Bool := false
  match i with
  | .mcrInvalidateCaches c rd => some (c, rd, all, all)
  | .mcrInvalidateICache c rd => some (c, rd, all, no)
  | .mcrInvalidateICacheMva c rd => some (c, rd, mva, no)
  | .mcrInvalidateICacheSetWay c rd => some (c, rd, setWay cfg.icacheSize, no)
  | .mcrInvalidateDCache c rd => some (c, rd, no, all)
  | .mcrInvalidateDCacheMva c rd => some (c, rd, no, mva)
  | .mcrInvalidateDCacheSetWay c rd => some (c, rd, no, setWay cfg.dcacheSize)
  | _ => none

/-- The cleans of DCache lines (R360 to R363): which lines, by the operand, and whether they also become invalid. -/
def cacheClean (i : Instr) (cfg : Config) : Option (Cond × RegNum × (Word → CacheLine → Bool) × Bool) :=
  let mva (v : Word) (l : CacheLine) : Bool := l.block == v.extractLsb' 5 27
  let setWay (v : Word) (l : CacheLine) : Bool :=
    l.way == v.extractLsb' 30 2 &&
      l.block.toNat % 2 ^ cfg.dcacheSize.setBits == v.toNat / 32 % 2 ^ cfg.dcacheSize.setBits
  match i with
  | .mcrCleanDCacheMva c rd => some (c, rd, mva, false)
  | .mcrCleanDCacheSetWay c rd => some (c, rd, setWay, false)
  | .mcrCleanInvalidateDCacheMva c rd => some (c, rd, mva, true)
  | .mcrCleanInvalidateDCacheSetWay c rd => some (c, rd, setWay, true)
  | _ => none

/-- The six invalidations of the TLB (R330, R331): the main part, or the entries that match the operand. -/
def tlbInvalidation (i : Instr) : Option (Cond × RegNum × Bool) :=
  match i with
  | .mcrInvalidateTlb c rd => some (c, rd, false)
  | .mcrInvalidateITlb c rd => some (c, rd, false)
  | .mcrInvalidateDTlb c rd => some (c, rd, false)
  | .mcrInvalidateTlbEntry c rd => some (c, rd, true)
  | .mcrInvalidateITlbEntry c rd => some (c, rd, true)
  | .mcrInvalidateDTlbEntry c rd => some (c, rd, true)
  | _ => none

/-- The MMU test instructions of one Opcode_1 and one part of the TLB (R409 to R419). -/
structure TlbTest where
  writeTag : Cond → RegNum → Instr
  writePa : Cond → RegNum → Instr
  transfer : Cond → RegNum → Instr
  readTag : Cond → RegNum → Instr
  readPa : Cond → RegNum → Instr

/-- The test instructions by Opcode_1 (5 or 4) and part (lockdown or main). -/
def tlbTest (five lock : Bool) : TlbTest :=
  match five, lock with
  | false, false => ⟨.mcrMainTlbTag4, .mcrMainTlbPa4, .mcrMainTlbTransfer4, .mrcMainTlbTag4, .mrcMainTlbPa4⟩
  | false, true => ⟨.mcrLockTlbTag4, .mcrLockTlbPa4, .mcrLockTlbTransfer4, .mrcLockTlbTag4, .mrcLockTlbPa4⟩
  | true, false => ⟨.mcrMainTlbTag5, .mcrMainTlbPa5, .mcrMainTlbTransfer5, .mrcMainTlbTag5, .mrcMainTlbPa5⟩
  | true, true => ⟨.mcrLockTlbTag5, .mcrLockTlbPa5, .mcrLockTlbTransfer5, .mrcLockTlbTag5, .mrcLockTlbPa5⟩

/-- The accesses to CP15 that the spec leaves Unpredictable in a privileged mode (R257, R287, R316, R333, R338). -/
def undefinedCp15Access (i : Instr) : Bool :=
  match i with
  | .cp15WriteC0 _ _ _ _ _ => true
  | .cp15AccessC4 _ _ _ _ _ _ => true
  | .cp15AccessC11 _ _ _ _ _ _ => true
  | .cp15AccessC12 _ _ _ _ _ _ => true
  | .cp15AccessC14 _ _ _ _ _ _ => true
  | .cp15ReadC8 _ _ _ _ => true
  | .cp15Other _ _ _ _ _ _ _ => true
  | _ => false

/-- The words that take the Undefined instruction exception in every mode (R258, R514). -/
def undefinedEverywhere (i : Instr) : Bool :=
  match i with
  | .cdpCp15 _ _ _ _ _ _ => true
  | .mcrrCp15 _ _ _ _ _ => true
  | .mrrcCp15 _ _ _ _ _ => true
  | .ldcCp15 _ _ _ _ _ => true
  | .stcCp15 _ _ _ _ _ => true
  | .udf _ _ _ => true
  | _ => false

/-- The instructions for external coprocessors with their coprocessor number; not the LDC and STC words whose P, U, N and W
are all 0, which are Undefined (R261). -/
def externalNumber (i : Instr) : Option (BitVec 4) :=
  match i with
  | .mcrrExt _ _ _ cp _ _ => some cp
  | .mrrcExt _ _ _ cp _ _ => some cp
  | .cdpExt _ _ _ _ cp _ _ => some cp
  | .mcrExt _ _ _ _ cp _ _ => some cp
  | .mrcExt _ _ _ _ cp _ _ => some cp
  | .ldcExt _ a _ _ cp _ => if undefinedMode a then none else some cp
  | .stcExt _ a _ _ cp _ => if undefinedMode a then none else some cp
  | .coprocUnconditional top mid cp _ =>
    if top.getLsbD 1 = false ∧ undefinedMode (unconditionalMode top mid) = true then none else some cp
  | _ => none

/-- The condition of an instruction, where one that has none always passes. -/
def passes (i : Instr) (s : State) : Prop := ∀ c, conditionOf i = some c → conditionPassed c s.cpu.cpsr = true

/-- The word an MCR writes: its register; for r15 a free value, which is drawn (R255, assumption 37). -/
def mcrGives (rd : RegNum) (v : Word) (s t : State) : Prop := rd ≠ 15 → v = s.reg rd ∧ t.ms.draws = s.ms.draws

/-- What an MRC does with the word it reads: its register takes it; for r15 bits [31:28] become the flags (R255). The pc goes
on, every other register of the core is as it was. -/
def mrcGives (rd : RegNum) (v : Word) (s t : State) : Prop :=
  (rd ≠ 15 → t.bankReg s.mode rd = v ∧ sameRegsBut [physReg s.mode rd] s t ∧ t.cpu.cpsr = s.cpu.cpsr) ∧
    (rd = 15 → t.cpu.cpsr = v.extractLsb' 28 4 ++ s.cpu.cpsr.extractLsb' 0 28 ∧ sameRegsBut [] s t) ∧
    t.cpu.spsr = s.cpu.spsr ∧ t.cpu.pc = s.cpu.pc + 4#32

/-- A word given to a register of the current mode: r15 takes it as a branch, its bits [1:0] ignored (assumptions 24 and 32);
for any other the pc goes on. Every other register of the core is as it was. -/
def registerGets (rd : RegNum) (v : Word) (s t : State) : Prop :=
  (rd ≠ 15 → t.bankReg s.mode rd = v ∧ sameRegsBut [physReg s.mode rd] s t ∧ t.cpu.pc = s.cpu.pc + 4#32) ∧
    (rd = 15 → t.cpu.pc = v &&& 0xFFFFFFFC#32 ∧ sameRegsBut [] s t) ∧
    t.cpu.cpsr = s.cpu.cpsr ∧ t.cpu.spsr = s.cpu.spsr

/-- What the hardware's own drains and evictions (R18) and the next writes of other agents (R588) make of a memory system when the
values they draw begin with the n-th. -/
def drainedAt (n : Nat) (k : Ctx) (ms : MemSys) : MemSys := ({ ms with draws := n }).meanwhile k

/-- What a translation may change: the TLB with its victim and its remembered faults, what the hardware drains and evicts by itself
meanwhile (R18), and what other agents write meanwhile (R588). Every byte that no other agent is to write is as it was, pending
writes included: in the TCMs, and in the memory on AHB where no line was dirty; the DCache is then as it was. -/
def onlyTranslated (a b : MemSys) : Prop :=
  b = { a with
    mem := b.mem, itcm := b.itcm, dtcm := b.dtcm, wbuf := b.wbuf, itcmWb := b.itcmWb, dtcmWb := b.dtcmWb, dcache := b.dcache
    tlbMain := b.tlbMain, tlbLock := b.tlbLock, cachedFaults := b.cachedFaults, victim := b.victim, outside := b.outside
    draws := b.draws } ∧
  b.outside.flatten.Sublist a.outside.flatten ∧ b.settledItcm = a.settledItcm ∧
  (a.wf = true → ∀ cell, a.othersWrite true cell = false → b.settledDtcm.read cell = a.settledDtcm.read cell) ∧
  ((∀ l ∈ a.dcache, l.dirty = false) → b.dcache = a.dcache ∧
    (a.wf = true → ∀ cell, a.othersWrite false cell = false → b.settledMem.read cell = a.settledMem.read cell))

/-- What a prefetch of a block that the ICache does not hold makes of a state, at a physical address whose type has a remap field
(R126, R130, R135, R354): the pc goes on and nothing but the ICache changes. With the ICache on, a cachable field, linefills not
disabled and the address in no ITCM, one clean line of the block comes in, in an unlocked way of its set, or in way 3 when all are
locked, with the words that memory holds where the slave does not answer ERROR; the line that stood there goes and no other. Else
the ICache is as it was. -/
def prefetchFills (remapped : BitVec 2) (block : BitVec 27) (pa : Word) (s t : State) : Prop :=
  let set (b : BitVec 27) : Nat := b.toNat % 2 ^ s.cfg.icacheSize.setBits
  let fills := s.cp15.ctrl.i = true ∧ remapped.getLsbD 1 = true ∧ s.cp15.cachedbg.getLsbD 1 = false ∧
    tcmOffset s.cfg.itcmSize s.cp15.itcm pa = none
  t = { s with
    cpu := { s.cpu with pc := s.cpu.pc + 4#32 }, ms := { s.ms with icache := t.ms.icache, draws := t.ms.draws } } ∧
  (¬ fills → t.ms.icache = s.ms.icache) ∧
  (fills → ∃ l : CacheLine, l.block = block ∧ l.pa = pa.extractLsb' 5 27 ∧ l.dirty = false ∧
    (s.cp15.ilock.getLsbD l.way.toNat = false ∨ (s.cp15.ilock = 15#4 ∧ l.way = 3#2)) ∧
    (∀ n : Fin 8, busError s.cfg (lineWord l.pa n) = false → l.words.get n = s.ms.mem.readWord (lineWord l.pa n)) ∧
    ∀ x, x ∈ t.ms.icache ↔ x = l ∨ (x ∈ s.ms.icache ∧ ¬ (x.way = l.way ∧ set x.block = set block)))

/-- The registers written by a written-back base: none without write-back, and none for r15, which is the pc. -/
def baseWritten (rn : RegNum) (wb : Option Word) (s : State) : List (Fin 30) :=
  if wb = none ∨ rn = 15 then [] else [physReg s.mode rn]

end Sys2Proof.Claims

open Sys2Proof Sys2Proof.Machine Sys2Proof.Claims


/-- Decoding the encoding of a well-formed instruction gives the instruction back: no bit of an encoding is dropped. -/
def Obligations.DecodeOfEncode : Prop := ∀ i : Instr, i.wellFormed = true → decode (encode i) = some i

/-- What a word decodes to is well formed and encodes to that word: every bit of the word stands in the instruction. -/
def Obligations.EncodeOfDecode : Prop :=
  ∀ (w : Word) (i : Instr), decode w = some i → i.wellFormed = true ∧ encode i = w

/-- Words written out from the encodings of the spec decode to what they stand for. -/
def Obligations.SpecWordsDecode : Prop :=
  decode 0xEE100F10#32 = some (.mrcId .al 0) ∧ decode 0xEE17FF7A#32 = some (.mrcTestClean .al 15) ∧
    decode 0xEEAF0F37#32 = some (.mcrLockTlbTransfer5 .al 0) ∧
    decode 0xE25EF008#32 = some (.subImm .al true 14 15 ⟨0#4, 8#8⟩) ∧
    decode 0xE1B00461#32 = some (.movReg .al true 0#4 0 ⟨8#5, .ror, 1⟩) ∧
    decode 0xE28F0004#32 = some (.adrAhead .al 0 ⟨0#4, 4#8⟩) ∧ decode 0x1AFFFFFD#32 = some (.b .ne 0xFFFFFD#24) ∧
    decode 0xE4913004#32 = some (.ldrImm .al ⟨false, true, false⟩ 1 3 4#12) ∧
    decode 0xE890003E#32 = some (.ldm .al ⟨false, true, false⟩ false 0 0x003E#16) ∧
    decode 0xE121F000#32 = some (.msrReg .al false 0b0001#4 0)

/-- A step at a quiet boundary whose fetch brings a word that decodes to an instruction runs that instruction: in the state
with the word and the two after it fetched, what showed for one step only cleared, and with what the step adds around it. Every
byte of memory, in canonical form, that no other agent is to write is as it was where the hardware has no dirty line to evict. -/
def Obligations.StepRunsDecodedInstruction : Prop :=
  ∀ (s : State) (w : Word) (i : Instr), s.quiet → fetchedResult s = .word w → decode w = some i →
    let u := s.cleared.prepared
    step s = afterInstruction s.cleared (currentSlot s.ticked).1 (exec i u) ∧
      u.cpu = s.cpu ∧ u.cp15 = s.cp15 ∧ u.lastRead = s.lastRead ∧ u.cpAnswers = s.cpAnswers ∧
      (s.ms.wf = true → (∀ l ∈ s.ms.dcache, l.dirty = false) → ∀ cell, s.ms.othersWrite false cell = false →
        u.byteAt cell = s.byteAt cell) ∧
      (∀ t, exec i u = .next t → t.nonseq = true → step s = .next t) ∧
      (∀ t, exec i u = .next t → t.cpu.pc = s.cpu.pc + 4#32 → s.cpu.pc &&& 0xFFFFFFFC#32 ≠ 0xFFFFFFFC#32 →
        step s = .next t)

/-- A fetch reads memory at the pc, and a loaded word is what the next step fetches: with the MMU and the ICache off, outside the
TCM, where no slave answers ERROR and no breakpoint is asked for, a fetch that is nonsequential brings the word that memory holds
at the pc, when no write to it is pending or may be evicted, and no other agent is to write it; and the fetch after withFetchWord
brings the word loaded, from memory or from the TCM, whose RAM has power (assumption 8). -/
def Obligations.FetchReadsMemory : Prop :=
  (∀ s : State, s.cp15.ctrl.m = false → s.cp15.ctrl.i = false → s.nonseq = true →
    tcmOffset s.cfg.itcmSize s.cp15.itcm s.cpu.pc = none → busError s.cfg (wordAddr s.cpu.pc) = false →
    s.ctx.breaks = false → s.ms.wbuf = [] → (∀ l ∈ s.ms.dcache, l.dirty = false) → s.ms.wf = true →
    s.ms.alone (wordAddr s.cpu.pc) = true →
    fetchedResult s = .word (s.wordAt (wordAddr s.cpu.pc))) ∧
  (∀ (s : State) (w : Word), s.cp15.ctrl.m = false → s.cp15.ctrl.i = false → s.ms.wf = true → s.ctx.breaks = false →
    (tcmOffset s.cfg.itcmSize s.cp15.itcm s.cpu.pc = none → busError s.cfg (wordAddr s.cpu.pc) = false) →
    (tcmOffset s.cfg.itcmSize s.cp15.itcm s.cpu.pc ≠ none → s.pins.itcmRam = true) →
    fetchedResult (s.withFetchWord 32 w.toNat) = .word w)

/-- A step at a quiet boundary whose fetch was aborted takes the Prefetch Abort: the IFSR records the fault, r14_abt holds the
instruction's address plus 4, the DFSR and the FAR are as they were. With debug disabled a BKPT word, of the encoding that
assumption 53 presumes, takes it too, and then no CP15 register changes. -/
def Obligations.StepTakesPrefetchAbort : Prop :=
  (∀ (s : State) (a : AbortInfo), s.quiet → fetchedResult s = .abort a →
    ∃ t, step s = .next t ∧ t.cpu.pc = vectorBase s + 0x0C#32 ∧ t.bankReg 0b10111#5 14 = s.cpu.pc + 4#32 ∧
      t.cpu.spsr.get 3 = s.cpu.cpsr ∧ t.mode = 0b10111#5 ∧
      t.cp15 = { s.cp15 with ifsr := t.cp15.ifsr } ∧
      t.cp15.ifsr.extractLsb' 0 4 = statusBits a.status (s.prepared.drawn 0 |>.getLsbD 0) ∧
      (∀ d, a.domain = some d → t.cp15.ifsr.extractLsb' 4 4 = d)) ∧
  (∀ (s : State) (w : Word), s.quiet → fetchedResult s = .word w → w &&& 0xFFF000F0#32 = 0xE1200070#32 →
    ∃ t, step s = .next t ∧ t.cpu.pc = vectorBase s + 0x0C#32 ∧ t.bankReg 0b10111#5 14 = s.cpu.pc + 4#32 ∧
      t.cpu.spsr.get 3 = s.cpu.cpsr ∧ t.mode = 0b10111#5 ∧ t.cp15 = s.cp15)

/-- Interrupts are taken at the boundary, FIQ before IRQ, each only when its line is LOW and its mask is clear; the link
register holds the address of the next instruction plus 4. R531 gives that link for ARM state: that Thumb and Jazelle state have the
same, and are left from, is the model's choice (assumption 23, DESIGN CHOICE), as is taking the interrupt at this very boundary, the
first at which its line is LOW (assumption 9, DESIGN CHOICE). In standby, with debug disabled and whatever EDBGRQ shows (the model's
choice, assumption 57), nothing happens while both lines are HIGH but that the signals shown for one step end; with a line LOW,
masked or not (assumption 56), the machine steps as it would awake. -/
def Obligations.StepTakesInterrupts : Prop :=
  (∀ s : State, s.inputs = [] → s.cfg.dbgen = false → s.standby = false → s.cfg.etmen = false →
    (s.pins.nfiq = false → fiqMasked s.cpu.cpsr = false →
      ∃ t, step s = .next t ∧ t.cpu.pc = vectorBase s + 0x1C#32 ∧ t.bankReg 0b10001#5 14 = s.cpu.pc + 4#32 ∧
        t.cpu.spsr.get 0 = s.cpu.cpsr ∧ t.mode = 0b10001#5 ∧ irqMasked t.cpu.cpsr = true ∧ fiqMasked t.cpu.cpsr = true) ∧
    (s.pins.nirq = false → irqMasked s.cpu.cpsr = false → (s.pins.nfiq = true ∨ fiqMasked s.cpu.cpsr = true) →
      ∃ t, step s = .next t ∧ t.cpu.pc = vectorBase s + 0x18#32 ∧ t.bankReg 0b10010#5 14 = s.cpu.pc + 4#32 ∧
        t.cpu.spsr.get 1 = s.cpu.cpsr ∧ t.mode = 0b10010#5 ∧ irqMasked t.cpu.cpsr = true ∧
        fiqMasked t.cpu.cpsr = fiqMasked s.cpu.cpsr)) ∧
  (∀ s : State, s.inputs = [] → s.cfg.dbgen = false → s.standby = true →
    (s.pins.nirq = true → s.pins.nfiq = true → step s = .next s.cleared) ∧
    ((s.pins.nirq = false ∨ s.pins.nfiq = false) → step s = step { s with standby := false }))

/-- The condition table, and what an instruction does when its condition fails: nothing but the pc's advance. Condition 1111
is no condition. -/
def Obligations.ConditionalExecution : Prop :=
  (∀ n z c v : Bool, ∀ psr : Word, flagN psr = n → flagZ psr = z → flagC psr = c → flagV psr = v →
    [0#4, 1#4, 2#4, 3#4, 4#4, 5#4, 6#4, 7#4, 8#4, 9#4, 10#4, 11#4, 12#4, 13#4, 14#4, 15#4].map
        (fun b => (condOf b).map fun k => conditionPassed k psr) =
      [some z, some (!z), some c, some (!c), some n, some (!n), some v, some (!v), some (c && !z), some (!c || z),
        some (n == v), some (n != v), some (!z && n == v), some (z || n != v), some true, none]) ∧
  (∀ (i : Instr) (c : Cond) (s : State), conditionOf i = some c → conditionPassed c s.cpu.cpsr = false →
    exec i s = .next { s with cpu := { s.cpu with pc := s.cpu.pc + 4#32 } })

/-- The state after reset meets the invariant, whatever the parameters of the system. -/
def Obligations.ResetMeetsInvariant : Prop :=
  State.reset.inv = true ∧ ∀ cfg : Config, (State.resetWith cfg).inv = true

/-- Every step keeps the invariant: the memories stay in canonical form, the mode stays one of the seven, the TCM regions do
not come to overlap. -/
def Obligations.StepKeepsInvariant : Prop :=
  ∀ s t : State, s.inv = true → step s = .next t → t.inv = true

/-- What an instruction executed in User mode leaves of CP15: every register but the two that a Data Abort writes, what software
has read of them, and of the TLB Lockdown Register the preserve bit; its victim too, and the lockdown part of the TLB, unless the
preserve bit is 1, when a table walk puts its entry there and moves the victim on. The parameters and the pins are as they
were. -/
def Obligations.UserModeCannotWriteCp15 : Prop :=
  ∀ (i : Instr) (s t : State), s.mode = 0b10000#5 → exec i s = .next t →
    t.cp15 = { s.cp15 with dfsr := t.cp15.dfsr, far := t.cp15.far } ∧ t.lastRead = s.lastRead ∧
      t.ms.preserve = s.ms.preserve ∧
      (s.ms.preserve = false → t.ms.victim = s.ms.victim ∧ t.ms.tlbLock = s.ms.tlbLock) ∧
      t.cfg = s.cfg ∧ t.pins = s.pins

/-- An instruction executed in User mode either stays in User mode with both interrupt masks as they were, or takes the
Undefined, SWI or Data Abort exception, with the old status register saved. -/
def Obligations.UserModeLeftOnlyByException : Prop :=
  ∀ (i : Instr) (s t : State), s.mode = 0b10000#5 → exec i s = .next t →
    (t.mode = 0b10000#5 ∧ irqMasked t.cpu.cpsr = irqMasked s.cpu.cpsr ∧ fiqMasked t.cpu.cpsr = fiqMasked s.cpu.cpsr) ∨
    (∃ e : Exception, (e = .undefined ∨ e = .swi ∨ e = .dataAbort) ∧ t.mode = exceptionMode e ∧
      t.cpu.pc = vectorBase s + exceptionOffset e ∧ t.cpu.spsr.get (exceptionSpsr e) = s.cpu.cpsr ∧
      irqMasked t.cpu.cpsr = true)

/-- What reset leaves in the registers whose reset value the spec gives: all 0, but for V, B and the ITCM enable bit, which
follow their pins, and the Memory Region Remap Register; caches and buffers empty; the core in Supervisor mode, in ARM
state, with interrupts masked, at the reset vector. -/
def Obligations.ResetValues : Prop :=
  ∀ cfg : Config, let s := State.resetWith cfg
    s.cp15.ctrl = ⟨false, false, false, cfg.bigendinit, false, false, false, cfg.vinithi, false, false⟩ ∧
    s.cp15.ttbr = 0#18 ∧ s.cp15.dacr = 0#32 ∧ s.cp15.dfsr = 0#8 ∧ s.cp15.ifsr = 0#8 ∧ s.cp15.far = 0#32 ∧
    s.cp15.dlock = 0#4 ∧ s.cp15.ilock = 0#4 ∧ s.cp15.dtcm = ⟨0#20, false⟩ ∧ s.cp15.itcm = ⟨0#20, cfg.initram⟩ ∧
    s.ms.victim = 0#3 ∧ s.ms.preserve = false ∧ s.cp15.fcsePid = 0#7 ∧ s.cp15.contextId = 0#32 ∧
    s.cp15.dbgovr = 0#7 ∧ s.cp15.dtaddr = 0#32 ∧ s.cp15.tracectl = 0#2 ∧ s.cp15.cachedbg = 0#3 ∧ s.cp15.mmudbg = 0#8 ∧
    s.cp15.tlbTagMain = 0#32 ∧ s.cp15.tlbPaMain = 0#32 ∧ s.cp15.tlbTagLock = 0#32 ∧ s.cp15.tlbPaLock = 0#32 ∧
    s.cp15.remap = 0xE4E4#16 ∧ s.ms.icache = [] ∧ s.ms.dcache = [] ∧ s.ms.wbuf = [] ∧ s.ms.itcmWb = [] ∧
    s.ms.dtcmWb = [] ∧ s.ms.prefetch = [] ∧ s.standby = false ∧
    s.mode = 0b10011#5 ∧ irqMasked s.cpu.cpsr = true ∧ fiqMasked s.cpu.cpsr = true ∧ thumbBit s.cpu.cpsr = false ∧
    jazelleBit s.cpu.cpsr = false ∧ s.cpu.pc = (if cfg.vinithi then 0xFFFF0000#32 else 0#32)

/-- Taking an exception: the vector, the mode, the link register, the saved status register and the masks of each of the six
exceptions; the flags, the other registers and everything outside the core are as they were. -/
def Obligations.ExceptionEntry : Prop :=
  ∀ (e : Exception) (link : Word) (s : State),
    let t := takeException e link s
    let row : BitVec 32 × BitVec 5 × Fin 30 × Fin 5 :=
      match e with
      | .undefined => (0x04#32, 0b11011#5, 29, 4)
      | .swi => (0x08#32, 0b10011#5, 25, 2)
      | .prefetchAbort => (0x0C#32, 0b10111#5, 27, 3)
      | .dataAbort => (0x10#32, 0b10111#5, 27, 3)
      | .irq => (0x18#32, 0b10010#5, 23, 1)
      | .fiq => (0x1C#32, 0b10001#5, 21, 0)
    t.cpu.pc = (if s.cp15.ctrl.v then 0xFFFF0000#32 else 0#32) + row.1 ∧ t.mode = row.2.1 ∧
      t.cpu.regs.get row.2.2.1 = link ∧ t.bankReg t.mode 14 = link ∧ sameRegsBut [row.2.2.1] s t ∧
      t.cpu.spsr.get row.2.2.2 = s.cpu.cpsr ∧ (∀ n, n ≠ row.2.2.2 → t.cpu.spsr.get n = s.cpu.spsr.get n) ∧
      irqMasked t.cpu.cpsr = true ∧ fiqMasked t.cpu.cpsr = (fiqMasked s.cpu.cpsr || e == .fiq) ∧
      thumbBit t.cpu.cpsr = false ∧ jazelleBit t.cpu.cpsr = false ∧
      t.cpu.cpsr &&& 0xFEFFFF00#32 = s.cpu.cpsr &&& 0xFEFFFF00#32 ∧ t.nonseq = true ∧ onlyCore s t

/-- A Data Abort writes the fault's status and, where it is valid, its domain into the DFSR, its address into the FAR, and takes
the exception with the link of the instruction's address plus 8. Of the coprocessor pins CPLATECANCEL rises when a coprocessor
instruction follows (R460), and CPPASS too when that one passes its condition, as it enters Execute before it is cancelled (R463);
that CPLATECANCEL also rises for one that fails its condition is assumption 36 (PRESUMED). Nothing else changes: no other CP15
register, no other register of the core, no memory, no TLB. -/
def Obligations.DataAbortRecordsFault : Prop :=
  ∀ (a : AbortInfo) (s : State),
    let t := takeDataAbort a s
    t.cp15 = { s.cp15 with dfsr := t.cp15.dfsr, far := a.mva } ∧
      (∀ d, a.domain = some d → t.cp15.dfsr.extractLsb' 4 4 = d) ∧
      (match a.status with
        | .alignment => t.cp15.dfsr.extractLsb' 0 4 = 0b0001#4 ∨ t.cp15.dfsr.extractLsb' 0 4 = 0b0011#4
        | .externalWalk1 => t.cp15.dfsr.extractLsb' 0 4 = 0b1100#4
        | .externalWalk2 => t.cp15.dfsr.extractLsb' 0 4 = 0b1110#4
        | .translationSection => t.cp15.dfsr.extractLsb' 0 4 = 0b0101#4
        | .translationPage => t.cp15.dfsr.extractLsb' 0 4 = 0b0111#4
        | .domainSection => t.cp15.dfsr.extractLsb' 0 4 = 0b1001#4
        | .domainPage => t.cp15.dfsr.extractLsb' 0 4 = 0b1011#4
        | .permissionSection => t.cp15.dfsr.extractLsb' 0 4 = 0b1101#4
        | .permissionPage => t.cp15.dfsr.extractLsb' 0 4 = 0b1111#4
        | .external => t.cp15.dfsr.extractLsb' 0 4 = 0b1000#4 ∨ t.cp15.dfsr.extractLsb' 0 4 = 0b1010#4
        | .forcedMiss => t.cp15.dfsr.extractLsb' 0 4 = 0b0000#4) ∧
      t.cpu.pc = vectorBase s + 0x10#32 ∧ t.mode = 0b10111#5 ∧ t.bankReg 0b10111#5 14 = s.cpu.pc + 8#32 ∧
      t.cpu.cpsr = exceptionCpsr .dataAbort s.cpu.cpsr ∧ t.cpu.spsr.get 3 = s.cpu.cpsr ∧
      (∀ n, n ≠ 3 → t.cpu.spsr.get n = s.cpu.spsr.get n) ∧ sameRegsBut [27] s t ∧
      t = { s with
        cpu := t.cpu, cp15 := t.cp15, nonseq := true, ms := { s.ms with draws := t.ms.draws }
        cpPins := { s.cpPins with
          cppass := s.cpPins.cppass || followerPasses s, cplatecancel := coprocessorFollows s } }

/-- An access that aborts ends its instruction with the Data Abort. A load or store of one register, LDRD, STM, STRD, SWP, LDC and
STC change no register but those of the exception: the destination is not loaded and the base keeps its value. That LDRD then
loads neither register is assumption 30 (DEDUCED), and that SWP leaves Rd when its write aborts is assumption 55 (DEDUCED). An LDM
keeps its base, and each register whose word was read before the abort holds that word or its old value (assumption 30). The FAR
holds the first aborted address; for an external abort of several words the last address before the first 1KB boundary, when a
word before it aborted, else the last address of the transfer (R542 as assumption 54 reads it, DEDUCED). That no word after an
externally aborted one is read, and that the words after it are written where the environment picks, is the model's choice
(assumption 31, DESIGN CHOICE), and so is what a swap of r15 writes (assumption 43, DESIGN CHOICE). Of LDC and STC the addressing,
the access after acceptance and CPABORT are assumption 36 (PRESUMED). -/
def Obligations.AbortedTransferWritesNoRegister : Prop :=
  (∀ (i : Instr) (s : State) (l : SingleLoad) (a : AbortInfo) (ms : MemSys), singleLoad i s = some l →
    conditionPassed l.cond s.cpu.cpsr = true → l.allowed = true →
    dataRead l.ctx false l.adr.address s.ms = .abort a ms →
    ∃ t, exec i s = .next t ∧ t = takeDataAbort a (s.withMs ms) ∧ sameRegsBut [27] s t ∧ t.cp15.far = a.mva) ∧
  (∀ (i : Instr) (s : State) (l : SingleStore) (a : AbortInfo) (ms : MemSys), singleStore i s = some l →
    conditionPassed l.cond s.cpu.cpsr = true → l.allowed = true →
    (∀ lanes data, dataWrite l.ctx false l.adr.address lanes data s.ms = .abort a ms) →
    ∃ t, exec i s = .next t ∧ t = takeDataAbort a (s.withMs ms) ∧ sameRegsBut [27] s t ∧ t.cp15.far = a.mva) ∧
  (∀ (i : Instr) (s : State) (c : Cond) (first : Word) (ws : List (Word × Word)) (out : WriteMany) (a : AbortInfo)
    (va : Word), multiStore i s = some (c, true, first, ws) → conditionPassed c s.cpu.cpsr = true →
    writeWords s.ctx ws s.ms = .ok out → out.failed = some (a, va) →
    ∃ t, exec i s = .next t ∧ t = takeDataAbort (multiAbort s.ctx first ws.length a va) (s.withMs out.ms) ∧
      sameRegsBut [27] s t) ∧
  (∀ (c : Cond) (a : AddrMode) (rn rd : RegNum) (off : HalfOffset) (s : State) (out : ReadMany) (e : AbortInfo) (va : Word),
    conditionPassed c s.cpu.cpsr = true → userForm a = false → rd.val % 2 = 0 →
    let adr := (addressHalf a rn off s).address
    adr.toNat % 8 = 0 → readWords s.ctx [adr, adr + 4#32] s.ms = .ok out → out.failed = some (e, va) →
    ∃ t, exec (.ldrd c a rn rd off) s = .next t ∧ t = takeDataAbort (multiAbort s.ctx adr 2 e va) (s.withMs out.ms) ∧
      sameRegsBut [27] s t) ∧
  (∀ (c : Cond) (a : AddrMode) (caret : Bool) (rn : RegNum) (list : BitVec 16) (s : State) (out : ReadMany) (e : AbortInfo)
    (va : Word), conditionPassed c s.cpu.cpsr = true → list ≠ 0#16 →
    let regs := listedRegs list
    let start := multipleStart a (s.reg rn) regs.length
    let m := if caret && !list.getLsbD 15 then 0b10000#5 else s.mode
    (s.cp15.ctrl.a = false ∨ start.toNat % 4 = 0) →
    readWords s.ctx (wordsFrom (start &&& 0xFFFFFFFC#32) regs.length) s.ms = .ok out → out.failed = some (e, va) →
    ∃ t u, exec (.ldm c a caret rn list) s = .next t ∧
      t = takeDataAbort (multiAbort s.ctx start regs.length e va) u ∧
      u = { s with cpu := { s.cpu with regs := u.cpu.regs }, ms := { out.ms with draws := u.ms.draws } } ∧
      sameRegsBut (((regs.take out.words.length).filter fun r =>
        r ≠ 15 ∧ (rn = 15 ∨ physReg m r ≠ physReg s.mode rn)).map (physReg m)) s u ∧
      (∀ n (h : n < regs.length) (g : n < out.words.length), regs[n] ≠ 15 →
        u.bankReg m regs[n] = out.words[n] ∨ u.bankReg m regs[n] = s.bankReg m regs[n])) ∧
  (∀ (c : Cond) (rn rd rm : RegNum) (s : State) (a : AbortInfo) (ms : MemSys), conditionPassed c s.cpu.cpsr = true →
    ((s.reg rn).toNat % 4 = 0 → swapAccess s.ctx (s.reg rn) 15#4 (s.stored rm) s.ms = .abort a ms →
      ∃ t, exec (.swp c rn rd rm) s = .next t ∧ t = takeDataAbort a (s.withMs ms) ∧ sameRegsBut [27] s t) ∧
    (swapAccess s.ctx (s.reg rn) (byteLanes s.cp15.ctrl.b (s.reg rn))
        (byteOnLane s.cp15.ctrl.b (s.reg rn) ((s.stored rm).extractLsb' 0 8)) s.ms = .abort a ms →
      ∃ t, exec (.swpb c rn rd rm) s = .next t ∧ t = takeDataAbort a (s.withMs ms) ∧ sameRegsBut [27] s t)) ∧
  (∀ (c : Cond) (a : CoprocMode) (rn : RegNum) (crd cp : BitVec 4) (imm8 : BitVec 8) (ws : List Word)
    (rest : List (List CpDrive)) (s : State) (e : AbortInfo) (va : Word), conditionPassed c s.cpu.cpsr = true →
    cp ≠ 14#4 → undefinedMode a = false → coprocessorPresent s cp = true → cpReply s.cpAnswers = .accepts ws rest →
    let adr := (addressCoproc a rn imm8 s).address
    (s.cp15.ctrl.a = false ∨ adr.toNat % 4 = 0) →
    (∀ out, readWords s.ctx (wordsFrom (adr &&& 0xFFFFFFFC#32) ws.length) s.ms = .ok out → out.failed = some (e, va) →
      ∃ t, exec (.ldcExt c a rn crd cp imm8) s = .next t ∧ sameRegsBut [27] s t ∧
        t = takeDataAbort (multiAbort s.ctx adr ws.length e va) ((({ s with cpAnswers := rest }).withMs out.ms).sendCp cp
          (shownTo (.ldcExt c a rn crd cp imm8)) out.words true)) ∧
    (∀ out, writeWords s.ctx ((wordsFrom (adr &&& 0xFFFFFFFC#32) ws.length).zip ws) s.ms = .ok out →
      out.failed = some (e, va) →
      ∃ t, exec (.stcExt c a rn crd cp imm8) s = .next t ∧ sameRegsBut [27] s t ∧
        t = takeDataAbort (multiAbort s.ctx adr ws.length e va) ((({ s with cpAnswers := rest }).withMs out.ms).sendCp cp
          (shownTo (.stcExt c a rn crd cp imm8)) [] true))) ∧
  (∀ (k : Ctx) (first va : Word) (count : Nat) (a : AbortInfo), a.status ≠ .external →
    multiAbort k first count a va = a) ∧
  (∀ (k : Ctx) (first : Word) (count j : Nat) (a : AbortInfo), a.status = .external → first.toNat % 4 = 0 →
    first.toNat + 4 * count ≤ 2 ^ 32 → j < count →
    let last := first.toNat + 4 * (count - 1)
    let split := (first.toNat / 1024 + 1) * 1024
    multiAbort k first count a (first + BitVec.ofNat 32 (4 * j)) =
      { a with mva := fcse k.cp15 (BitVec.ofNat 32 (if split ≤ last ∧ first.toNat + 4 * j < split then split - 4 else last)) })

/-- SWI takes its exception: r14_svc holds the address of the next instruction, SPSR_svc the status register, and the
24-bit comment changes nothing. -/
def Obligations.SoftwareInterrupt : Prop :=
  ∀ (c : Cond) (imm24 other : BitVec 24) (s : State), conditionPassed c s.cpu.cpsr = true →
    (∃ t, exec (.swi c imm24) s = .next t ∧ t = takeException .swi (s.cpu.pc + 4#32) s ∧
      t.bankReg 0b10011#5 14 = s.cpu.pc + 4#32 ∧ t.cpu.spsr.get 2 = s.cpu.cpsr ∧ t.cpu.pc = vectorBase s + 8#32) ∧
      exec (.swi c imm24) s = exec (.swi c other) s

/-- The undefined words, and the coprocessor classes that CP15 does not take, take the Undefined instruction exception in
every mode, with the instruction's address plus 4 in r14_und and no memory access. -/
def Obligations.UndefinedInstructionsTrap : Prop :=
  ∀ (i : Instr) (s : State), undefinedEverywhere i = true → passes i s →
    ∃ t, exec i s = .next t ∧ t = takeException .undefined (s.cpu.pc + 4#32) s ∧
      t.bankReg 0b11011#5 14 = s.cpu.pc + 4#32 ∧ t.cpu.spsr.get 4 = s.cpu.cpsr ∧ t.cpu.pc = vectorBase s + 4#32 ∧
      t.cp15 = s.cp15 ∧ t.ms = s.ms

/-- MOVS pc, r14 after an SWI, and SUBS pc, r14, #4 after an interrupt, give back the pc and the whole status register that
the exception found, in ARM state at a word address. -/
def Obligations.ReturnUndoesEntry : Prop :=
  ∀ s : State, legalMode s.mode = true → thumbBit s.cpu.cpsr = false → jazelleBit s.cpu.cpsr = false →
    s.cpu.pc &&& 3#32 = 0#32 →
    (∃ t, exec (.movReg .al true 0#4 15 ⟨0#5, .lsl, 14⟩) (takeException .swi (s.cpu.pc + 4#32) s) = .next t ∧
      t.cpu.pc = s.cpu.pc + 4#32 ∧ t.cpu.cpsr = s.cpu.cpsr ∧ onlyCore s t) ∧
    (∀ e, e = Exception.irq ∨ e = Exception.fiq →
      ∃ t, exec (.subImm .al true 14 15 ⟨0#4, 4#8⟩) (takeException e (s.cpu.pc + 4#32) s) = .next t ∧
        t.cpu.pc = s.cpu.pc ∧ t.cpu.cpsr = s.cpu.cpsr ∧ onlyCore s t) ∧
    (∀ a, ∃ t, exec (.subImm .al true 14 15 ⟨0#4, 8#8⟩) (takeDataAbort a s) = .next t ∧
      t.cpu.pc = s.cpu.pc ∧ t.cpu.cpsr = s.cpu.cpsr)

/-- The opcodes with a result, for every Rd but r15, which DataProcessingToPc covers: Rd takes the result of the spec's formula,
the flags are written with S = 1 and only then, and nothing else changes but the pc. What stands in the should-be-zero field of MOV
and MVN changes nothing, which is the model's choice (assumption 34). -/
def Obligations.DataProcessingResults : Prop :=
  ∀ (o : ResultOp) (c : Cond) (setFlags : Bool) (rn rd : RegNum) (op : Operand) (s : State),
    conditionPassed c s.cpu.cpsr = true → rd ≠ 15 →
    let out := o.outcome (s.reg rn) (op.shifted s) (flagC s.cpu.cpsr) (flagV s.cpu.cpsr)
    field (encode (o.instr c setFlags rn rd op)) 21 4 = o.code ∧
    ∃ t, exec (o.instr c setFlags rn rd op) s = .next t ∧ t.bankReg s.mode rd = out.value ∧
      sameRegsBut [physReg s.mode rd] s t ∧ t.cpu.spsr = s.cpu.spsr ∧ t.cpu.pc = s.cpu.pc + 4#32 ∧
      (if setFlags then flagsAre out s.cpu.cpsr t.cpu.cpsr else t.cpu.cpsr = s.cpu.cpsr) ∧
      onlyCore s t ∧ t.nonseq = s.nonseq ∧ (∀ cell, t.byteAt cell = s.byteAt cell)

/-- The opcodes with a result and Rd = r15: with S = 0 a branch to the result, bits [1:0] ignored (assumption 24); with S = 1
the status register takes the mode's SPSR and the pc the result; a saved mode that names none faults (assumption 26), and
User and System mode have no SPSR, so there the model stops. -/
def Obligations.DataProcessingToPc : Prop :=
  ∀ (o : ResultOp) (c : Cond) (rn : RegNum) (op : Operand) (s : State), conditionPassed c s.cpu.cpsr = true →
    let v := (o.outcome (s.reg rn) (op.shifted s) (flagC s.cpu.cpsr) (flagV s.cpu.cpsr)).value
    (∃ t, exec (o.instr c false rn 15 op) s = .next t ∧ t.cpu.pc = v &&& 0xFFFFFFFC#32 ∧ t.cpu.cpsr = s.cpu.cpsr ∧
      t.cpu.spsr = s.cpu.spsr ∧ sameRegsBut [] s t ∧ t.nonseq = true ∧ onlyCore s t) ∧
    (∀ n, spsrIndex s.mode = some n → legalMode (modeOf (s.cpu.spsr.get n)) = true →
      ∃ t, exec (o.instr c true rn 15 op) s = .next t ∧ t.cpu.cpsr = s.cpu.spsr.get n ∧
        (thumbBit (s.cpu.spsr.get n) = false → jazelleBit (s.cpu.spsr.get n) = false → t.cpu.pc = v &&& 0xFFFFFFFC#32) ∧
        (thumbBit (s.cpu.spsr.get n) = true → t.cpu.pc = v &&& 0xFFFFFFFE#32) ∧
        t.cpu.spsr = s.cpu.spsr ∧ sameRegsBut [] s t ∧ t.nonseq = true ∧ onlyCore s t) ∧
    (∀ n, spsrIndex s.mode = some n → legalMode (modeOf (s.cpu.spsr.get n)) = false →
      exec (o.instr c true rn 15 op) s = .fault .illegalMode) ∧
    (spsrIndex s.mode = none → exec (o.instr c true rn 15 op) s = .refused .unpredictableReturn)

/-- The compares write the four flags of the spec's formula and nothing else but the pc; what stands in the should-be-zero field
changes nothing, which is the model's choice (assumption 34). -/
def Obligations.CompareFlags : Prop :=
  ∀ (o : CompareOp) (c : Cond) (rn : RegNum) (sbz : BitVec 4) (op : Operand) (s : State),
    conditionPassed c s.cpu.cpsr = true →
    field (encode (o.instr c rn sbz op)) 21 4 = o.code ∧ field (encode (o.instr c rn sbz op)) 20 1 = 1#1 ∧
    ∃ t, exec (o.instr c rn sbz op) s = .next t ∧
      flagsAre (o.outcome (s.reg rn) (op.shifted s) (flagV s.cpu.cpsr)) s.cpu.cpsr t.cpu.cpsr ∧
      sameRegsBut [] s t ∧ t.cpu.spsr = s.cpu.spsr ∧ t.cpu.pc = s.cpu.pc + 4#32 ∧ onlyCore s t ∧ t.nonseq = s.nonseq ∧
      (∀ cell, t.byteAt cell = s.byteAt cell)

/-- The shifter operand bit by bit: the immediate, LSL, LSR, ASR, ROR and RRX, with the shifter carry of each; an amount of 0
stands for 32 in LSR and ASR. The addresses of the loads and stores: base plus or minus offset, before or after, written back or
not; what stands in the should-be-zero field of a register offset of a halfword, signed or doubleword transfer changes nothing,
which is the model's choice (assumption 34, DEDUCED). The register list in ascending order, its first address and its new base by
P and U. A register as an operand and as a value stored; a stored r15 is the address plus 8 or plus 12 (assumption 43), and the
addresses of LDC and STC are those of assumption 36. -/
def Obligations.ShifterOperand : Prop :=
  (∀ (op : ImmOp) (s : State), let o := operandImm op s
    (∀ j < 32, o.value.getLsbD j = op.imm8.getLsbD ((j + 2 * op.rot.toNat) % 32)) ∧
      o.carry = if op.rot = 0#4 then flagC s.cpu.cpsr else o.value.getLsbD 31) ∧
  (∀ (op : ShiftOp) (s : State), let v := s.reg op.rm; let o := operandReg op s; let n := op.amount.toNat
    let k := if n = 0 then 32 else n
    match op.kind with
    | .lsl =>
      (∀ j < 32, o.value.getLsbD j = (decide (n ≤ j) && v.getLsbD (j - n))) ∧
        o.carry = if n = 0 then flagC s.cpu.cpsr else v.getLsbD (32 - n)
    | .lsr => (∀ j < 32, o.value.getLsbD j = v.getLsbD (j + k)) ∧ o.carry = v.getLsbD (k - 1)
    | .asr => (∀ j < 32, o.value.getLsbD j = v.getLsbD (min 31 (j + k))) ∧ o.carry = v.getLsbD (k - 1)
    | .ror =>
      if n = 0 then
        (∀ j < 31, o.value.getLsbD j = v.getLsbD (j + 1)) ∧ o.value.getLsbD 31 = flagC s.cpu.cpsr ∧ o.carry = v.getLsbD 0
      else (∀ j < 32, o.value.getLsbD j = v.getLsbD ((j + n) % 32)) ∧ o.carry = o.value.getLsbD 31) ∧
  (∀ (a : AddrMode) (rn rm : RegNum) (imm : BitVec 12) (imm8 : BitVec 8) (sbz : BitVec 4) (op : ShiftOp) (s : State),
    let base : Int := (s.reg rn).toNat
    let isAddress (adr : Address) (off : Int) : Prop :=
      let moved := BitVec.ofInt 32 (if a.u then base + off else base - off)
      adr.address = (if a.p then moved else s.reg rn) ∧
        adr.writeBack = if a.p = true ∧ a.w = false then none else some moved
    isAddress (addressImm a rn imm s) imm.toNat ∧ isAddress (addressReg a rn op s) (operandReg op s).value.toNat ∧
      isAddress (addressHalf a rn (.imm imm8) s) imm8.toNat ∧
      isAddress (addressHalf a rn (.reg sbz rm) s) (s.reg rm).toNat ∧
      (∀ n, (a.p = true ∨ a.w = true) →
        isAddress (addressCoproc ⟨a.p, a.u, n, a.w⟩ rn imm8 s) (4 * imm8.toNat)) ∧
      (∀ n u, addressCoproc ⟨false, u, n, false⟩ rn imm8 s = ⟨s.reg rn, none⟩)) ∧
  (∀ list : BitVec 16, (listedRegs list).Pairwise (· < ·) ∧
    ∀ r : RegNum, r ∈ listedRegs list ↔ list.getLsbD r.val = true) ∧
  (∀ (w : Bool) (base : Word) (n : Nat),
    multipleStart ⟨false, true, w⟩ base n = base ∧ multipleStart ⟨true, true, w⟩ base n = base + 4#32 ∧
      multipleStart ⟨false, false, w⟩ base n = BitVec.ofInt 32 ((base.toNat : Int) - 4 * n + 4) ∧
      multipleStart ⟨true, false, w⟩ base n = BitVec.ofInt 32 ((base.toNat : Int) - 4 * n) ∧
      ∀ p, multipleBase ⟨p, true, w⟩ base n = BitVec.ofInt 32 ((base.toNat : Int) + 4 * n) ∧
        multipleBase ⟨p, false, w⟩ base n = BitVec.ofInt 32 ((base.toNat : Int) - 4 * n)) ∧
  (∀ (r : RegNum) (s : State),
    (r ≠ 15 → s.reg r = s.cpu.regs.get (physReg s.mode r) ∧ s.stored r = s.cpu.regs.get (physReg s.mode r)) ∧
      (r = 15 → s.reg r = s.cpu.pc + 8#32 ∧ (s.stored r = s.cpu.pc + 8#32 ∨ s.stored r = s.cpu.pc + 12#32)))

/-- ADR gives Rd the address of the label: the instruction's address plus 8, plus or minus the immediate; the flags and all
else are as they were. With Rd = r15 it is a branch there. -/
def Obligations.AdrAddress : Prop :=
  ∀ (c : Cond) (rd : RegNum) (op : ImmOp) (s : State) (ahead : Bool), conditionPassed c s.cpu.cpsr = true →
    let off := (op.imm8.setWidth 32).rotateRight (2 * op.rot.toNat)
    let v := if ahead then s.cpu.pc + 8#32 + off else s.cpu.pc + 8#32 - off
    ∃ t, exec (if ahead then .adrAhead c rd op else .adrBehind c rd op) s = .next t ∧ registerGets rd v s t ∧ onlyCore s t

/-- B and BL go to the instruction's address plus 8 plus four times the signed offset, modulo 2^32; BL alone writes r14, with
the address of the next instruction. -/
def Obligations.BranchAndLink : Prop :=
  ∀ (c : Cond) (imm24 : BitVec 24) (s : State), conditionPassed c s.cpu.cpsr = true → s.cpu.pc &&& 3#32 = 0#32 →
    let target := BitVec.ofInt 32 ((s.cpu.pc.toNat : Int) + 8 + 4 * imm24.toInt)
    (∃ t, exec (.b c imm24) s = .next t ∧ t.cpu.pc = target ∧ sameRegsBut [] s t ∧ t.cpu.cpsr = s.cpu.cpsr ∧
      t.cpu.spsr = s.cpu.spsr ∧ t.nonseq = true ∧ onlyCore s t) ∧
    (∃ t, exec (.bl c imm24) s = .next t ∧ t.cpu.pc = target ∧ t.bankReg s.mode 14 = s.cpu.pc + 4#32 ∧
      sameRegsBut [physReg s.mode 14] s t ∧ t.cpu.cpsr = s.cpu.cpsr ∧ t.cpu.spsr = s.cpu.spsr ∧ t.nonseq = true ∧
      onlyCore s t)

/-- BX and BLX go to the register's value with bit 0 cleared, and bit 0 becomes the T bit; BLX first writes r14, so that a
source of r14 reads the new value (assumption 25). -/
def Obligations.BranchExchange : Prop :=
  ∀ (c : Cond) (rm : RegNum) (s : State), conditionPassed c s.cpu.cpsr = true →
    (∃ t, exec (.bx c rm) s = .next t ∧ t.cpu.pc = s.reg rm &&& 0xFFFFFFFE#32 ∧
      thumbBit t.cpu.cpsr = (s.reg rm).getLsbD 0 ∧ t.cpu.cpsr &&& 0xFFFFFFDF#32 = s.cpu.cpsr &&& 0xFFFFFFDF#32 ∧
      sameRegsBut [] s t ∧ t.cpu.spsr = s.cpu.spsr ∧ t.nonseq = true ∧ onlyCore s t) ∧
    (let v := if rm = 14 then s.cpu.pc + 4#32 else s.reg rm
      ∃ t, exec (.blx c rm) s = .next t ∧ t.cpu.pc = v &&& 0xFFFFFFFE#32 ∧ thumbBit t.cpu.cpsr = v.getLsbD 0 ∧
        t.cpu.cpsr &&& 0xFFFFFFDF#32 = s.cpu.cpsr &&& 0xFFFFFFDF#32 ∧ t.bankReg s.mode 14 = s.cpu.pc + 4#32 ∧
        sameRegsBut [physReg s.mode 14] s t ∧ t.cpu.spsr = s.cpu.spsr ∧ t.nonseq = true ∧ onlyCore s t)

/-- The loads of one register, where the access goes straight to AHB (State.plain, by which no other agent is to write the word),
of a memory in canonical form: they give the bytes that memory holds, rotated, zero- or sign-extended as the spec says, change no
byte of memory but those that another agent is to write (R588), and end as a load ends. -/
def Obligations.LoadsReadMemory : Prop :=
  ∀ (i : Instr) (s : State) (l : SingleLoad), singleLoad i s = some l → conditionPassed l.cond s.cpu.cpsr = true →
    l.allowed = true → s.plain l.adr.address = true → s.ms.wf = true →
    ∃ ms, sameBytes s.ms ms ∧
      exec i s = .next (finishLoad l.word l.base l.dest l.adr.writeBack l.value (s.withMs ms))

/-- The end of a load: Rd takes the value and the base its new value; when both are one register the value is free (assumption
29). A word loaded into r15 is a branch that, with L4 = 0, takes bit 0 as the T bit. LDRD gives Rd the first word and the
register after it the second; Rd = r14 makes the second a branch (assumption 32). The end of a store writes the base alone; a
base of r15 is a branch (assumption 32). Where a branch ignores bits [1:0] of its word, that is assumption 24. Every other register,
the status registers, CP15 and memory are as they were. -/
def Obligations.TransferWritesRegisters : Prop :=
  (∀ (word : Bool) (rn rd : RegNum) (wb : Option Word) (v : Word) (s : State),
    let t := finishLoad word rn rd wb v s
    (rd ≠ 15 → (wb = none ∨ rn ≠ rd) → t.bankReg s.mode rd = v) ∧
    (∀ b, wb = some b → rn ≠ 15 → rn ≠ rd → t.bankReg s.mode rn = b) ∧
    sameRegsBut ((if rd = 15 then [] else [physReg s.mode rd]) ++ baseWritten rn wb s) s t ∧
    (rd ≠ 15 → (wb = none ∨ rn ≠ 15) → t.cpu.pc = s.cpu.pc + 4#32) ∧
    (∀ b, rd ≠ 15 → wb = some b → rn = 15 → t.cpu.pc = b &&& 0xFFFFFFFC#32) ∧
    (rd = 15 → word = true → s.cp15.ctrl.l4 = false → (wb = none ∨ rn ≠ 15) →
      t.cpu.pc = v &&& 0xFFFFFFFE#32 ∧ thumbBit t.cpu.cpsr = v.getLsbD 0 ∧
      t.cpu.cpsr &&& 0xFFFFFFDF#32 = s.cpu.cpsr &&& 0xFFFFFFDF#32) ∧
    (rd = 15 → (word = false ∨ s.cp15.ctrl.l4 = true) → (wb = none ∨ rn ≠ 15) → t.cpu.pc = v &&& 0xFFFFFFFC#32) ∧
    ((rd ≠ 15 ∨ word = false ∨ s.cp15.ctrl.l4 = true) → t.cpu.cpsr = s.cpu.cpsr) ∧
    t.cpu.spsr = s.cpu.spsr ∧
    t = { s with cpu := t.cpu, nonseq := t.nonseq, ms := { s.ms with draws := t.ms.draws } }) ∧
  (∀ (rn rd : RegNum) (wb : Option Word) (lo hi : Word) (s : State), rd.val % 2 = 0 →
    let t := finishLoadPair rn rd wb lo hi s
    ((wb = none ∨ rn ≠ rd) → t.bankReg s.mode rd = lo) ∧
    (rd ≠ 14 → (wb = none ∨ rn ≠ nextReg rd) → t.bankReg s.mode (nextReg rd) = hi) ∧
    (∀ b, wb = some b → rn ≠ 15 → rn ≠ rd → rn ≠ nextReg rd → t.bankReg s.mode rn = b) ∧
    sameRegsBut ([physReg s.mode rd] ++ (if rd = 14 then [] else [physReg s.mode (nextReg rd)]) ++ baseWritten rn wb s) s t ∧
    (rd ≠ 14 → (wb = none ∨ rn ≠ 15) → t.cpu.pc = s.cpu.pc + 4#32) ∧
    (rd = 14 → (wb = none ∨ rn ≠ 15) → t.cpu.pc = hi &&& 0xFFFFFFFC#32) ∧
    t.cpu.cpsr = s.cpu.cpsr ∧ t.cpu.spsr = s.cpu.spsr ∧
    t = { s with cpu := t.cpu, nonseq := t.nonseq, ms := { s.ms with draws := t.ms.draws } }) ∧
  (∀ (rn : RegNum) (wb : Option Word) (s : State),
    let t := finishStore rn wb s
    (∀ b, wb = some b → rn ≠ 15 → t.bankReg s.mode rn = b) ∧ sameRegsBut (baseWritten rn wb s) s t ∧
    ((wb = none ∨ rn ≠ 15) → t.cpu.pc = s.cpu.pc + 4#32) ∧
    (∀ b, wb = some b → rn = 15 → t.cpu.pc = b &&& 0xFFFFFFFC#32) ∧
    t.cpu.cpsr = s.cpu.cpsr ∧ t.cpu.spsr = s.cpu.spsr ∧ onlyCore s t)

/-- The stores of one register, where the access goes straight to AHB (State.plain): memory holds the bytes stored at the address
the instruction computes, every other byte that no other agent is to write (R588) is as it was, and no register changes but the
base and the pc. Where Rd is the base that the store writes back, the base as it was is stored, which is the model's choice
(assumption 29, DESIGN CHOICE). -/
def Obligations.StoresWriteMemory : Prop :=
  ∀ (i : Instr) (s : State) (l : SingleStore), singleStore i s = some l → conditionPassed l.cond s.cpu.cpsr = true →
    l.allowed = true → s.plain l.adr.address = true → s.ms.wf = true →
    ∃ ms t, storesBytes l.bytes s.ms ms ∧ exec i s = .next t ∧ t = finishStore l.base l.adr.writeBack (s.withMs ms) ∧
      t.cpu.cpsr = s.cpu.cpsr ∧ t.cpu.spsr = s.cpu.spsr ∧ t.cp15 = s.cp15 ∧
      (∀ b, l.adr.writeBack = some b → l.base ≠ 15 → t.bankReg s.mode l.base = b) ∧
      sameRegsBut (baseWritten l.base l.adr.writeBack s) s t ∧
      ((l.adr.writeBack = none ∨ l.base ≠ 15) → t.cpu.pc = s.cpu.pc + 4#32)

/-- LDRD and STRD move two words between an even register and the next and two words of memory at a doubleword address, where the
accesses go straight to AHB (plainWords); no other byte changes that no other agent is to write (R588); what finishLoadPair does
is stated by TransferWritesRegisters. An STRD whose registers include the base that it writes back stores the base as it was,
which is the model's choice (assumption 29, DESIGN CHOICE). -/
def Obligations.DoublewordTransfers : Prop :=
  ∀ (c : Cond) (a : AddrMode) (rn rd : RegNum) (off : HalfOffset) (s : State), conditionPassed c s.cpu.cpsr = true →
    userForm a = false → rd.val % 2 = 0 →
    let adr := addressHalf a rn off s
    adr.address.toNat % 8 = 0 → plainWords s adr.address 2 →
    (s.ms.wf = true → ∃ ms, sameBytes s.ms ms ∧
      exec (.ldrd c a rn rd off) s = .next (finishLoadPair rn rd adr.writeBack (s.wordAt (wordAddr adr.address))
        (s.wordAt (wordAddr (adr.address + 4#32))) (s.withMs ms))) ∧
    (s.ms.wf = true → ∃ ms,
      storesBytes (wordsBytes adr.address [s.stored rd, s.stored (nextReg rd)]) s.ms ms ∧
      exec (.strd c a rn rd off) s = .next (finishStore rn adr.writeBack (s.withMs ms)))

/-- LDM, where its words go straight to AHB: it reads ascending words from the start its addressing gives, into the listed
registers in ascending order, ends as an LDM ends, and changes no byte but those that another agent is to write (R588); an empty
list only writes the base. It goes on in every form but the return whose mode has no SPSR or whose SPSR names no mode. -/
def Obligations.LoadMultipleReadsMemory : Prop :=
  ∀ (c : Cond) (a : AddrMode) (caret : Bool) (rn : RegNum) (list : BitVec 16) (s : State),
    conditionPassed c s.cpu.cpsr = true →
    let regs := listedRegs list
    let start := multipleStart a (s.reg rn) regs.length
    let wb := if a.w then some (multipleBase a (s.reg rn) regs.length) else none
    (list = 0#16 → exec (.ldm c a caret rn list) s = .next (finishStore rn wb s)) ∧
    (list ≠ 0#16 → (s.cp15.ctrl.a = false ∨ start.toNat % 4 = 0) →
      plainWords s (start &&& 0xFFFFFFFC#32) regs.length →
      (s.ms.wf = true → ∃ ms, sameBytes s.ms ms ∧
        exec (.ldm c a caret rn list) s =
          finishMultiple caret rn wb regs (wordsAt s (start &&& 0xFFFFFFFC#32) regs.length) (s.withMs ms)) ∧
      ((caret = false ∨ list.getLsbD 15 = false ∨
          ∃ n, spsrIndex s.mode = some n ∧ legalMode (modeOf (s.cpu.spsr.get n)) = true) →
        ∃ t, exec (.ldm c a caret rn list) s = .next t))

/-- The end of an LDM: each listed register of the bank the form names takes its word, but for a written base in the list,
which is free (assumption 29); a base not in the list takes its new value; no other register changes. Without r15 in the list
the pc goes on; with it and without the caret the pc takes its word as a load to the pc; with both the status register takes
the mode's SPSR in the same step. That bits [1:0] of a word taken in ARM state are ignored (assumption 24) and that a written
base of r15 is a branch (assumption 32) are the model's choices. User and System mode have no SPSR, so there that form stops, and a
saved mode that names none faults (assumption 26). -/
def Obligations.LoadMultipleWritesRegisters : Prop :=
  ∀ (caret : Bool) (rn : RegNum) (wb : Option Word) (list : BitVec 16) (words : List Word) (s : State),
    words.length = (listedRegs list).length →
    let toPc := list.getLsbD 15
    let m := if caret && !toPc then 0b10000#5 else s.mode
    let v := words.getLastD 0#32
    ((caret = false ∨ toPc = false ∨ ∃ n, spsrIndex s.mode = some n ∧ legalMode (modeOf (s.cpu.spsr.get n)) = true) →
      ∃ t, finishMultiple caret rn wb (listedRegs list) words s = .next t ∧
        (∀ n (h : n < (listedRegs list).length) (g : n < words.length), (listedRegs list)[n] ≠ 15 →
          (wb = none ∨ rn = 15 ∨ physReg m (listedRegs list)[n] ≠ physReg s.mode rn) →
          t.bankReg m (listedRegs list)[n] = words[n]) ∧
        (∀ b, wb = some b → rn ≠ 15 → (∀ r ∈ listedRegs list, r ≠ 15 → physReg m r ≠ physReg s.mode rn) →
          t.bankReg s.mode rn = b) ∧
        sameRegsBut (((listedRegs list).filter (· ≠ 15)).map (physReg m) ++ baseWritten rn wb s) s t ∧
        (toPc = false → t.cpu.cpsr = s.cpu.cpsr ∧ ((wb = none ∨ rn ≠ 15) → t.cpu.pc = s.cpu.pc + 4#32) ∧
          (∀ b, wb = some b → rn = 15 → t.cpu.pc = b &&& 0xFFFFFFFC#32)) ∧
        (toPc = true → caret = false → (wb = none ∨ rn ≠ 15) →
          (s.cp15.ctrl.l4 = false → t.cpu.pc = v &&& 0xFFFFFFFE#32 ∧ thumbBit t.cpu.cpsr = v.getLsbD 0 ∧
            t.cpu.cpsr &&& 0xFFFFFFDF#32 = s.cpu.cpsr &&& 0xFFFFFFDF#32) ∧
          (s.cp15.ctrl.l4 = true → t.cpu.pc = v &&& 0xFFFFFFFC#32 ∧ t.cpu.cpsr = s.cpu.cpsr)) ∧
        (toPc = true → caret = true → ∀ n, spsrIndex s.mode = some n → t.cpu.cpsr = s.cpu.spsr.get n ∧
          ((wb = none ∨ rn ≠ 15) → thumbBit (s.cpu.spsr.get n) = false → jazelleBit (s.cpu.spsr.get n) = false →
            t.cpu.pc = v &&& 0xFFFFFFFC#32)) ∧
        t.cpu.spsr = s.cpu.spsr ∧
        t = { s with cpu := t.cpu, nonseq := t.nonseq, ms := { s.ms with draws := t.ms.draws } }) ∧
    (caret = true → toPc = true → spsrIndex s.mode = none →
      finishMultiple caret rn wb (listedRegs list) words s = .refused .unpredictableReturn) ∧
    (∀ n, caret = true → toPc = true → spsrIndex s.mode = some n → legalMode (modeOf (s.cpu.spsr.get n)) = false →
      finishMultiple caret rn wb (listedRegs list) words s = .fault .illegalMode)

/-- STM, where its words go straight to AHB: ascending words from the start its addressing gives hold the listed registers in
ascending order, of the User bank with the caret, and every other byte of memory that no other agent is to write (R588) is as it
was. -/
def Obligations.StoreMultipleWritesMemory : Prop :=
  ∀ (c : Cond) (a : AddrMode) (caret : Bool) (rn : RegNum) (list : BitVec 16) (s : State),
    conditionPassed c s.cpu.cpsr = true → s.ms.wf = true →
    let regs := listedRegs list
    let start := multipleStart a (s.reg rn) regs.length
    let wb := if a.w then some (multipleBase a (s.reg rn) regs.length) else none
    let values := regs.map fun r =>
      if r = 15 then s.stored 15 else s.bankReg (if caret then 0b10000#5 else s.mode) r
    (s.cp15.ctrl.a = false ∨ start.toNat % 4 = 0 ∨ list = 0#16) →
      plainWords s (start &&& 0xFFFFFFFC#32) regs.length →
      ∃ ms, storesBytes (wordsBytes (start &&& 0xFFFFFFFC#32) values) s.ms ms ∧
        exec (.stm c a caret rn list) s = .next (finishStore rn wb (s.withMs ms))

/-- SWP and SWPB, where the access goes straight to AHB: Rd takes what memory held, a byte zero-extended, and memory takes the
register stored; every other byte that no other agent is to write (R588) and every other register is as it was. What a swap of r15
stores, the address plus 8 or plus 12, is the model's choice (assumption 43, DESIGN CHOICE). -/
def Obligations.SwapExchanges : Prop :=
  ∀ (c : Cond) (rn rd rm : RegNum) (s : State), conditionPassed c s.cpu.cpsr = true → s.plain (s.reg rn) = true →
    s.ms.wf = true →
    ((s.reg rn).toNat % 4 = 0 →
      ∃ t, exec (.swp c rn rd rm) s = .next t ∧ storesBytes (wordBytes (s.reg rn) (s.stored rm)) s.ms t.ms ∧
        registerGets rd (s.wordAt (wordAddr (s.reg rn))) s t ∧ t.cp15 = s.cp15 ∧ t.pins = s.pins ∧ t.cfg = s.cfg) ∧
    (∃ t, exec (.swpb c rn rd rm) s = .next t ∧
      storesBytes (fun cell => if cell = byteCell s.cp15.ctrl.b (s.reg rn)
        then some ((s.stored rm).extractLsb' 0 8) else none) s.ms t.ms ∧
      registerGets rd ((byteLoaded s (s.reg rn)).setWidth 32) s t ∧ t.cp15 = s.cp15 ∧ t.pins = s.pins ∧ t.cfg = s.cfg)

/-- PLD does nothing: no memory access, no fault, no change of state but the pc's advance. -/
def Obligations.PreloadIsNop : Prop :=
  ∀ (i u : Bool) (rn : RegNum) (off : BitVec 12) (s : State),
    exec (.pld i u rn off) s = .next { s with cpu := { s.cpu with pc := s.cpu.pc + 4#32 } }

/-- With A = 1 a misaligned word or halfword transfer, an LDRD or STRD at an address that is no multiple of eight, and a misaligned
SWP take the Data Abort of an alignment fault at their own address, before anything else of the access, with the MMU on or off;
they read and write no memory (that a doubleword needs alignment to eight bytes: assumption 44). A misaligned LDC or STC does so
once the coprocessor has accepted it, which CPABORT tells (assumption 36). -/
def Obligations.MisalignedTransferAborts : Prop :=
  (∀ (i : Instr) (s : State) (c : Cond) (a : Word) (n : Nat), alignedTransfer i s = some (c, a, n) →
    conditionPassed c s.cpu.cpsr = true → s.cp15.ctrl.a = true → a.toNat % n ≠ 0 →
    exec i s = .next (takeDataAbort ⟨fcse s.cp15 a, .alignment, none⟩ s)) ∧
  (∀ (c : Cond) (a : CoprocMode) (rn : RegNum) (crd cp : BitVec 4) (imm8 : BitVec 8) (ws : List Word)
    (rest : List (List CpDrive)) (s : State), conditionPassed c s.cpu.cpsr = true →
    cp ≠ 14#4 → undefinedMode a = false → coprocessorPresent s cp = true → cpReply s.cpAnswers = .accepts ws rest →
    let adr := (addressCoproc a rn imm8 s).address
    s.cp15.ctrl.a = true → adr.toNat % 4 ≠ 0 →
    ∀ i ∈ [Instr.ldcExt c a rn crd cp imm8, .stcExt c a rn crd cp imm8],
      exec i s = .next (takeDataAbort ⟨fcse s.cp15 adr, .alignment, none⟩
        (({ s with cpAnswers := rest }).sendCp cp (shownTo i) [] true)))

/-- Forms that stop by name: a misaligned halfword, doubleword or swap with A = 0 (assumption 44); a halfword, signed or doubleword
transfer with P = 0 and W = 1, for which the spec gives no form (assumption 28); LDRD and STRD with an odd register, where R506 has
Rd even; MSR to an SPSR that does not exist (assumption 27). -/
def Obligations.UnpredictableFormsStop : Prop :=
  (∀ (i : Instr) (s : State) (c : Cond) (a : Word) (n : Nat), alignedTransfer i s = some (c, a, n) →
    conditionPassed c s.cpu.cpsr = true → s.cp15.ctrl.a = false → a.toNat % n ≠ 0 →
    (n ≠ 4 ∨ ∃ rn rd rm, i = .swp c rn rd rm) → exec i s = .refused .unpredictableAlignment) ∧
  (∀ (c : Cond) (u : Bool) (rn rd : RegNum) (off : HalfOffset) (s : State), conditionPassed c s.cpu.cpsr = true →
    ∀ i ∈ [Instr.ldrh c ⟨false, u, true⟩ rn rd off, .ldrsh c ⟨false, u, true⟩ rn rd off,
      .ldrsb c ⟨false, u, true⟩ rn rd off, .strh c ⟨false, u, true⟩ rn rd off, .ldrd c ⟨false, u, true⟩ rn rd off,
      .strd c ⟨false, u, true⟩ rn rd off], exec i s = .refused .unpredictableAddressing) ∧
  (∀ (c : Cond) (a : AddrMode) (rn rd : RegNum) (off : HalfOffset) (s : State), conditionPassed c s.cpu.cpsr = true →
    userForm a = false → rd.val % 2 = 1 →
    exec (.ldrd c a rn rd off) s = .refused .unpredictableRegisterPair ∧
      exec (.strd c a rn rd off) s = .refused .unpredictableRegisterPair) ∧
  (∀ (c : Cond) (mask : BitVec 4) (rm : RegNum) (op : ImmOp) (s : State), conditionPassed c s.cpu.cpsr = true →
    spsrIndex s.mode = none →
    exec (.msrReg c true mask rm) s = .refused .unpredictableSpsrWrite ∧
      exec (.msrImm c true mask op) s = .refused .unpredictableSpsrWrite)

/-- A load returns the latest earlier store's value: after a word is written at a translated address, by any path (data TCM,
instruction TCM, DCache, write buffer or AHB), a word read at it by the path the same settings give is that word. -/
def Obligations.LoadReturnsLatestStore : Prop :=
  ∀ (k : Ctx) (l l' : Bool) (mva : Word) (t : Translated) (v w : Word) (ms ms' ms'' : MemSys),
    ms.wf = true → mva.extractLsb' 0 5 = t.pa.extractLsb' 0 5 → busError k.cfg (wordAddr t.pa) = false →
    writeAt k l mva t 15#4 v ms = .ok () ms' → readAt k l' mva t ms' = .ok w ms'' → w = v

/-- MRS gives Rd the CPSR, or the SPSR of the mode; the SPSR of a mode that has none is a free value (assumption 27). -/
def Obligations.MrsReadsStatus : Prop :=
  ∀ (c : Cond) (r : Bool) (rd : RegNum) (s : State), conditionPassed c s.cpu.cpsr = true →
    ∃ t v, exec (.mrs c r rd) s = .next t ∧ registerGets rd v s t ∧ (r = false → v = s.cpu.cpsr) ∧
      (∀ n, r = true → spsrIndex s.mode = some n → v = s.cpu.spsr.get n) ∧
      t = { s with cpu := t.cpu, nonseq := t.nonseq, ms := { s.ms with draws := t.ms.draws } }

/-- MSR bit by bit: each byte that the mask names takes the operand's bits; in User mode only the top byte of the CPSR; the T
and J bits of the CPSR never; a mode field that names no mode is refused as a fault (assumption 26). That the reserved bits [26:25]
and [23:8] of a named byte take and keep the operand's bits is the model's choice (assumption 61, DESIGN CHOICE). -/
def Obligations.MsrWritesStatus : Prop :=
  ∀ (i : Instr) (c : Cond) (r : Bool) (mask : BitVec 4) (v : Word) (s : State),
    ((∃ rm, i = .msrReg c r mask rm ∧ v = s.reg rm) ∨ (∃ op, i = .msrImm c r mask op ∧ v = (operandImm op s).value)) →
    conditionPassed c s.cpu.cpsr = true →
    (r = false →
      ∃ new : Word,
        (∀ j < 32, new.getLsbD j =
          if mask.getLsbD (j / 8) ∧ (s.mode ≠ 0b10000#5 ∨ 24 ≤ j) ∧ j ≠ 5 ∧ j ≠ 24 then v.getLsbD j
          else s.cpu.cpsr.getLsbD j) ∧
        exec i s = if legalMode (modeOf new) then
            .next { s with cpu := { s.cpu with cpsr := new, pc := s.cpu.pc + 4#32 } } else .fault .illegalMode) ∧
    (∀ n, r = true → spsrIndex s.mode = some n →
      ∃ t, exec i s = .next t ∧
        (∀ j < 32, (t.cpu.spsr.get n).getLsbD j = if mask.getLsbD (j / 8) then v.getLsbD j else (s.cpu.spsr.get n).getLsbD j) ∧
        (∀ p, p ≠ n → t.cpu.spsr.get p = s.cpu.spsr.get p) ∧ t.cpu.cpsr = s.cpu.cpsr ∧ t.cpu.regs = s.cpu.regs ∧
        t.cpu.pc = s.cpu.pc + 4#32 ∧ t = { s with cpu := t.cpu })

/-- In User mode every MRC and MCR to CP15, defined or not, takes the Undefined instruction exception and does nothing else;
for those the spec defines no register or operation for, that is all it says they do, and in a privileged mode, where it calls
them Unpredictable, they stop by name. -/
def Obligations.Cp15TransfersTrapInUserMode : Prop :=
  (∀ (i : Instr) (s : State), isCp15Transfer i = true → passes i s → s.mode = 0b10000#5 →
    ∃ t, exec i s = .next t ∧ t = takeException .undefined (s.cpu.pc + 4#32) s ∧ t.cp15 = s.cp15 ∧ t.ms = s.ms ∧
      t.bankReg 0b11011#5 14 = s.cpu.pc + 4#32) ∧
  (∀ (i : Instr) (s : State), undefinedCp15Access i = true → passes i s → s.mode ≠ 0b10000#5 →
    exec i s = .refused .unpredictableCp15)

/-- In a privileged mode a read of a CP15 register gives Rd a value whose defined bits are those the spec gives, the other
bits free (of the Memory Region Remap Register too: assumption 50); with Rd = r15 bits [31:28] of that value become the flags and
the pc goes on. Of a register with should-be-zero-or-preserved bits the value is noted as read (assumption 33).
Nothing else changes. The TCM Status Register is nonzero just when a TCM is attached (assumption 49). -/
def Obligations.Cp15RegisterReads : Prop :=
  (∀ (i : Instr) (s : State) (rd : RegNum) (d : Cp15Value), cp15Reading i s = some (rd, d) → passes i s →
    s.mode ≠ 0b10000#5 →
    ∃ t v, exec i s = .next t ∧ v &&& d.mask = d.value ∧ mrcGives rd v s t ∧
      t = { s with cpu := t.cpu, lastRead := readNoted i v s.lastRead, ms := { s.ms with draws := t.ms.draws } }) ∧
  (∀ cfg : Config, cfg.tcmStatusValue ≠ 0#32 ↔ cfg.itcmSize ≠ .absent ∨ cfg.dtcmSize ≠ .absent)

/-- In a privileged mode a write of a CP15 register stores the bits the spec names and changes nothing else but the pc: the
fourteen registers of the table, the TLB Lockdown Register, the Context ID Register with its strobe. A word that breaks the
register's reserved bits is refused (assumption 33). Rd = r15 writes a free value, which no check refuses (assumption 37). -/
def Obligations.Cp15RegisterWrites : Prop :=
  ∀ (i : Instr) (s : State) (c : Cond) (rd : RegNum) (f : Word → State → State), cp15Writing i = some (c, rd, f) →
    conditionPassed c s.cpu.cpsr = true → s.mode ≠ 0b10000#5 →
    (rd ≠ 15 → keepsReserved i s.lastRead (s.reg rd) = true →
      exec i s = .next (f (s.reg rd) { s with cpu := { s.cpu with pc := s.cpu.pc + 4#32 } })) ∧
    (rd ≠ 15 → keepsReserved i s.lastRead (s.reg rd) = false → exec i s = .refused .reservedBits) ∧
    (rd = 15 → ∃ v n, exec i s = .next (f v { s with
      ms := { s.ms with draws := n }, cpu := { s.cpu with pc := s.cpu.pc + 4#32 } }))

/-- In a privileged mode a write of the Control Register stores its ten bits, flushes the prefetch buffer when M changes or
the ICache is turned on, and changes nothing else but the pc; where B changes, the writes still buffered keep the lanes they were
issued with (R108), which under the new B are those of the address with its low bits inverted (R106; U53 is read so in assumption
62, DEDUCED). A write of a
TCM region register stores base and enable; where it would make two fitted, enabled regions share an address, which the spec leaves
Unpredictable, it stops (assumption 39). A word that breaks the register's reserved bits is refused (assumption 33). Rd = r15 writes
a free value, of which those bits are not checked (assumption 37). -/
def Obligations.ControlAndTcmRegionWrites : Prop :=
  (∀ (c : Cond) (rd : RegNum) (s : State), conditionPassed c s.cpu.cpsr = true → s.mode ≠ 0b10000#5 →
    ∃ (v : Word) (n : Nat), (rd ≠ 15 → v = s.reg rd ∧ n = s.ms.draws) ∧
      (let ctrl : Control := ⟨v.getLsbD 0, v.getLsbD 1, v.getLsbD 2, v.getLsbD 7, v.getLsbD 8, v.getLsbD 9, v.getLsbD 12,
        v.getLsbD 13, v.getLsbD 14, v.getLsbD 15⟩
      let flush := (v.getLsbD 0 != s.cp15.ctrl.m) || (v.getLsbD 12 && !s.cp15.ctrl.i)
      let u := { s with ms := { s.ms with draws := n }, cpu := { s.cpu with pc := s.cpu.pc + 4#32 } }
      ((rd = 15 ∨ keepsReserved (.mcrControl c rd) s.lastRead v = true) →
        exec (.mcrControl c rd) s = .next { u with
          cp15 := { s.cp15 with ctrl := ctrl }
          ms := { u.ms with prefetch := if flush then [] else s.ms.prefetch } }) ∧
      (rd ≠ 15 → keepsReserved (.mcrControl c rd) s.lastRead v = false → exec (.mcrControl c rd) s = .refused .reservedBits) ∧
      ((rd = 15 ∨ keepsReserved (.mcrDTcmRegion c rd) s.lastRead v = true) →
        exec (.mcrDTcmRegion c rd) s =
          if tcmRegionsOverlap s.cfg s.cp15.itcm (regionOf v) then .refused .tcmOverlap
          else .next { u with cp15 := { s.cp15 with dtcm := regionOf v } }) ∧
      (rd ≠ 15 → keepsReserved (.mcrDTcmRegion c rd) s.lastRead v = false →
        exec (.mcrDTcmRegion c rd) s = .refused .reservedBits) ∧
      ((rd = 15 ∨ keepsReserved (.mcrITcmRegion c rd) s.lastRead v = true) →
        exec (.mcrITcmRegion c rd) s =
          if tcmRegionsOverlap s.cfg (regionOf v) s.cp15.dtcm then .refused .tcmOverlap
          else .next { u with cp15 := { s.cp15 with itcm := regionOf v } }) ∧
      (rd ≠ 15 → keepsReserved (.mcrITcmRegion c rd) s.lastRead v = false →
        exec (.mcrITcmRegion c rd) s = .refused .reservedBits))) ∧
  (∀ (cfg : Config) (i d : TcmRegion), tcmRegionsOverlap cfg i d = true ↔
    i.enable = true ∧ d.enable = true ∧ ∃ j k a : Nat, cfg.itcmSize.log2 = some j ∧ cfg.dtcmSize.log2 = some k ∧
      a / 2 ^ j = i.base.toNat * 2 ^ 12 / 2 ^ j ∧ a / 2 ^ k = d.base.toNat * 2 ^ 12 / 2 ^ k) ∧
  (∀ (big : Bool) (a : Word) (x : Byte) (h : BitVec 16),
    byteLanes big a = byteLanes (!big) (a ^^^ 3#32) ∧ byteOnLane big a x = byteOnLane (!big) (a ^^^ 3#32) x ∧
    halfLanes big a = halfLanes (!big) (a ^^^ 2#32) ∧ halfOnLanes big a h = halfOnLanes (!big) (a ^^^ 2#32) h)

/-- What software writes to a CP15 register it reads back, in the bits that the register stores: a word that keeps to the reserved
bits (assumption 33) and, for a TCM region register, makes no two regions overlap, is written; what a write that goes on stored is
read back. Rd = r15 of the MCR writes a free value (assumption 37). -/
def Obligations.Cp15WriteThenRead : Prop :=
  ∀ (rs rd : RegNum) (p : Cp15Pair) (s : State), p ∈ cp15Pairs rs rd → s.mode ≠ 0b10000#5 →
    (rs ≠ 15 → keepsReserved p.write s.lastRead (s.reg rs) = true → regionsApart p.write s = true →
      ∃ t, exec p.write s = .next t) ∧
    (∀ t, exec p.write s = .next t →
      ∃ u v w, exec p.read t = .next u ∧ mcrGives rs v s t ∧ mrcGives rd w t u ∧ w &&& p.mask = v &&& p.mask ∧
        t.cpu = { s.cpu with pc := s.cpu.pc + 4#32 })

/-- In a privileged mode, with the cache RAMs powered: the invalidations make exactly the lines they name invalid and write
nothing back; the cleans send the dirty halves of the lines they name to the physical addresses the lines hold, and leave those
lines clean, or invalid in the invalidating forms; every other line is as it was. A dirty half goes to its four words of memory at
the physical address the line holds, and nothing else is written. Rd = r15 gives a free operand (assumption 37). -/
def Obligations.CacheMaintenance : Prop :=
  (∀ (i : Instr) (s : State) (c : Cond) (rd : RegNum), conditionPassed c s.cpu.cpsr = true →
    s.mode ≠ 0b10000#5 → s.pins.icacheRam = true → s.pins.dcacheRam = true →
    (∀ fi fd, cacheInvalidation i s.cfg = some (c, rd, fi, fd) →
      ∃ t v, exec i s = .next t ∧ mcrGives rd v s t ∧ (∀ l, l ∈ t.ms.icache ↔ l ∈ s.ms.icache ∧ fi v l = false) ∧
        (∀ l, l ∈ t.ms.dcache ↔ l ∈ s.ms.dcache ∧ fd v l = false) ∧
        t = { s with
          ms := { s.ms with icache := t.ms.icache, dcache := t.ms.dcache, draws := t.ms.draws }
          cpu := { s.cpu with pc := s.cpu.pc + 4#32 } }) ∧
    (∀ f inval, cacheClean i s.cfg = some (c, rd, f, inval) →
      ∃ t v, exec i s = .next t ∧ mcrGives rd v s t ∧
        t.ms.settledMem = s.ms.settledMem.applyAll ((s.ms.dcache.filter (f v)).flatMap CacheLine.castouts) ∧
        t.ms.dcache = (if inval then s.ms.dcache.filter fun l => !f v l
          else s.ms.dcache.map fun l => if f v l then { l with dirtyLo := false, dirtyHi := false } else l) ∧
        t = { s with
          ms := { s.ms with mem := t.ms.mem, wbuf := t.ms.wbuf, dcache := t.ms.dcache, draws := t.ms.draws }
          cpu := { s.cpu with pc := s.cpu.pc + 4#32 } })) ∧
  (∀ (l : CacheLine) (m : Memory), m.wf = true →
    (∀ (n : Fin 8) (j : Nat), j < 4 →
      (m.applyAll l.castouts).read (32 * l.pa.toNat + 4 * n.val + j) =
        if (if n.val < 4 then l.dirtyLo else l.dirtyHi) then (l.words.get n).extractLsb' (8 * j) 8
        else m.read (32 * l.pa.toNat + 4 * n.val + j)) ∧
    (∀ cell, cell / 32 ≠ l.pa.toNat → (m.applyAll l.castouts).read cell = m.read cell))

/-- Test-and-clean reads a value (into the flags, with Rd = r15): when its bit 30 is 1 no line is dirty; when no line was dirty
before, it is 1; no line is added or dropped. The lines it cleans are written back and marked clean, and no other line changes.
Where a line is dirty it cleans one, or none when it examined only clean ones, which happens at most 4096 times in a row
(assumption 38); with DBGOVR[19] it cleans them all. The invalidating form does the same and empties the DCache when bit 30 is 1,
and only then. -/
def Obligations.TestAndCleanReportsClean : Prop :=
  ∀ (inval : Bool) (c : Cond) (rd : RegNum) (s : State), conditionPassed c s.cpu.cpsr = true → s.mode ≠ 0b10000#5 →
    s.pins.icacheRam = true → s.pins.dcacheRam = true →
    ∃ (t : State) (v : Word) (cleaned : CacheLine → Bool),
      exec (if inval then .mrcTestCleanInvalidate c rd else .mrcTestClean c rd) s = .next t ∧ mrcGives rd v s t ∧
      t.ms.settledMem = s.ms.settledMem.applyAll ((s.ms.dcache.filter cleaned).flatMap CacheLine.castouts) ∧
      (let after := s.ms.dcache.map fun l => if cleaned l then { l with dirtyLo := false, dirtyHi := false } else l
      t.ms.dcache = (if inval && v.getLsbD 30 then [] else after) ∧
      (v.getLsbD 30 = true → ∀ l ∈ after, l.dirty = false) ∧
      ((∀ l ∈ s.ms.dcache, l.dirty = false) → v.getLsbD 30 = true) ∧
      ((∃ l ∈ s.ms.dcache, l.dirty = true) → (∃ l ∈ s.ms.dcache, cleaned l = true ∧ l.dirty = true) ∨
        (t.tcPatience = s.tcPatience + 1 ∧ s.tcPatience < 4096)) ∧
      (∀ l l', cleaned l = true → cleaned l' = true → s.cp15.dbgovr.getLsbD 6 = false → l = l') ∧
      (s.cp15.dbgovr.getLsbD 6 = true → (∀ l ∈ s.ms.dcache, l.dirty = true → cleaned l = true) ∧ v.getLsbD 30 = true)) ∧
      t = { s with
        cpu := t.cpu, tcPatience := t.tcPatience
        ms := { s.ms with mem := t.ms.mem, wbuf := t.ms.wbuf, dcache := t.ms.dcache, draws := t.ms.draws } }

/-- Drain write buffer: afterwards every buffer is empty, the memories hold every pending write in order, and the caches are
as they were. Wait for interrupt does the same and puts the machine in standby. Where a write is pending for a TCM whose RAM has no
power both are refused, as U52 decides for any operation on such a RAM. -/
def Obligations.DrainEmptiesBuffers : Prop :=
  ∀ (c : Cond) (rd : RegNum) (s : State), conditionPassed c s.cpu.cpsr = true → s.mode ≠ 0b10000#5 →
    ((s.ms.itcmWb ≠ [] ∧ s.pins.itcmRam = false ∨ s.ms.dtcmWb ≠ [] ∧ s.pins.dtcmRam = false) →
      exec (.mcrDrainWriteBuffer c rd) s = .refused .ramPoweredDown ∧
        exec (.mcrWaitForInterrupt c rd) s = .refused .ramPoweredDown) ∧
    ((s.ms.itcmWb = [] ∨ s.pins.itcmRam = true) → (s.ms.dtcmWb = [] ∨ s.pins.dtcmRam = true) → ∃ t u, exec (.mcrDrainWriteBuffer c rd) s = .next t ∧ exec (.mcrWaitForInterrupt c rd) s = .next u ∧
      t.ms.wbuf = [] ∧ t.ms.itcmWb = [] ∧ t.ms.dtcmWb = [] ∧ t.ms.mem = s.ms.mem.applyAll s.ms.wbuf ∧
      t.ms.itcm = s.ms.itcm.applyAll s.ms.itcmWb ∧ t.ms.dtcm = s.ms.dtcm.applyAll s.ms.dtcmWb ∧
      t.ms.icache = s.ms.icache ∧ t.ms.dcache = s.ms.dcache ∧ t.ms.tlbMain = s.ms.tlbMain ∧
      t.ms.tlbLock = s.ms.tlbLock ∧ onlyMemory s t ∧ t.cpu.pc = s.cpu.pc + 4#32 ∧
      u = { t with standby := true })

/-- Prefetch ICache line. A line that is held changes nothing. Else, with the MMU off, or with it on where the translation
succeeds, the line is filled as prefetchFills says: with the ICache on, the remap field of the region's type cachable, the
linefill not disabled by CACHEDBG bit 1, and the address in no ITCM, from memory in an unlocked way of its set, or in way 3 when
all are locked; the words of a slave that answers ERROR are left open. In every other case the ICache is as it was. The type with
the MMU off is that of assumption 45. A translation that faults writes the IFSR and changes nothing else but what the translation
did to the TLB, and what drained, was evicted or was written by other agents meanwhile (assumption 41). With the MMU off the fill
too finds what drained, was evicted or was written meanwhile (R18, R588), and the TLB is as it was. It never takes an exception.
Rd = r15 gives a free operand (assumption 37). -/
def Obligations.PrefetchICacheLine : Prop :=
  ∀ (c : Cond) (rd : RegNum) (s : State), conditionPassed c s.cpu.cpsr = true → s.mode ≠ 0b10000#5 →
    s.pins.icacheRam = true → s.pins.dcacheRam = true →
    let v := mcrValue rd s
    let u := mcrSpend rd s
    let mva := v &&& 0xFFFFFFE0#32
    let block : BitVec 27 := v.extractLsb' 5 27
    (rd ≠ 15 → v = s.reg rd ∧ u = s) ∧ u = { s with ms := { s.ms with draws := u.ms.draws } } ∧
    ((∃ l ∈ s.ms.icache, l.block = block) →
      exec (.mcrPrefetchICacheLine c rd) s = .next { u with cpu := { s.cpu with pc := s.cpu.pc + 4#32 } }) ∧
    ((∀ l ∈ s.ms.icache, l.block ≠ block) →
      (s.cp15.ctrl.m = false →
        let ms := drainedAt u.ms.draws s.ctx u.ms
        onlyTranslated s.ms ms ∧ ms = { ms with
          tlbMain := s.ms.tlbMain, tlbLock := s.ms.tlbLock, cachedFaults := s.ms.cachedFaults, victim := s.ms.victim } ∧
        ∃ t, exec (.mcrPrefetchICacheLine c rd) s = .next t ∧
          prefetchFills (s.cp15.remap.extractLsb' 12 2) block mva (u.withMs ms) t) ∧
      (∀ (tr : Translated) (ms : MemSys), s.cp15.ctrl.m = true → translate s.ctx .fetch mva u.ms = .ok tr ms →
        onlyTranslated s.ms ms ∧
        ∃ t, exec (.mcrPrefetchICacheLine c rd) s = .next t ∧
          prefetchFills (s.cp15.remap.extractLsb' (8 + 4 * tr.c.toNat + 2 * tr.b.toNat) 2) block tr.pa (u.withMs ms) t) ∧
      (∀ (a : AbortInfo) (ms : MemSys), s.cp15.ctrl.m = true → translate s.ctx .fetch mva u.ms = .abort a ms →
        onlyTranslated s.ms ms ∧
        ∃ t, exec (.mcrPrefetchICacheLine c rd) s = .next t ∧
          t.cp15.ifsr.extractLsb' 0 4 = statusBits a.status ((ms.drawn 0).getLsbD 0) ∧
          (∀ d, a.domain = some d → t.cp15.ifsr.extractLsb' 4 4 = d) ∧
          t = { s with
            cpu := { s.cpu with pc := s.cpu.pc + 4#32 }, cp15 := { s.cp15 with ifsr := t.cp15.ifsr }
            ms := { ms with draws := t.ms.draws } }))

/-- The invalidations of the TLB: the whole set-associative part and no lockdown entry, or the entries of both parts that
match the operand and no other; the remembered faults (R227) go with them. The operand of an invalidation of the whole part should
be zero, and any other is refused (assumption 33). Rd = r15 gives a free operand, which is not checked (assumption 37). -/
def Obligations.TlbInvalidation : Prop :=
  ∀ (i : Instr) (s : State) (c : Cond) (rd : RegNum) (one : Bool), tlbInvalidation i = some (c, rd, one) →
    conditionPassed c s.cpu.cpsr = true → s.mode ≠ 0b10000#5 → s.pins.mmuRam = true →
    (one = false → rd ≠ 15 → s.reg rd ≠ 0#32 → exec i s = .refused .reservedBits) ∧
    ((one = true ∨ rd = 15 ∨ s.reg rd = 0#32) → ∃ t v, exec i s = .next t ∧ mcrGives rd v s t ∧
      (one = false → (∀ n, (t.ms.tlbMain.get n).valid = false) ∧ t.ms.tlbLock = s.ms.tlbLock ∧ t.ms.cachedFaults = []) ∧
      (one = true →
        (∀ n, t.ms.tlbMain.get n = if (s.ms.tlbMain.get n).covers v then { s.ms.tlbMain.get n with valid := false }
          else s.ms.tlbMain.get n) ∧
        (∀ n, t.ms.tlbLock.get n = if (s.ms.tlbLock.get n).covers v then { s.ms.tlbLock.get n with valid := false }
          else s.ms.tlbLock.get n) ∧
        ∀ f, f ∈ t.ms.cachedFaults ↔ f ∈ s.ms.cachedFaults ∧ f.covers v = false) ∧
      t = { s with
        ms := { s.ms with
          tlbMain := t.ms.tlbMain, tlbLock := t.ms.tlbLock, cachedFaults := t.ms.cachedFaults, draws := t.ms.draws }
        cpu := { s.cpu with pc := s.cpu.pc + 4#32 } })

/-- The MMU test operations, by either Opcode_1 and for either part of the TLB: the storage registers take the words written
that keep their should-be-zero bits, any other being refused (assumption 33), or free ones for r15, not checked (assumption 37);
the transfer, whatever its Rd, makes of them the entry that the Debug and Test Address Register selects and no other, and the
reads give that entry back in the same format, where the should-be-zero bits read as zero (assumption 14). -/
def Obligations.TlbTestOperations : Prop :=
  ∀ (five lock : Bool) (c : Cond) (rt rp rz rx ry : RegNum) (s : State), conditionPassed c s.cpu.cpsr = true →
    s.mode ≠ 0b10000#5 → s.pins.mmuRam = true → (c = .al ∨ rx ≠ 15) →
    let ops := tlbTest five lock
    (rt ≠ 15 → s.reg rt &&& 0x000003E0#32 ≠ 0#32 → exec (ops.writeTag c rt) s = .refused .reservedBits) ∧
    (rp ≠ 15 → s.reg rp &&& 0x00000300#32 ≠ 0#32 → exec (ops.writePa c rp) s = .refused .reservedBits) ∧
    ((rt = 15 ∨ s.reg rt &&& 0x000003E0#32 = 0#32) → (rp = 15 ∨ s.reg rp &&& 0x00000300#32 = 0#32) →
      ∃ s1 s2 s3 s4 s5 tag pa, exec (ops.writeTag c rt) s = .next s1 ∧ exec (ops.writePa c rp) s1 = .next s2 ∧
      exec (ops.transfer c rz) s2 = .next s3 ∧ exec (ops.readTag c rx) s3 = .next s4 ∧
      exec (ops.readPa c ry) s4 = .next s5 ∧ mcrGives rt tag s s1 ∧ mcrGives rp pa s1 s2 ∧
      s1.cp15 = (if lock then { s.cp15 with tlbTagLock := tag } else { s.cp15 with tlbTagMain := tag }) ∧
      s2.cp15 = (if lock then { s1.cp15 with tlbPaLock := pa } else { s1.cp15 with tlbPaMain := pa }) ∧
      s2.ms = { s.ms with draws := s2.ms.draws } ∧ s2.cpu = { s.cpu with pc := s.cpu.pc + 8#32 } ∧
      (lock = true → s3.ms = { s.ms with tlbLock := s3.ms.tlbLock, draws := s3.ms.draws } ∧
        ∀ n : Fin 8, n.val ≠ (s.cp15.dtaddr.extractLsb' 26 3).toNat → s3.ms.tlbLock.get n = s.ms.tlbLock.get n) ∧
      (lock = false → s3.ms = { s.ms with tlbMain := s3.ms.tlbMain, draws := s3.ms.draws } ∧
        ∀ n : Fin 64, n.val ≠ 32 * (s.cp15.dtaddr.extractLsb' 31 1).toNat + (s.cp15.dtaddr.extractLsb' 10 5).toNat →
          s3.ms.tlbMain.get n = s.ms.tlbMain.get n) ∧
      mrcGives rx (tag &&& 0xFFFFFC1F#32) s3 s4 ∧ mrcGives ry (pa &&& 0xFFFFFCFF#32) s4 s5 ∧
      s5.ms = s3.ms ∧ s5.cp15 = s2.cp15)

/-- An instruction for an external coprocessor that nobody answers takes the Undefined instruction exception; one that is
told to wait, or not yet answered (assumption 36), stays at its address, so that an interrupt can come first, is not yet executed,
and keeps the CPBURST of its first answer; coprocessor 14, and coprocessor 15 in the unconditional space, stop (decisions D26 and
D2). LDC and STC with P = U = N = W = 0 are Undefined. Of
several coprocessors the top bits are ANDed, the bottom bits, CPDIN and CPBURST ORed; GO to LAST accepts one word for each. -/
def Obligations.ExternalCoprocessorHandshake : Prop :=
  (∀ (i : Instr) (cp : BitVec 4) (s : State), externalNumber i = some cp → passes i s → i.wellFormed = true →
    (cp ≠ 14#4 → cp ≠ 15#4 → coprocessorPresent s cp = false →
      exec i s = .next (takeException .undefined (s.cpu.pc + 4#32) s)) ∧
    (cp ≠ 15#4 → cp ≠ 14#4 → coprocessorPresent s cp = true →
      let waits (burst : Option (BitVec 4)) (rest : List (List CpDrive)) : State :=
        { s with cpAnswers := rest, executed := false, cpPins := { s.cpPins with waiting := true, burst := burst } }
      (s.cpAnswers = [] → exec i s = .next (waits s.cpPins.burst [])) ∧
      (∀ ds rest, s.cpAnswers = ds :: rest → (combineDrives ds).chs = 0b00#2 →
        exec i s = .next (waits (some (s.cpPins.burst.getD (combineDrives ds).cpburst)) rest)) ∧
      (∀ ds rest, s.cpAnswers = ds :: rest → (combineDrives ds).chs = 0b10#2 →
        exec i s = .next (takeException .undefined (s.cpu.pc + 4#32) { s with cpAnswers := rest }))) ∧
    (cp = 14#4 → exec i s = .refused .debugCommsChannel) ∧
    (cp = 15#4 → exec i s = .refused .cp15Unconditional)) ∧
  (∀ (c : Cond) (a : CoprocMode) (rn : RegNum) (crd cp : BitVec 4) (imm8 : BitVec 8) (s : State),
    conditionPassed c s.cpu.cpsr = true → a.p = false → a.u = false → a.n = false → a.w = false →
    ∀ i ∈ [Instr.ldcExt c a rn crd cp imm8, .stcExt c a rn crd cp imm8],
      exec i s = .next (takeException .undefined (s.cpu.pc + 4#32) s)) ∧
  (∀ (mid : BitVec 12) (cp : BitVec 4) (low : BitVec 8) (s : State), mid.extractLsb' 9 3 = 0#3 → cp ≠ 15#4 →
    exec (.coprocUnconditional 0#2 mid cp low) s = .next (takeException .undefined (s.cpu.pc + 4#32) s)) ∧
  (∀ ds : List CpDrive, let d := combineDrives ds
    d.chs.getLsbD 1 = ds.all (fun x => x.chs.getLsbD 1) ∧ d.chs.getLsbD 0 = ds.any (fun x => x.chs.getLsbD 0) ∧
      (∀ j, d.cpdin.getLsbD j = ds.any fun x => x.cpdin.getLsbD j) ∧
      ∀ j, d.cpburst.getLsbD j = ds.any fun x => x.cpburst.getLsbD j) ∧
  (∀ (gos rest : List (List CpDrive)) (last : List CpDrive), (∀ ds ∈ gos, (combineDrives ds).chs = 0b01#2) →
    (combineDrives last).chs = 0b11#2 →
    cpReply (gos ++ last :: rest) = .accepts ((gos ++ [last]).map fun ds => (combineDrives ds).cpdin) rest)

/-- An accepted register transfer or operation of an external coprocessor: the coprocessor is given the registers, the
registers take its words, and the pc goes on (assumption 36); r15 sends a free value (assumption 37), takes the word of an MRC as
flags and one of an MRRC as a branch (assumption 32); with Rd = Rn the second word of an MRRC stays (assumption 32). The coprocessor
saw the instruction's bits [27:0] and its privilege. The unconditional words do what the words of the same fields with condition AL
do (assumption 35). -/
def Obligations.ExternalCoprocessorTransfers : Prop :=
  (∀ (c : Cond) (op1 : BitVec 3) (crn crd crm op : BitVec 4) (op2 : BitVec 3) (rn rd : RegNum) (cp : BitVec 4)
    (ws : List Word) (rest : List (List CpDrive)) (s : State), conditionPassed c s.cpu.cpsr = true → cp ≠ 14#4 →
    coprocessorPresent s cp = true → cpReply s.cpAnswers = .accepts ws rest →
    let told (i : Instr) (words : List Word) (t : State) : State :=
      { s with
        cpu := t.cpu, nonseq := t.nonseq, cpAnswers := rest, cpPins := { s.cpPins with cpabort := false }
        cpOut := s.cpOut ++ [⟨cp, shownTo i, s.privileged, words, false⟩], ms := { s.ms with draws := t.ms.draws } }
    let pcOn : Cpu := { s.cpu with pc := s.cpu.pc + 4#32 }
    (∃ t v, exec (.mcrExt c op1 crn rd cp op2 crm) s = .next t ∧ mcrGives rd v s t ∧ t.cpu = pcOn ∧ t.nonseq = s.nonseq ∧
      t = told (.mcrExt c op1 crn rd cp op2 crm) [v] t) ∧
    (∃ t, exec (.mrcExt c op1 crn rd cp op2 crm) s = .next t ∧ mrcGives rd (ws.getLastD 0#32) s t ∧ t.nonseq = s.nonseq ∧
      t = told (.mrcExt c op1 crn rd cp op2 crm) [] t) ∧
    (∃ t, exec (.cdpExt c op crn crd cp op2 crm) s = .next t ∧ t.cpu = pcOn ∧ t.nonseq = s.nonseq ∧
      t = told (.cdpExt c op crn crd cp op2 crm) [] t) ∧
    (∃ t x y, exec (.mcrrExt c rn rd cp op crm) s = .next t ∧ (rd ≠ 15 → x = s.reg rd) ∧ (rn ≠ 15 → y = s.reg rn) ∧
      t.cpu = pcOn ∧ t.nonseq = s.nonseq ∧ t = told (.mcrrExt c rn rd cp op crm) [x, y] t) ∧
    (∃ t, exec (.mrrcExt c rn rd cp op crm) s = .next t ∧
      (∀ x, ws[0]? = some x → rd ≠ 15 → rn ≠ rd → t.bankReg s.mode rd = x) ∧
      (∀ y, ws[1]? = some y → rn ≠ 15 → t.bankReg s.mode rn = y) ∧
      sameRegsBut ((if rd = 15 then [] else [physReg s.mode rd]) ++ (if rn = 15 then [] else [physReg s.mode rn])) s t ∧
      (rd ≠ 15 → rn ≠ 15 → t.cpu.pc = s.cpu.pc + 4#32 ∧ t.nonseq = s.nonseq) ∧
      (∀ y, ws[1]? = some y → rn = 15 → t.cpu.pc = y &&& 0xFFFFFFFC#32 ∧ t.nonseq = true) ∧
      (∀ x, ws[0]? = some x → rd = 15 → rn ≠ 15 → t.cpu.pc = x &&& 0xFFFFFFFC#32 ∧ t.nonseq = true) ∧
      t.cpu.cpsr = s.cpu.cpsr ∧ t.cpu.spsr = s.cpu.spsr ∧ t = told (.mrrcExt c rn rd cp op crm) [] t)) ∧
  (∀ (top : BitVec 2) (mid : BitVec 12) (cp : BitVec 4) (low : BitVec 8) (s : State), top ≠ 3#2 → cp ≠ 15#4 →
    ∃ j, decode (encode (.coprocUnconditional top mid cp low) ^^^ 0x10000000#32) = some j ∧
      conditionOf j = some .al ∧ shownTo j = shownTo (.coprocUnconditional top mid cp low) ∧
      exec (.coprocUnconditional top mid cp low) s = exec j s ∧
      (cp ≠ 14#4 → coprocessorPresent s cp = true → (∃ ws rest, cpReply s.cpAnswers = .accepts ws rest) → top = 2#2 →
        ∃ t, exec (.coprocUnconditional top mid cp low) s = .next t))

/-- An accepted LDC gives the coprocessor the words of memory from its address, and an accepted STC stores the coprocessor's words
there, where the words go straight to AHB, and no other byte changes that no other agent is to write (R588); the base is written
as the addressing says (assumption 36). -/
def Obligations.ExternalCoprocessorMemory : Prop :=
  ∀ (c : Cond) (a : CoprocMode) (rn : RegNum) (crd cp : BitVec 4) (imm8 : BitVec 8) (ws : List Word)
    (rest : List (List CpDrive)) (s : State), conditionPassed c s.cpu.cpsr = true → cp ≠ 14#4 → undefinedMode a = false →
    coprocessorPresent s cp = true → cpReply s.cpAnswers = .accepts ws rest → ws.length ≤ 16 →
    let adr := addressCoproc a rn imm8 s
    (s.cp15.ctrl.a = false ∨ adr.address.toNat % 4 = 0) →
    plainWords s (adr.address &&& 0xFFFFFFFC#32) ws.length →
    let s' := { s with cpAnswers := rest }
    (s.ms.wf = true → ∃ ms, sameBytes s.ms ms ∧
      exec (.ldcExt c a rn crd cp imm8) s = .next (finishStore rn adr.writeBack
        ((s'.withMs ms).sendCp cp (shownTo (.ldcExt c a rn crd cp imm8))
          (wordsAt s (adr.address &&& 0xFFFFFFFC#32) ws.length) false))) ∧
    (s.ms.wf = true → ∃ ms, storesBytes (wordsBytes (adr.address &&& 0xFFFFFFFC#32) ws) s.ms ms ∧
      exec (.stcExt c a rn crd cp imm8) s = .next (finishStore rn adr.writeBack
        ((s'.withMs ms).sendCp cp (shownTo (.stcExt c a rn crd cp imm8)) [] false)))

/-- The FCSE: with the MMU on, an address below 32MB has the process identifier times 32MB added; an address from 32MB on, or any
address with the MMU off, is unchanged. That 32MB itself is unchanged is the spec's own inference, marked derived in R102. -/
def Obligations.FcseTranslation : Prop :=
  ∀ (k : Cp15) (va : Word),
    (k.ctrl.m = true → va.toNat < 2 ^ 25 → (fcse k va).toNat = va.toNat + k.fcsePid.toNat * 2 ^ 25) ∧
    (k.ctrl.m = true → 2 ^ 25 ≤ va.toNat → fcse k va = va) ∧ (k.ctrl.m = false → fcse k va = va)

/-- The domain check: fields 00 and 10 give a domain fault, 11 lets every access pass, 01 leaves it to the permission check; the
fault is the section's or the page's by the entry. Where the permission table has no answer the check stops, which is the model's
choice (assumption 48). -/
def Obligations.DomainCheck : Prop :=
  ∀ (k : Ctx) (kind : AccessKind) (e : TlbEntry),
    let d := (k.cp15.dacr >>> (2 * e.domain.toNat)) &&& 3#32
    ((d = 0#32 ∨ d = 2#32) →
      checkEntry k kind e = .fault (if e.size = 0b1011#4 then .domainSection else .domainPage)) ∧
    (d = 3#32 → checkEntry k kind e = .pass) ∧
    (d = 1#32 → ∀ b, permitted e.ap k.cp15.ctrl.s k.cp15.ctrl.r k.priv kind = some b →
      checkEntry k kind e = if b then .pass
        else .fault (if e.size = 0b1011#4 then .permissionSection else .permissionPage)) ∧
    (d = 1#32 → permitted e.ap k.cp15.ctrl.s k.cp15.ctrl.r k.priv kind = none →
      checkEntry k kind e = .stop .unpredictableAp)

/-- The access permissions, row by row of their table: what AP, S and R allow a privileged and a user access; AP = 00 with
S = R = 1 has no answer there, and an access checked against it is refused, which is the model's choice (assumption 48). A fetch
needs what a read needs, the spec's own inference in R215. -/
def Obligations.AccessPermissions : Prop :=
  (∀ (ap : BitVec 2) (s r priv : Bool) (kind : AccessKind),
    let readOnly := kind != .write
    permitted ap s r priv kind =
      match ap.toNat, s, r, priv with
      | 0, false, false, _ => some false
      | 0, true, false, true => some readOnly
      | 0, true, false, false => some false
      | 0, false, true, _ => some readOnly
      | 0, true, true, _ => none
      | 1, _, _, true => some true
      | 1, _, _, false => some false
      | 2, _, _, true => some true
      | 2, _, _, false => some readOnly
      | _, _, _, _ => some true) ∧
  (∀ (k : Ctx) (kind : AccessKind) (e : TlbEntry), (k.cp15.dacr >>> (2 * e.domain.toNat)) &&& 3#32 = 1#32 → e.ap = 0#2 →
    k.cp15.ctrl.s = true → k.cp15.ctrl.r = true → checkEntry k kind e = .stop .unpredictableAp)

/-- The table walk at the first level: the descriptor stands at TTBR[31:14], MVA[31:20], 00; an external abort on it is reported;
type 00 is a section translation fault; a well-formed section maps the top twelve bits of every address of its 1MB and carries its
own domain, AP, C and B; one with wrong fixed bits stops (assumption 48). A second read, of whatever the memory then holds, plays
no part in these. Where a TCM answers the read, which the environment picks (assumption 47), and has no power, the walk is refused;
with both TCM RAMs powered there is no such read. -/
def Obligations.FirstLevelWalk : Prop :=
  ∀ (k : Ctx) (ms later : MemSys) (picks mva l1 : Word),
    (firstLevelAddress k.cp15.ttbr mva).toNat = k.cp15.ttbr.toNat * 2 ^ 14 + (mva.toNat / 2 ^ 20) * 4 ∧
    (k.pins.dtcmRam = true → k.pins.itcmRam = true → ∀ pick pa, descriptorUnpowered k pick pa = false) ∧
    (descriptorUnpowered k (picks.getLsbD 0) (firstLevelAddress k.cp15.ttbr mva) = true →
      walk k ms later picks mva = .stop .ramPoweredDown) ∧
    (descriptorUnpowered k (picks.getLsbD 0) (firstLevelAddress k.cp15.ttbr mva) = false →
      readDescriptor k ms (picks.getLsbD 0) (firstLevelAddress k.cp15.ttbr mva) = none →
      walk k ms later picks mva = .fault .externalWalk1 none) ∧
    (descriptorUnpowered k (picks.getLsbD 0) (firstLevelAddress k.cp15.ttbr mva) = false →
      readDescriptor k ms (picks.getLsbD 0) (firstLevelAddress k.cp15.ttbr mva) = some l1 →
      (l1.extractLsb' 0 2 = 0#2 → walk k ms later picks mva = .fault .translationSection none) ∧
      (l1.extractLsb' 0 2 = 2#2 → l1.extractLsb' 12 8 = 0#8 → l1.getLsbD 9 = false → l1.getLsbD 4 = true →
        ∃ e, walk k ms later picks mva = .entry e ∧ (∀ m, e.covers m = decide (m.toNat / 2 ^ 20 = mva.toNat / 2 ^ 20)) ∧
          e.isSection = true ∧ e.physical mva = l1.extractLsb' 20 12 ++ mva.extractLsb' 0 20 ∧
          e.domain = l1.extractLsb' 5 4 ∧ e.ap = l1.extractLsb' 10 2 ∧ e.c = l1.getLsbD 3 ∧ e.b = l1.getLsbD 2) ∧
      (l1.extractLsb' 0 2 = 2#2 → (l1.extractLsb' 12 8 ≠ 0#8 ∨ l1.getLsbD 9 = true ∨ l1.getLsbD 4 = false) →
        walk k ms later picks mva = .stop .unpredictableDescriptor))

/-- The table walk at the second level, from a first-level descriptor of a coarse or a fine table: the second descriptor stands at
the table's base with MVA[19:12] or MVA[19:10]; the domain is bits [8:5] of the first; an external abort on it is reported with
that domain; type 00 is a page translation fault; a large, small or tiny page maps its top bits and takes the AP of the subpage
that holds the address, for the whole page where the four APs are the same and else for that quarter alone. A descriptor with wrong
fixed bits, and a tiny page in a coarse table, stop (assumption 48). The second descriptor is read from the memory as it is by
then; where a TCM without power answers that read (assumption 47), the walk is refused. -/
def Obligations.SecondLevelWalk : Prop :=
  ∀ (k : Ctx) (ms later : MemSys) (fine : Bool) (picks mva l1 l2 : Word),
    descriptorUnpowered k (picks.getLsbD 0) (firstLevelAddress k.cp15.ttbr mva) = false →
    readDescriptor k ms (picks.getLsbD 0) (firstLevelAddress k.cp15.ttbr mva) = some l1 →
    l1.extractLsb' 0 2 = (if fine then 3#2 else 1#2) →
    let fixed := l1.extractLsb' 2 3 = 0b100#3 ∧ (if fine then l1.extractLsb' 9 3 = 0#3 else l1.getLsbD 9 = false)
    let d : BitVec 4 := l1.extractLsb' 5 4
    let adr := secondLevelAddress fine l1 mva
    let same := l2.extractLsb' 4 2 = l2.extractLsb' 6 2 ∧ l2.extractLsb' 6 2 = l2.extractLsb' 8 2 ∧
      l2.extractLsb' 8 2 = l2.extractLsb' 10 2
    let maps (n : Nat) (ap : BitVec 2) (pa : Word) : Prop :=
      ∃ e, walk k ms later picks mva = .entry e ∧ (∀ m, e.covers m = decide (m.toNat / 2 ^ n = mva.toNat / 2 ^ n)) ∧
        e.isSection = false ∧ e.physical mva = pa ∧ e.domain = d ∧ e.ap = ap ∧ e.c = l2.getLsbD 3 ∧ e.b = l2.getLsbD 2
    (adr.toNat = if fine then l1.toNat / 2 ^ 12 * 2 ^ 12 + mva.toNat / 2 ^ 10 % 2 ^ 10 * 4
      else l1.toNat / 2 ^ 10 * 2 ^ 10 + mva.toNat / 2 ^ 12 % 2 ^ 8 * 4) ∧
    (¬ fixed → walk k ms later picks mva = .stop .unpredictableDescriptor) ∧
    (fixed → descriptorUnpowered k (picks.getLsbD 1) adr = true → walk k ms later picks mva = .stop .ramPoweredDown) ∧
    (fixed → descriptorUnpowered k (picks.getLsbD 1) adr = false → readDescriptor k later (picks.getLsbD 1) adr = none →
      walk k ms later picks mva = .fault .externalWalk2 (some d)) ∧
    (fixed → descriptorUnpowered k (picks.getLsbD 1) adr = false → readDescriptor k later (picks.getLsbD 1) adr = some l2 →
      (l2.extractLsb' 0 2 = 0#2 → walk k ms later picks mva = .fault .translationPage (some d)) ∧
      (l2.extractLsb' 0 2 = 1#2 → l2.extractLsb' 12 4 = 0#4 →
        maps (if same then 16 else 14) ((l2 >>> (4 + 2 * (mva.extractLsb' 14 2).toNat)).extractLsb' 0 2)
          (l2.extractLsb' 16 16 ++ mva.extractLsb' 0 16)) ∧
      (l2.extractLsb' 0 2 = 1#2 → l2.extractLsb' 12 4 ≠ 0#4 → walk k ms later picks mva = .stop .unpredictableDescriptor) ∧
      (l2.extractLsb' 0 2 = 2#2 →
        maps (if same then 12 else 10) ((l2 >>> (4 + 2 * (mva.extractLsb' 10 2).toNat)).extractLsb' 0 2)
          (l2.extractLsb' 12 20 ++ mva.extractLsb' 0 12)) ∧
      (l2.extractLsb' 0 2 = 3#2 → fine = true → l2.extractLsb' 6 4 = 0#4 →
        maps 10 (l2.extractLsb' 4 2) (l2.extractLsb' 10 22 ++ mva.extractLsb' 0 10)) ∧
      (l2.extractLsb' 0 2 = 3#2 → fine = true → l2.extractLsb' 6 4 ≠ 0#4 →
        walk k ms later picks mva = .stop .unpredictableDescriptor) ∧
      (l2.extractLsb' 0 2 = 3#2 → fine = false → walk k ms later picks mva = .stop .tinyInCoarse))

/-- The lockdown part of the TLB. With the preserve bit set, a walk that succeeds puts its entry there at the victim, and the
victim moves on by one, from 7 to 0; the access then uses that entry. This is stated where no fault is remembered, no entry
matches the address, and no walk ahead of it finds a fault to remember. That the entry is written whatever the domain and
permission checks then answer follows the order of R190, where R192 and N23 leave it open (assumption 60, DEDUCED), and that
nothing else moves the victim meanwhile is the model's choice (assumption 13, no walk ahead with P = 1). An entry of it that
matches an address, alone, translates the address and stays where it is, whatever the hardware does by itself with the rest of the
TLB, as long as no entry that a walk can bring says otherwise of that address (several entries that differ stop the model:
decision D20). The walks are those of the tables as the drains, the evictions and the other agents' writes that may come before
each read leave them. -/
def Obligations.LockdownTlb : Prop :=
  (∀ (k : Ctx) (kind : AccessKind) (mva : Word) (e : TlbEntry) (ms : MemSys), k.pins.mmuRam = true →
    ms.preserve = true → missForced k.cp15 kind = false → ms.cachedFaults = [] →
    (∀ f ∈ ms.tlbLock.toList, f.covers mva = false) → (∀ f ∈ ms.tlbMain.toList, f.covers mva = false) →
    (∀ picks n, ∃ f, walk k ms (drainedAt n k ms) picks mva = .entry f) →
    (∀ picks n m, walk k (drainedAt n k ms) (drainedAt m k (drainedAt n k ms)) picks mva = .entry e) →
    ∃ ms', translate k kind mva ms = useEntry k kind mva e ms' ∧
      ms'.tlbLock = ms.tlbLock.set ms.victim.toNat e ms.victim.isLt ∧ ms'.victim = ms.victim + 1#3 ∧
      ms'.preserve = true ∧ onlyTranslated ms ms') ∧
  (∀ (k : Ctx) (kind : AccessKind) (mva : Word) (n : Fin 8) (ms : MemSys), k.pins.mmuRam = true →
    (ms.tlbLock.get n).covers mva = true → (∀ j, j ≠ n → (ms.tlbLock.get j).covers mva = false) →
    (∀ f ∈ ms.tlbMain.toList, f.covers mva = false) →
    (∀ picks m j e, walk k ms (drainedAt j k ms) picks m = .entry e → e.covers mva = true →
      e.view mva = (ms.tlbLock.get n).view mva) →
    ∃ ms', translate k kind mva ms = useEntry k kind mva (ms.tlbLock.get n) ms' ∧ ms'.tlbLock = ms.tlbLock ∧
      ms'.victim = ms.victim ∧ onlyTranslated ms ms')
end

