-- ==== Sys2Proof/Laws/State.lean ====
section
/-! SUPPORT. What each update of the state does to each field. -/

namespace Sys2Proof.Machine

@[simp] theorem State.advance_pc (s : State) : (s.advance).cpu.pc = s.cpu.pc + 4#32 := rfl
@[simp] theorem State.advance_cpsr (s : State) : (s.advance).cpu.cpsr = s.cpu.cpsr := rfl
@[simp] theorem State.advance_regs (s : State) : (s.advance).cpu.regs = s.cpu.regs := rfl
@[simp] theorem State.advance_spsr (s : State) : (s.advance).cpu.spsr = s.cpu.spsr := rfl
@[simp] theorem State.advance_cp15 (s : State) : (s.advance).cp15 = s.cp15 := rfl
@[simp] theorem State.advance_ms (s : State) : (s.advance).ms = s.ms := rfl
@[simp] theorem State.advance_pipe (s : State) : (s.advance).pipe = s.pipe := rfl
@[simp] theorem State.advance_nonseq (s : State) : (s.advance).nonseq = s.nonseq := rfl
@[simp] theorem State.advance_tcPatience (s : State) : (s.advance).tcPatience = s.tcPatience := rfl
@[simp] theorem State.advance_standby (s : State) : (s.advance).standby = s.standby := rfl
@[simp] theorem State.advance_etmProcIdWr (s : State) : (s.advance).etmProcIdWr = s.etmProcIdWr := rfl
@[simp] theorem State.advance_executed (s : State) : (s.advance).executed = s.executed := rfl
@[simp] theorem State.advance_pins (s : State) : (s.advance).pins = s.pins := rfl
@[simp] theorem State.advance_lastRead (s : State) : (s.advance).lastRead = s.lastRead := rfl
@[simp] theorem State.advance_cpAnswers (s : State) : (s.advance).cpAnswers = s.cpAnswers := rfl
@[simp] theorem State.advance_cpOut (s : State) : (s.advance).cpOut = s.cpOut := rfl
@[simp] theorem State.advance_cpPins (s : State) : (s.advance).cpPins = s.cpPins := rfl
@[simp] theorem State.advance_scan (s : State) : (s.advance).scan = s.scan := rfl
@[simp] theorem State.advance_inputs (s : State) : (s.advance).inputs = s.inputs := rfl
@[simp] theorem State.advance_cfg (s : State) : (s.advance).cfg = s.cfg := rfl

@[simp] theorem State.branchTo_pc (s : State) (target : Word) : (s.branchTo target).cpu.pc = target := rfl
@[simp] theorem State.branchTo_cpsr (s : State) (target : Word) : (s.branchTo target).cpu.cpsr = s.cpu.cpsr := rfl
@[simp] theorem State.branchTo_regs (s : State) (target : Word) : (s.branchTo target).cpu.regs = s.cpu.regs := rfl
@[simp] theorem State.branchTo_spsr (s : State) (target : Word) : (s.branchTo target).cpu.spsr = s.cpu.spsr := rfl
@[simp] theorem State.branchTo_cp15 (s : State) (target : Word) : (s.branchTo target).cp15 = s.cp15 := rfl
@[simp] theorem State.branchTo_ms (s : State) (target : Word) : (s.branchTo target).ms = s.ms := rfl
@[simp] theorem State.branchTo_pipe (s : State) (target : Word) : (s.branchTo target).pipe = s.pipe := rfl
@[simp] theorem State.branchTo_nonseq (s : State) (target : Word) : (s.branchTo target).nonseq = true := rfl
@[simp] theorem State.branchTo_tcPatience (s : State) (target : Word) : (s.branchTo target).tcPatience = s.tcPatience := rfl
@[simp] theorem State.branchTo_standby (s : State) (target : Word) : (s.branchTo target).standby = s.standby := rfl
@[simp] theorem State.branchTo_etmProcIdWr (s : State) (target : Word) : (s.branchTo target).etmProcIdWr = s.etmProcIdWr := rfl
@[simp] theorem State.branchTo_executed (s : State) (target : Word) : (s.branchTo target).executed = s.executed := rfl
@[simp] theorem State.branchTo_pins (s : State) (target : Word) : (s.branchTo target).pins = s.pins := rfl
@[simp] theorem State.branchTo_lastRead (s : State) (target : Word) : (s.branchTo target).lastRead = s.lastRead := rfl
@[simp] theorem State.branchTo_cpAnswers (s : State) (target : Word) : (s.branchTo target).cpAnswers = s.cpAnswers := rfl
@[simp] theorem State.branchTo_cpOut (s : State) (target : Word) : (s.branchTo target).cpOut = s.cpOut := rfl
@[simp] theorem State.branchTo_cpPins (s : State) (target : Word) : (s.branchTo target).cpPins = s.cpPins := rfl
@[simp] theorem State.branchTo_scan (s : State) (target : Word) : (s.branchTo target).scan = s.scan := rfl
@[simp] theorem State.branchTo_inputs (s : State) (target : Word) : (s.branchTo target).inputs = s.inputs := rfl
@[simp] theorem State.branchTo_cfg (s : State) (target : Word) : (s.branchTo target).cfg = s.cfg := rfl

@[simp] theorem State.setBankReg_pc (s : State) (m : BitVec 5) (r : RegNum) (v : Word) : (s.setBankReg m r v).cpu.pc = s.cpu.pc := rfl
@[simp] theorem State.setBankReg_cpsr (s : State) (m : BitVec 5) (r : RegNum) (v : Word) : (s.setBankReg m r v).cpu.cpsr = s.cpu.cpsr := rfl
@[simp] theorem State.setBankReg_regs (s : State) (m : BitVec 5) (r : RegNum) (v : Word) : (s.setBankReg m r v).cpu.regs = s.cpu.regs.set (physReg m r).val v (physReg m r).isLt := rfl
@[simp] theorem State.setBankReg_spsr (s : State) (m : BitVec 5) (r : RegNum) (v : Word) : (s.setBankReg m r v).cpu.spsr = s.cpu.spsr := rfl
@[simp] theorem State.setBankReg_cp15 (s : State) (m : BitVec 5) (r : RegNum) (v : Word) : (s.setBankReg m r v).cp15 = s.cp15 := rfl
@[simp] theorem State.setBankReg_ms (s : State) (m : BitVec 5) (r : RegNum) (v : Word) : (s.setBankReg m r v).ms = s.ms := rfl
@[simp] theorem State.setBankReg_pipe (s : State) (m : BitVec 5) (r : RegNum) (v : Word) : (s.setBankReg m r v).pipe = s.pipe := rfl
@[simp] theorem State.setBankReg_nonseq (s : State) (m : BitVec 5) (r : RegNum) (v : Word) : (s.setBankReg m r v).nonseq = s.nonseq := rfl
@[simp] theorem State.setBankReg_tcPatience (s : State) (m : BitVec 5) (r : RegNum) (v : Word) : (s.setBankReg m r v).tcPatience = s.tcPatience := rfl
@[simp] theorem State.setBankReg_standby (s : State) (m : BitVec 5) (r : RegNum) (v : Word) : (s.setBankReg m r v).standby = s.standby := rfl
@[simp] theorem State.setBankReg_etmProcIdWr (s : State) (m : BitVec 5) (r : RegNum) (v : Word) : (s.setBankReg m r v).etmProcIdWr = s.etmProcIdWr := rfl
@[simp] theorem State.setBankReg_executed (s : State) (m : BitVec 5) (r : RegNum) (v : Word) : (s.setBankReg m r v).executed = s.executed := rfl
@[simp] theorem State.setBankReg_pins (s : State) (m : BitVec 5) (r : RegNum) (v : Word) : (s.setBankReg m r v).pins = s.pins := rfl
@[simp] theorem State.setBankReg_lastRead (s : State) (m : BitVec 5) (r : RegNum) (v : Word) : (s.setBankReg m r v).lastRead = s.lastRead := rfl
@[simp] theorem State.setBankReg_cpAnswers (s : State) (m : BitVec 5) (r : RegNum) (v : Word) : (s.setBankReg m r v).cpAnswers = s.cpAnswers := rfl
@[simp] theorem State.setBankReg_cpOut (s : State) (m : BitVec 5) (r : RegNum) (v : Word) : (s.setBankReg m r v).cpOut = s.cpOut := rfl
@[simp] theorem State.setBankReg_cpPins (s : State) (m : BitVec 5) (r : RegNum) (v : Word) : (s.setBankReg m r v).cpPins = s.cpPins := rfl
@[simp] theorem State.setBankReg_scan (s : State) (m : BitVec 5) (r : RegNum) (v : Word) : (s.setBankReg m r v).scan = s.scan := rfl
@[simp] theorem State.setBankReg_inputs (s : State) (m : BitVec 5) (r : RegNum) (v : Word) : (s.setBankReg m r v).inputs = s.inputs := rfl
@[simp] theorem State.setBankReg_cfg (s : State) (m : BitVec 5) (r : RegNum) (v : Word) : (s.setBankReg m r v).cfg = s.cfg := rfl

@[simp] theorem State.setCpsr_pc (s : State) (v : Word) : (s.setCpsr v).cpu.pc = s.cpu.pc := rfl
@[simp] theorem State.setCpsr_cpsr (s : State) (v : Word) : (s.setCpsr v).cpu.cpsr = v := rfl
@[simp] theorem State.setCpsr_regs (s : State) (v : Word) : (s.setCpsr v).cpu.regs = s.cpu.regs := rfl
@[simp] theorem State.setCpsr_spsr (s : State) (v : Word) : (s.setCpsr v).cpu.spsr = s.cpu.spsr := rfl
@[simp] theorem State.setCpsr_cp15 (s : State) (v : Word) : (s.setCpsr v).cp15 = s.cp15 := rfl
@[simp] theorem State.setCpsr_ms (s : State) (v : Word) : (s.setCpsr v).ms = s.ms := rfl
@[simp] theorem State.setCpsr_pipe (s : State) (v : Word) : (s.setCpsr v).pipe = s.pipe := rfl
@[simp] theorem State.setCpsr_nonseq (s : State) (v : Word) : (s.setCpsr v).nonseq = s.nonseq := rfl
@[simp] theorem State.setCpsr_tcPatience (s : State) (v : Word) : (s.setCpsr v).tcPatience = s.tcPatience := rfl
@[simp] theorem State.setCpsr_standby (s : State) (v : Word) : (s.setCpsr v).standby = s.standby := rfl
@[simp] theorem State.setCpsr_etmProcIdWr (s : State) (v : Word) : (s.setCpsr v).etmProcIdWr = s.etmProcIdWr := rfl
@[simp] theorem State.setCpsr_executed (s : State) (v : Word) : (s.setCpsr v).executed = s.executed := rfl
@[simp] theorem State.setCpsr_pins (s : State) (v : Word) : (s.setCpsr v).pins = s.pins := rfl
@[simp] theorem State.setCpsr_lastRead (s : State) (v : Word) : (s.setCpsr v).lastRead = s.lastRead := rfl
@[simp] theorem State.setCpsr_cpAnswers (s : State) (v : Word) : (s.setCpsr v).cpAnswers = s.cpAnswers := rfl
@[simp] theorem State.setCpsr_cpOut (s : State) (v : Word) : (s.setCpsr v).cpOut = s.cpOut := rfl
@[simp] theorem State.setCpsr_cpPins (s : State) (v : Word) : (s.setCpsr v).cpPins = s.cpPins := rfl
@[simp] theorem State.setCpsr_scan (s : State) (v : Word) : (s.setCpsr v).scan = s.scan := rfl
@[simp] theorem State.setCpsr_inputs (s : State) (v : Word) : (s.setCpsr v).inputs = s.inputs := rfl
@[simp] theorem State.setCpsr_cfg (s : State) (v : Word) : (s.setCpsr v).cfg = s.cfg := rfl

@[simp] theorem State.withMs_pc (s : State) (ms : MemSys) : (s.withMs ms).cpu.pc = s.cpu.pc := rfl
@[simp] theorem State.withMs_cpsr (s : State) (ms : MemSys) : (s.withMs ms).cpu.cpsr = s.cpu.cpsr := rfl
@[simp] theorem State.withMs_regs (s : State) (ms : MemSys) : (s.withMs ms).cpu.regs = s.cpu.regs := rfl
@[simp] theorem State.withMs_spsr (s : State) (ms : MemSys) : (s.withMs ms).cpu.spsr = s.cpu.spsr := rfl
@[simp] theorem State.withMs_cp15 (s : State) (ms : MemSys) : (s.withMs ms).cp15 = s.cp15 := rfl
@[simp] theorem State.withMs_ms (s : State) (ms : MemSys) : (s.withMs ms).ms = ms := rfl
@[simp] theorem State.withMs_pipe (s : State) (ms : MemSys) : (s.withMs ms).pipe = s.pipe := rfl
@[simp] theorem State.withMs_nonseq (s : State) (ms : MemSys) : (s.withMs ms).nonseq = s.nonseq := rfl
@[simp] theorem State.withMs_tcPatience (s : State) (ms : MemSys) : (s.withMs ms).tcPatience = s.tcPatience := rfl
@[simp] theorem State.withMs_standby (s : State) (ms : MemSys) : (s.withMs ms).standby = s.standby := rfl
@[simp] theorem State.withMs_etmProcIdWr (s : State) (ms : MemSys) : (s.withMs ms).etmProcIdWr = s.etmProcIdWr := rfl
@[simp] theorem State.withMs_executed (s : State) (ms : MemSys) : (s.withMs ms).executed = s.executed := rfl
@[simp] theorem State.withMs_pins (s : State) (ms : MemSys) : (s.withMs ms).pins = s.pins := rfl
@[simp] theorem State.withMs_lastRead (s : State) (ms : MemSys) : (s.withMs ms).lastRead = s.lastRead := rfl
@[simp] theorem State.withMs_cpAnswers (s : State) (ms : MemSys) : (s.withMs ms).cpAnswers = s.cpAnswers := rfl
@[simp] theorem State.withMs_cpOut (s : State) (ms : MemSys) : (s.withMs ms).cpOut = s.cpOut := rfl
@[simp] theorem State.withMs_cpPins (s : State) (ms : MemSys) : (s.withMs ms).cpPins = s.cpPins := rfl
@[simp] theorem State.withMs_scan (s : State) (ms : MemSys) : (s.withMs ms).scan = s.scan := rfl
@[simp] theorem State.withMs_inputs (s : State) (ms : MemSys) : (s.withMs ms).inputs = s.inputs := rfl
@[simp] theorem State.withMs_cfg (s : State) (ms : MemSys) : (s.withMs ms).cfg = s.cfg := rfl

@[simp] theorem State.withCp15_pc (s : State) (cp : Cp15) : (s.withCp15 cp).cpu.pc = s.cpu.pc := rfl
@[simp] theorem State.withCp15_cpsr (s : State) (cp : Cp15) : (s.withCp15 cp).cpu.cpsr = s.cpu.cpsr := rfl
@[simp] theorem State.withCp15_regs (s : State) (cp : Cp15) : (s.withCp15 cp).cpu.regs = s.cpu.regs := rfl
@[simp] theorem State.withCp15_spsr (s : State) (cp : Cp15) : (s.withCp15 cp).cpu.spsr = s.cpu.spsr := rfl
@[simp] theorem State.withCp15_cp15 (s : State) (cp : Cp15) : (s.withCp15 cp).cp15 = cp := rfl
@[simp] theorem State.withCp15_ms (s : State) (cp : Cp15) : (s.withCp15 cp).ms = s.ms := rfl
@[simp] theorem State.withCp15_pipe (s : State) (cp : Cp15) : (s.withCp15 cp).pipe = s.pipe := rfl
@[simp] theorem State.withCp15_nonseq (s : State) (cp : Cp15) : (s.withCp15 cp).nonseq = s.nonseq := rfl
@[simp] theorem State.withCp15_tcPatience (s : State) (cp : Cp15) : (s.withCp15 cp).tcPatience = s.tcPatience := rfl
@[simp] theorem State.withCp15_standby (s : State) (cp : Cp15) : (s.withCp15 cp).standby = s.standby := rfl
@[simp] theorem State.withCp15_etmProcIdWr (s : State) (cp : Cp15) : (s.withCp15 cp).etmProcIdWr = s.etmProcIdWr := rfl
@[simp] theorem State.withCp15_executed (s : State) (cp : Cp15) : (s.withCp15 cp).executed = s.executed := rfl
@[simp] theorem State.withCp15_pins (s : State) (cp : Cp15) : (s.withCp15 cp).pins = s.pins := rfl
@[simp] theorem State.withCp15_lastRead (s : State) (cp : Cp15) : (s.withCp15 cp).lastRead = s.lastRead := rfl
@[simp] theorem State.withCp15_cpAnswers (s : State) (cp : Cp15) : (s.withCp15 cp).cpAnswers = s.cpAnswers := rfl
@[simp] theorem State.withCp15_cpOut (s : State) (cp : Cp15) : (s.withCp15 cp).cpOut = s.cpOut := rfl
@[simp] theorem State.withCp15_cpPins (s : State) (cp : Cp15) : (s.withCp15 cp).cpPins = s.cpPins := rfl
@[simp] theorem State.withCp15_scan (s : State) (cp : Cp15) : (s.withCp15 cp).scan = s.scan := rfl
@[simp] theorem State.withCp15_inputs (s : State) (cp : Cp15) : (s.withCp15 cp).inputs = s.inputs := rfl
@[simp] theorem State.withCp15_cfg (s : State) (cp : Cp15) : (s.withCp15 cp).cfg = s.cfg := rfl

@[simp] theorem State.spend_pc (s : State) (n : Nat) : (s.spend n).cpu.pc = s.cpu.pc := rfl
@[simp] theorem State.spend_cpsr (s : State) (n : Nat) : (s.spend n).cpu.cpsr = s.cpu.cpsr := rfl
@[simp] theorem State.spend_regs (s : State) (n : Nat) : (s.spend n).cpu.regs = s.cpu.regs := rfl
@[simp] theorem State.spend_spsr (s : State) (n : Nat) : (s.spend n).cpu.spsr = s.cpu.spsr := rfl
@[simp] theorem State.spend_cp15 (s : State) (n : Nat) : (s.spend n).cp15 = s.cp15 := rfl
@[simp] theorem State.spend_ms (s : State) (n : Nat) : (s.spend n).ms = s.ms.spend n := rfl
@[simp] theorem State.spend_pipe (s : State) (n : Nat) : (s.spend n).pipe = s.pipe := rfl
@[simp] theorem State.spend_nonseq (s : State) (n : Nat) : (s.spend n).nonseq = s.nonseq := rfl
@[simp] theorem State.spend_tcPatience (s : State) (n : Nat) : (s.spend n).tcPatience = s.tcPatience := rfl
@[simp] theorem State.spend_standby (s : State) (n : Nat) : (s.spend n).standby = s.standby := rfl
@[simp] theorem State.spend_etmProcIdWr (s : State) (n : Nat) : (s.spend n).etmProcIdWr = s.etmProcIdWr := rfl
@[simp] theorem State.spend_executed (s : State) (n : Nat) : (s.spend n).executed = s.executed := rfl
@[simp] theorem State.spend_pins (s : State) (n : Nat) : (s.spend n).pins = s.pins := rfl
@[simp] theorem State.spend_lastRead (s : State) (n : Nat) : (s.spend n).lastRead = s.lastRead := rfl
@[simp] theorem State.spend_cpAnswers (s : State) (n : Nat) : (s.spend n).cpAnswers = s.cpAnswers := rfl
@[simp] theorem State.spend_cpOut (s : State) (n : Nat) : (s.spend n).cpOut = s.cpOut := rfl
@[simp] theorem State.spend_cpPins (s : State) (n : Nat) : (s.spend n).cpPins = s.cpPins := rfl
@[simp] theorem State.spend_scan (s : State) (n : Nat) : (s.spend n).scan = s.scan := rfl
@[simp] theorem State.spend_inputs (s : State) (n : Nat) : (s.spend n).inputs = s.inputs := rfl
@[simp] theorem State.spend_cfg (s : State) (n : Nat) : (s.spend n).cfg = s.cfg := rfl

@[simp] theorem State.noted_cp15 (s : State) (f : LastRead → LastRead) : (s.noted f).cp15 = s.cp15 := rfl
@[simp] theorem State.noted_ms (s : State) (f : LastRead → LastRead) : (s.noted f).ms = s.ms := rfl
@[simp] theorem State.noted_pipe (s : State) (f : LastRead → LastRead) : (s.noted f).pipe = s.pipe := rfl
@[simp] theorem State.noted_nonseq (s : State) (f : LastRead → LastRead) : (s.noted f).nonseq = s.nonseq := rfl
@[simp] theorem State.noted_tcPatience (s : State) (f : LastRead → LastRead) : (s.noted f).tcPatience = s.tcPatience := rfl
@[simp] theorem State.noted_standby (s : State) (f : LastRead → LastRead) : (s.noted f).standby = s.standby := rfl
@[simp] theorem State.noted_etmProcIdWr (s : State) (f : LastRead → LastRead) : (s.noted f).etmProcIdWr = s.etmProcIdWr := rfl
@[simp] theorem State.noted_executed (s : State) (f : LastRead → LastRead) : (s.noted f).executed = s.executed := rfl
@[simp] theorem State.noted_pins (s : State) (f : LastRead → LastRead) : (s.noted f).pins = s.pins := rfl
@[simp] theorem State.noted_lastRead (s : State) (f : LastRead → LastRead) : (s.noted f).lastRead = f s.lastRead := rfl
@[simp] theorem State.noted_cpAnswers (s : State) (f : LastRead → LastRead) : (s.noted f).cpAnswers = s.cpAnswers := rfl
@[simp] theorem State.noted_cpOut (s : State) (f : LastRead → LastRead) : (s.noted f).cpOut = s.cpOut := rfl
@[simp] theorem State.noted_cpPins (s : State) (f : LastRead → LastRead) : (s.noted f).cpPins = s.cpPins := rfl
@[simp] theorem State.noted_scan (s : State) (f : LastRead → LastRead) : (s.noted f).scan = s.scan := rfl
@[simp] theorem State.noted_inputs (s : State) (f : LastRead → LastRead) : (s.noted f).inputs = s.inputs := rfl
@[simp] theorem State.noted_cfg (s : State) (f : LastRead → LastRead) : (s.noted f).cfg = s.cfg := rfl
@[simp] theorem State.noted_cpu (s : State) (f : LastRead → LastRead) : (s.noted f).cpu = s.cpu := rfl

@[simp] theorem State.withAnswers_cp15 (s : State) (later : List (List CpDrive)) : (s.withAnswers later).cp15 = s.cp15 := rfl
@[simp] theorem State.withAnswers_ms (s : State) (later : List (List CpDrive)) : (s.withAnswers later).ms = s.ms := rfl
@[simp] theorem State.withAnswers_pipe (s : State) (later : List (List CpDrive)) : (s.withAnswers later).pipe = s.pipe := rfl
@[simp] theorem State.withAnswers_nonseq (s : State) (later : List (List CpDrive)) : (s.withAnswers later).nonseq = s.nonseq := rfl
@[simp] theorem State.withAnswers_tcPatience (s : State) (later : List (List CpDrive)) : (s.withAnswers later).tcPatience = s.tcPatience := rfl
@[simp] theorem State.withAnswers_standby (s : State) (later : List (List CpDrive)) : (s.withAnswers later).standby = s.standby := rfl
@[simp] theorem State.withAnswers_etmProcIdWr (s : State) (later : List (List CpDrive)) : (s.withAnswers later).etmProcIdWr = s.etmProcIdWr := rfl
@[simp] theorem State.withAnswers_executed (s : State) (later : List (List CpDrive)) : (s.withAnswers later).executed = s.executed := rfl
@[simp] theorem State.withAnswers_pins (s : State) (later : List (List CpDrive)) : (s.withAnswers later).pins = s.pins := rfl
@[simp] theorem State.withAnswers_lastRead (s : State) (later : List (List CpDrive)) : (s.withAnswers later).lastRead = s.lastRead := rfl
@[simp] theorem State.withAnswers_cpAnswers (s : State) (later : List (List CpDrive)) : (s.withAnswers later).cpAnswers = later := rfl
@[simp] theorem State.withAnswers_cpOut (s : State) (later : List (List CpDrive)) : (s.withAnswers later).cpOut = s.cpOut := rfl
@[simp] theorem State.withAnswers_cpPins (s : State) (later : List (List CpDrive)) : (s.withAnswers later).cpPins = s.cpPins := rfl
@[simp] theorem State.withAnswers_scan (s : State) (later : List (List CpDrive)) : (s.withAnswers later).scan = s.scan := rfl
@[simp] theorem State.withAnswers_inputs (s : State) (later : List (List CpDrive)) : (s.withAnswers later).inputs = s.inputs := rfl
@[simp] theorem State.withAnswers_cfg (s : State) (later : List (List CpDrive)) : (s.withAnswers later).cfg = s.cfg := rfl
@[simp] theorem State.withAnswers_cpu (s : State) (later : List (List CpDrive)) : (s.withAnswers later).cpu = s.cpu := rfl

@[simp] theorem State.busyWaits_cp15 (s : State) (later : List (List CpDrive)) : (s.busyWaits later).cp15 = s.cp15 := rfl
@[simp] theorem State.busyWaits_ms (s : State) (later : List (List CpDrive)) : (s.busyWaits later).ms = s.ms := rfl
@[simp] theorem State.busyWaits_pipe (s : State) (later : List (List CpDrive)) : (s.busyWaits later).pipe = s.pipe := rfl
@[simp] theorem State.busyWaits_nonseq (s : State) (later : List (List CpDrive)) : (s.busyWaits later).nonseq = s.nonseq := rfl
@[simp] theorem State.busyWaits_tcPatience (s : State) (later : List (List CpDrive)) : (s.busyWaits later).tcPatience = s.tcPatience := rfl
@[simp] theorem State.busyWaits_standby (s : State) (later : List (List CpDrive)) : (s.busyWaits later).standby = s.standby := rfl
@[simp] theorem State.busyWaits_etmProcIdWr (s : State) (later : List (List CpDrive)) : (s.busyWaits later).etmProcIdWr = s.etmProcIdWr := rfl
@[simp] theorem State.busyWaits_executed (s : State) (later : List (List CpDrive)) : (s.busyWaits later).executed = false := rfl
@[simp] theorem State.busyWaits_pins (s : State) (later : List (List CpDrive)) : (s.busyWaits later).pins = s.pins := rfl
@[simp] theorem State.busyWaits_lastRead (s : State) (later : List (List CpDrive)) : (s.busyWaits later).lastRead = s.lastRead := rfl
@[simp] theorem State.busyWaits_cpAnswers (s : State) (later : List (List CpDrive)) : (s.busyWaits later).cpAnswers = later := rfl
@[simp] theorem State.busyWaits_cpOut (s : State) (later : List (List CpDrive)) : (s.busyWaits later).cpOut = s.cpOut := rfl
@[simp] theorem State.busyWaits_cpPins (s : State) (later : List (List CpDrive)) : (s.busyWaits later).cpPins = { s.cpPins with waiting := true, burst := s.cpburst } := rfl
@[simp] theorem State.busyWaits_scan (s : State) (later : List (List CpDrive)) : (s.busyWaits later).scan = s.scan := rfl
@[simp] theorem State.busyWaits_inputs (s : State) (later : List (List CpDrive)) : (s.busyWaits later).inputs = s.inputs := rfl
@[simp] theorem State.busyWaits_cfg (s : State) (later : List (List CpDrive)) : (s.busyWaits later).cfg = s.cfg := rfl
@[simp] theorem State.busyWaits_cpu (s : State) (later : List (List CpDrive)) : (s.busyWaits later).cpu = s.cpu := rfl

@[simp] theorem State.sendCp_cp15 (s : State) (cp : BitVec 4) (instr : BitVec 28) (words : List Word) (aborted : Bool) : (s.sendCp cp instr words aborted).cp15 = s.cp15 := rfl
@[simp] theorem State.sendCp_ms (s : State) (cp : BitVec 4) (instr : BitVec 28) (words : List Word) (aborted : Bool) : (s.sendCp cp instr words aborted).ms = s.ms := rfl
@[simp] theorem State.sendCp_pipe (s : State) (cp : BitVec 4) (instr : BitVec 28) (words : List Word) (aborted : Bool) : (s.sendCp cp instr words aborted).pipe = s.pipe := rfl
@[simp] theorem State.sendCp_nonseq (s : State) (cp : BitVec 4) (instr : BitVec 28) (words : List Word) (aborted : Bool) : (s.sendCp cp instr words aborted).nonseq = s.nonseq := rfl
@[simp] theorem State.sendCp_tcPatience (s : State) (cp : BitVec 4) (instr : BitVec 28) (words : List Word) (aborted : Bool) : (s.sendCp cp instr words aborted).tcPatience = s.tcPatience := rfl
@[simp] theorem State.sendCp_standby (s : State) (cp : BitVec 4) (instr : BitVec 28) (words : List Word) (aborted : Bool) : (s.sendCp cp instr words aborted).standby = s.standby := rfl
@[simp] theorem State.sendCp_etmProcIdWr (s : State) (cp : BitVec 4) (instr : BitVec 28) (words : List Word) (aborted : Bool) : (s.sendCp cp instr words aborted).etmProcIdWr = s.etmProcIdWr := rfl
@[simp] theorem State.sendCp_executed (s : State) (cp : BitVec 4) (instr : BitVec 28) (words : List Word) (aborted : Bool) : (s.sendCp cp instr words aborted).executed = s.executed := rfl
@[simp] theorem State.sendCp_pins (s : State) (cp : BitVec 4) (instr : BitVec 28) (words : List Word) (aborted : Bool) : (s.sendCp cp instr words aborted).pins = s.pins := rfl
@[simp] theorem State.sendCp_lastRead (s : State) (cp : BitVec 4) (instr : BitVec 28) (words : List Word) (aborted : Bool) : (s.sendCp cp instr words aborted).lastRead = s.lastRead := rfl
@[simp] theorem State.sendCp_cpAnswers (s : State) (cp : BitVec 4) (instr : BitVec 28) (words : List Word) (aborted : Bool) : (s.sendCp cp instr words aborted).cpAnswers = s.cpAnswers := rfl
@[simp] theorem State.sendCp_cpOut (s : State) (cp : BitVec 4) (instr : BitVec 28) (words : List Word) (aborted : Bool) : (s.sendCp cp instr words aborted).cpOut = s.cpOut ++ [⟨cp, instr, s.privileged, words, aborted⟩] := rfl
@[simp] theorem State.sendCp_cpPins (s : State) (cp : BitVec 4) (instr : BitVec 28) (words : List Word) (aborted : Bool) : (s.sendCp cp instr words aborted).cpPins = { s.cpPins with cpabort := aborted } := rfl
@[simp] theorem State.sendCp_scan (s : State) (cp : BitVec 4) (instr : BitVec 28) (words : List Word) (aborted : Bool) : (s.sendCp cp instr words aborted).scan = s.scan := rfl
@[simp] theorem State.sendCp_inputs (s : State) (cp : BitVec 4) (instr : BitVec 28) (words : List Word) (aborted : Bool) : (s.sendCp cp instr words aborted).inputs = s.inputs := rfl
@[simp] theorem State.sendCp_cfg (s : State) (cp : BitVec 4) (instr : BitVec 28) (words : List Word) (aborted : Bool) : (s.sendCp cp instr words aborted).cfg = s.cfg := rfl
@[simp] theorem State.sendCp_cpu (s : State) (cp : BitVec 4) (instr : BitVec 28) (words : List Word) (aborted : Bool) : (s.sendCp cp instr words aborted).cpu = s.cpu := rfl

@[simp] theorem State.cleared_cp15 (s : State) : (s.cleared).cp15 = s.cp15 := rfl
@[simp] theorem State.cleared_ms (s : State) : (s.cleared).ms = s.ms := rfl
@[simp] theorem State.cleared_pipe (s : State) : (s.cleared).pipe = s.pipe := rfl
@[simp] theorem State.cleared_nonseq (s : State) : (s.cleared).nonseq = s.nonseq := rfl
@[simp] theorem State.cleared_tcPatience (s : State) : (s.cleared).tcPatience = s.tcPatience := rfl
@[simp] theorem State.cleared_standby (s : State) : (s.cleared).standby = s.standby := rfl
@[simp] theorem State.cleared_etmProcIdWr (s : State) : (s.cleared).etmProcIdWr = false := rfl
@[simp] theorem State.cleared_executed (s : State) : (s.cleared).executed = false := rfl
@[simp] theorem State.cleared_pins (s : State) : (s.cleared).pins = s.pins := rfl
@[simp] theorem State.cleared_lastRead (s : State) : (s.cleared).lastRead = s.lastRead := rfl
@[simp] theorem State.cleared_cpAnswers (s : State) : (s.cleared).cpAnswers = s.cpAnswers := rfl
@[simp] theorem State.cleared_cpOut (s : State) : (s.cleared).cpOut = s.cpOut := rfl
@[simp] theorem State.cleared_cpPins (s : State) : (s.cleared).cpPins = { CpPins.idle with waiting := s.cpPins.waiting, burst := s.cpPins.burst } := rfl
@[simp] theorem State.cleared_scan (s : State) : (s.cleared).scan = s.scan := rfl
@[simp] theorem State.cleared_inputs (s : State) : (s.cleared).inputs = s.inputs := rfl
@[simp] theorem State.cleared_cfg (s : State) : (s.cleared).cfg = s.cfg := rfl
@[simp] theorem State.cleared_cpu (s : State) : (s.cleared).cpu = s.cpu := rfl

@[simp] theorem State.awake_cp15 (s : State) : (s.awake).cp15 = s.cp15 := rfl
@[simp] theorem State.awake_ms (s : State) : (s.awake).ms = s.ms := rfl
@[simp] theorem State.awake_pipe (s : State) : (s.awake).pipe = s.pipe := rfl
@[simp] theorem State.awake_nonseq (s : State) : (s.awake).nonseq = s.nonseq := rfl
@[simp] theorem State.awake_tcPatience (s : State) : (s.awake).tcPatience = s.tcPatience := rfl
@[simp] theorem State.awake_standby (s : State) : (s.awake).standby = false := rfl
@[simp] theorem State.awake_etmProcIdWr (s : State) : (s.awake).etmProcIdWr = s.etmProcIdWr := rfl
@[simp] theorem State.awake_executed (s : State) : (s.awake).executed = s.executed := rfl
@[simp] theorem State.awake_pins (s : State) : (s.awake).pins = s.pins := rfl
@[simp] theorem State.awake_lastRead (s : State) : (s.awake).lastRead = s.lastRead := rfl
@[simp] theorem State.awake_cpAnswers (s : State) : (s.awake).cpAnswers = s.cpAnswers := rfl
@[simp] theorem State.awake_cpOut (s : State) : (s.awake).cpOut = s.cpOut := rfl
@[simp] theorem State.awake_cpPins (s : State) : (s.awake).cpPins = s.cpPins := rfl
@[simp] theorem State.awake_scan (s : State) : (s.awake).scan = s.scan := rfl
@[simp] theorem State.awake_inputs (s : State) : (s.awake).inputs = s.inputs := rfl
@[simp] theorem State.awake_cfg (s : State) : (s.awake).cfg = s.cfg := rfl
@[simp] theorem State.awake_cpu (s : State) : (s.awake).cpu = s.cpu := rfl

@[simp] theorem State.abandoned_cp15 (s : State) : (s.abandoned).cp15 = s.cp15 := rfl
@[simp] theorem State.abandoned_ms (s : State) : (s.abandoned).ms = s.ms := rfl
@[simp] theorem State.abandoned_pipe (s : State) : (s.abandoned).pipe = s.pipe := rfl
@[simp] theorem State.abandoned_nonseq (s : State) : (s.abandoned).nonseq = s.nonseq := rfl
@[simp] theorem State.abandoned_tcPatience (s : State) : (s.abandoned).tcPatience = s.tcPatience := rfl
@[simp] theorem State.abandoned_standby (s : State) : (s.abandoned).standby = s.standby := rfl
@[simp] theorem State.abandoned_etmProcIdWr (s : State) : (s.abandoned).etmProcIdWr = s.etmProcIdWr := rfl
@[simp] theorem State.abandoned_executed (s : State) : (s.abandoned).executed = s.executed := rfl
@[simp] theorem State.abandoned_pins (s : State) : (s.abandoned).pins = s.pins := rfl
@[simp] theorem State.abandoned_lastRead (s : State) : (s.abandoned).lastRead = s.lastRead := rfl
@[simp] theorem State.abandoned_cpAnswers (s : State) : (s.abandoned).cpAnswers = s.cpAnswers := rfl
@[simp] theorem State.abandoned_cpOut (s : State) : (s.abandoned).cpOut = s.cpOut := rfl
@[simp] theorem State.abandoned_cpPins (s : State) : (s.abandoned).cpPins = { s.cpPins with cplatecancel := s.cpPins.waiting, waiting := false, burst := none } := rfl
@[simp] theorem State.abandoned_scan (s : State) : (s.abandoned).scan = s.scan := rfl
@[simp] theorem State.abandoned_inputs (s : State) : (s.abandoned).inputs = s.inputs := rfl
@[simp] theorem State.abandoned_cfg (s : State) : (s.abandoned).cfg = s.cfg := rfl
@[simp] theorem State.abandoned_cpu (s : State) : (s.abandoned).cpu = s.cpu := rfl

@[simp] theorem takeException_pc (e : Exception) (link : Word) (s : State) :
    (takeException e link s).cpu.pc = vectorBase s + exceptionOffset e := rfl
@[simp] theorem takeException_cpsr (e : Exception) (link : Word) (s : State) :
    (takeException e link s).cpu.cpsr = exceptionCpsr e s.cpu.cpsr := rfl
@[simp] theorem takeException_regs (e : Exception) (link : Word) (s : State) :
    (takeException e link s).cpu.regs = s.cpu.regs.set (physReg (exceptionMode e) 14).val link (physReg (exceptionMode e) 14).isLt := rfl
@[simp] theorem takeException_spsr (e : Exception) (link : Word) (s : State) :
    (takeException e link s).cpu.spsr = s.cpu.spsr.set (exceptionSpsr e).val s.cpu.cpsr (exceptionSpsr e).isLt := rfl
@[simp] theorem takeException_cp15 (e : Exception) (link : Word) (s : State) :
    (takeException e link s).cp15 = s.cp15 := rfl
@[simp] theorem takeException_ms (e : Exception) (link : Word) (s : State) :
    (takeException e link s).ms = s.ms := rfl
@[simp] theorem takeException_pipe (e : Exception) (link : Word) (s : State) :
    (takeException e link s).pipe = s.pipe := rfl
@[simp] theorem takeException_nonseq (e : Exception) (link : Word) (s : State) :
    (takeException e link s).nonseq = true := rfl
@[simp] theorem takeException_tcPatience (e : Exception) (link : Word) (s : State) :
    (takeException e link s).tcPatience = s.tcPatience := rfl
@[simp] theorem takeException_standby (e : Exception) (link : Word) (s : State) :
    (takeException e link s).standby = s.standby := rfl
@[simp] theorem takeException_etmProcIdWr (e : Exception) (link : Word) (s : State) :
    (takeException e link s).etmProcIdWr = s.etmProcIdWr := rfl
@[simp] theorem takeException_executed (e : Exception) (link : Word) (s : State) :
    (takeException e link s).executed = s.executed := rfl
@[simp] theorem takeException_pins (e : Exception) (link : Word) (s : State) :
    (takeException e link s).pins = s.pins := rfl
@[simp] theorem takeException_lastRead (e : Exception) (link : Word) (s : State) :
    (takeException e link s).lastRead = s.lastRead := rfl
@[simp] theorem takeException_cpAnswers (e : Exception) (link : Word) (s : State) :
    (takeException e link s).cpAnswers = s.cpAnswers := rfl
@[simp] theorem takeException_cpOut (e : Exception) (link : Word) (s : State) :
    (takeException e link s).cpOut = s.cpOut := rfl
@[simp] theorem takeException_cpPins (e : Exception) (link : Word) (s : State) :
    (takeException e link s).cpPins = s.cpPins := rfl
@[simp] theorem takeException_scan (e : Exception) (link : Word) (s : State) :
    (takeException e link s).scan = s.scan := rfl
@[simp] theorem takeException_inputs (e : Exception) (link : Word) (s : State) :
    (takeException e link s).inputs = s.inputs := rfl
@[simp] theorem takeException_cfg (e : Exception) (link : Word) (s : State) :
    (takeException e link s).cfg = s.cfg := rfl

@[simp] theorem MemSys.spend_mem (ms : MemSys) (n : Nat) : (ms.spend n).mem = ms.mem := rfl
@[simp] theorem MemSys.spend_itcm (ms : MemSys) (n : Nat) : (ms.spend n).itcm = ms.itcm := rfl
@[simp] theorem MemSys.spend_dtcm (ms : MemSys) (n : Nat) : (ms.spend n).dtcm = ms.dtcm := rfl
@[simp] theorem MemSys.spend_wbuf (ms : MemSys) (n : Nat) : (ms.spend n).wbuf = ms.wbuf := rfl
@[simp] theorem MemSys.spend_itcmWb (ms : MemSys) (n : Nat) : (ms.spend n).itcmWb = ms.itcmWb := rfl
@[simp] theorem MemSys.spend_dtcmWb (ms : MemSys) (n : Nat) : (ms.spend n).dtcmWb = ms.dtcmWb := rfl
@[simp] theorem MemSys.spend_icache (ms : MemSys) (n : Nat) : (ms.spend n).icache = ms.icache := rfl
@[simp] theorem MemSys.spend_dcache (ms : MemSys) (n : Nat) : (ms.spend n).dcache = ms.dcache := rfl
@[simp] theorem MemSys.spend_tlbMain (ms : MemSys) (n : Nat) : (ms.spend n).tlbMain = ms.tlbMain := rfl
@[simp] theorem MemSys.spend_tlbLock (ms : MemSys) (n : Nat) : (ms.spend n).tlbLock = ms.tlbLock := rfl
@[simp] theorem MemSys.spend_cachedFaults (ms : MemSys) (n : Nat) : (ms.spend n).cachedFaults = ms.cachedFaults := rfl
@[simp] theorem MemSys.spend_victim (ms : MemSys) (n : Nat) : (ms.spend n).victim = ms.victim := rfl
@[simp] theorem MemSys.spend_preserve (ms : MemSys) (n : Nat) : (ms.spend n).preserve = ms.preserve := rfl
@[simp] theorem MemSys.spend_prefetch (ms : MemSys) (n : Nat) : (ms.spend n).prefetch = ms.prefetch := rfl
@[simp] theorem MemSys.spend_outside (ms : MemSys) (n : Nat) : (ms.spend n).outside = ms.outside := rfl
@[simp] theorem MemSys.spend_draws (ms : MemSys) (n : Nat) : (ms.spend n).draws = ms.draws + n := rfl

@[simp] theorem MemSys.drainBus_mem (ms : MemSys) : (ms.drainBus).mem = ms.settledMem := rfl
@[simp] theorem MemSys.drainBus_itcm (ms : MemSys) : (ms.drainBus).itcm = ms.itcm := rfl
@[simp] theorem MemSys.drainBus_dtcm (ms : MemSys) : (ms.drainBus).dtcm = ms.dtcm := rfl
@[simp] theorem MemSys.drainBus_wbuf (ms : MemSys) : (ms.drainBus).wbuf = [] := rfl
@[simp] theorem MemSys.drainBus_itcmWb (ms : MemSys) : (ms.drainBus).itcmWb = ms.itcmWb := rfl
@[simp] theorem MemSys.drainBus_dtcmWb (ms : MemSys) : (ms.drainBus).dtcmWb = ms.dtcmWb := rfl
@[simp] theorem MemSys.drainBus_icache (ms : MemSys) : (ms.drainBus).icache = ms.icache := rfl
@[simp] theorem MemSys.drainBus_dcache (ms : MemSys) : (ms.drainBus).dcache = ms.dcache := rfl
@[simp] theorem MemSys.drainBus_tlbMain (ms : MemSys) : (ms.drainBus).tlbMain = ms.tlbMain := rfl
@[simp] theorem MemSys.drainBus_tlbLock (ms : MemSys) : (ms.drainBus).tlbLock = ms.tlbLock := rfl
@[simp] theorem MemSys.drainBus_cachedFaults (ms : MemSys) : (ms.drainBus).cachedFaults = ms.cachedFaults := rfl
@[simp] theorem MemSys.drainBus_victim (ms : MemSys) : (ms.drainBus).victim = ms.victim := rfl
@[simp] theorem MemSys.drainBus_preserve (ms : MemSys) : (ms.drainBus).preserve = ms.preserve := rfl
@[simp] theorem MemSys.drainBus_prefetch (ms : MemSys) : (ms.drainBus).prefetch = ms.prefetch := rfl
@[simp] theorem MemSys.drainBus_outside (ms : MemSys) : (ms.drainBus).outside = ms.outside := rfl
@[simp] theorem MemSys.drainBus_draws (ms : MemSys) : (ms.drainBus).draws = ms.draws := rfl

@[simp] theorem MemSys.drainAll_mem (ms : MemSys) : (ms.drainAll).mem = ms.settledMem := rfl
@[simp] theorem MemSys.drainAll_itcm (ms : MemSys) : (ms.drainAll).itcm = ms.settledItcm := rfl
@[simp] theorem MemSys.drainAll_dtcm (ms : MemSys) : (ms.drainAll).dtcm = ms.settledDtcm := rfl
@[simp] theorem MemSys.drainAll_wbuf (ms : MemSys) : (ms.drainAll).wbuf = [] := rfl
@[simp] theorem MemSys.drainAll_itcmWb (ms : MemSys) : (ms.drainAll).itcmWb = [] := rfl
@[simp] theorem MemSys.drainAll_dtcmWb (ms : MemSys) : (ms.drainAll).dtcmWb = [] := rfl
@[simp] theorem MemSys.drainAll_icache (ms : MemSys) : (ms.drainAll).icache = ms.icache := rfl
@[simp] theorem MemSys.drainAll_dcache (ms : MemSys) : (ms.drainAll).dcache = ms.dcache := rfl
@[simp] theorem MemSys.drainAll_tlbMain (ms : MemSys) : (ms.drainAll).tlbMain = ms.tlbMain := rfl
@[simp] theorem MemSys.drainAll_tlbLock (ms : MemSys) : (ms.drainAll).tlbLock = ms.tlbLock := rfl
@[simp] theorem MemSys.drainAll_cachedFaults (ms : MemSys) : (ms.drainAll).cachedFaults = ms.cachedFaults := rfl
@[simp] theorem MemSys.drainAll_victim (ms : MemSys) : (ms.drainAll).victim = ms.victim := rfl
@[simp] theorem MemSys.drainAll_preserve (ms : MemSys) : (ms.drainAll).preserve = ms.preserve := rfl
@[simp] theorem MemSys.drainAll_prefetch (ms : MemSys) : (ms.drainAll).prefetch = ms.prefetch := rfl
@[simp] theorem MemSys.drainAll_outside (ms : MemSys) : (ms.drainAll).outside = ms.outside := rfl
@[simp] theorem MemSys.drainAll_draws (ms : MemSys) : (ms.drainAll).draws = ms.draws := rfl

@[simp] theorem MemSys.dropUnlocked_mem (ms : MemSys) : (ms.dropUnlocked).mem = ms.mem := rfl
@[simp] theorem MemSys.dropUnlocked_itcm (ms : MemSys) : (ms.dropUnlocked).itcm = ms.itcm := rfl
@[simp] theorem MemSys.dropUnlocked_dtcm (ms : MemSys) : (ms.dropUnlocked).dtcm = ms.dtcm := rfl
@[simp] theorem MemSys.dropUnlocked_wbuf (ms : MemSys) : (ms.dropUnlocked).wbuf = ms.wbuf := rfl
@[simp] theorem MemSys.dropUnlocked_itcmWb (ms : MemSys) : (ms.dropUnlocked).itcmWb = ms.itcmWb := rfl
@[simp] theorem MemSys.dropUnlocked_dtcmWb (ms : MemSys) : (ms.dropUnlocked).dtcmWb = ms.dtcmWb := rfl
@[simp] theorem MemSys.dropUnlocked_icache (ms : MemSys) : (ms.dropUnlocked).icache = ms.icache := rfl
@[simp] theorem MemSys.dropUnlocked_dcache (ms : MemSys) : (ms.dropUnlocked).dcache = ms.dcache := rfl
@[simp] theorem MemSys.dropUnlocked_tlbMain (ms : MemSys) : (ms.dropUnlocked).tlbMain = dropMain (ms.drawn 0 ++ ms.drawn 1) ms.tlbMain := rfl
@[simp] theorem MemSys.dropUnlocked_tlbLock (ms : MemSys) : (ms.dropUnlocked).tlbLock = ms.tlbLock := rfl
@[simp] theorem MemSys.dropUnlocked_cachedFaults (ms : MemSys) : (ms.dropUnlocked).cachedFaults = dropFaults (ms.draws + 2) ms.cachedFaults := rfl
@[simp] theorem MemSys.dropUnlocked_victim (ms : MemSys) : (ms.dropUnlocked).victim = ms.victim := rfl
@[simp] theorem MemSys.dropUnlocked_preserve (ms : MemSys) : (ms.dropUnlocked).preserve = ms.preserve := rfl
@[simp] theorem MemSys.dropUnlocked_prefetch (ms : MemSys) : (ms.dropUnlocked).prefetch = ms.prefetch := rfl
@[simp] theorem MemSys.dropUnlocked_outside (ms : MemSys) : (ms.dropUnlocked).outside = ms.outside := rfl
@[simp] theorem MemSys.dropUnlocked_draws (ms : MemSys) : (ms.dropUnlocked).draws = ms.draws + 2 + ms.cachedFaults.length := rfl

@[simp] theorem MemSys.setMain_mem (ms : MemSys) (n : BitVec 6) (e : TlbEntry) : (ms.setMain n e).mem = ms.mem := rfl
@[simp] theorem MemSys.setMain_itcm (ms : MemSys) (n : BitVec 6) (e : TlbEntry) : (ms.setMain n e).itcm = ms.itcm := rfl
@[simp] theorem MemSys.setMain_dtcm (ms : MemSys) (n : BitVec 6) (e : TlbEntry) : (ms.setMain n e).dtcm = ms.dtcm := rfl
@[simp] theorem MemSys.setMain_wbuf (ms : MemSys) (n : BitVec 6) (e : TlbEntry) : (ms.setMain n e).wbuf = ms.wbuf := rfl
@[simp] theorem MemSys.setMain_itcmWb (ms : MemSys) (n : BitVec 6) (e : TlbEntry) : (ms.setMain n e).itcmWb = ms.itcmWb := rfl
@[simp] theorem MemSys.setMain_dtcmWb (ms : MemSys) (n : BitVec 6) (e : TlbEntry) : (ms.setMain n e).dtcmWb = ms.dtcmWb := rfl
@[simp] theorem MemSys.setMain_icache (ms : MemSys) (n : BitVec 6) (e : TlbEntry) : (ms.setMain n e).icache = ms.icache := rfl
@[simp] theorem MemSys.setMain_dcache (ms : MemSys) (n : BitVec 6) (e : TlbEntry) : (ms.setMain n e).dcache = ms.dcache := rfl
@[simp] theorem MemSys.setMain_tlbMain (ms : MemSys) (n : BitVec 6) (e : TlbEntry) : (ms.setMain n e).tlbMain = ms.tlbMain.set n.toNat e n.isLt := rfl
@[simp] theorem MemSys.setMain_tlbLock (ms : MemSys) (n : BitVec 6) (e : TlbEntry) : (ms.setMain n e).tlbLock = ms.tlbLock := rfl
@[simp] theorem MemSys.setMain_cachedFaults (ms : MemSys) (n : BitVec 6) (e : TlbEntry) : (ms.setMain n e).cachedFaults = ms.cachedFaults := rfl
@[simp] theorem MemSys.setMain_victim (ms : MemSys) (n : BitVec 6) (e : TlbEntry) : (ms.setMain n e).victim = ms.victim := rfl
@[simp] theorem MemSys.setMain_preserve (ms : MemSys) (n : BitVec 6) (e : TlbEntry) : (ms.setMain n e).preserve = ms.preserve := rfl
@[simp] theorem MemSys.setMain_prefetch (ms : MemSys) (n : BitVec 6) (e : TlbEntry) : (ms.setMain n e).prefetch = ms.prefetch := rfl
@[simp] theorem MemSys.setMain_outside (ms : MemSys) (n : BitVec 6) (e : TlbEntry) : (ms.setMain n e).outside = ms.outside := rfl
@[simp] theorem MemSys.setMain_draws (ms : MemSys) (n : BitVec 6) (e : TlbEntry) : (ms.setMain n e).draws = ms.draws := rfl

@[simp] theorem MemSys.setLock_mem (ms : MemSys) (n : BitVec 3) (e : TlbEntry) : (ms.setLock n e).mem = ms.mem := rfl
@[simp] theorem MemSys.setLock_itcm (ms : MemSys) (n : BitVec 3) (e : TlbEntry) : (ms.setLock n e).itcm = ms.itcm := rfl
@[simp] theorem MemSys.setLock_dtcm (ms : MemSys) (n : BitVec 3) (e : TlbEntry) : (ms.setLock n e).dtcm = ms.dtcm := rfl
@[simp] theorem MemSys.setLock_wbuf (ms : MemSys) (n : BitVec 3) (e : TlbEntry) : (ms.setLock n e).wbuf = ms.wbuf := rfl
@[simp] theorem MemSys.setLock_itcmWb (ms : MemSys) (n : BitVec 3) (e : TlbEntry) : (ms.setLock n e).itcmWb = ms.itcmWb := rfl
@[simp] theorem MemSys.setLock_dtcmWb (ms : MemSys) (n : BitVec 3) (e : TlbEntry) : (ms.setLock n e).dtcmWb = ms.dtcmWb := rfl
@[simp] theorem MemSys.setLock_icache (ms : MemSys) (n : BitVec 3) (e : TlbEntry) : (ms.setLock n e).icache = ms.icache := rfl
@[simp] theorem MemSys.setLock_dcache (ms : MemSys) (n : BitVec 3) (e : TlbEntry) : (ms.setLock n e).dcache = ms.dcache := rfl
@[simp] theorem MemSys.setLock_tlbMain (ms : MemSys) (n : BitVec 3) (e : TlbEntry) : (ms.setLock n e).tlbMain = ms.tlbMain := rfl
@[simp] theorem MemSys.setLock_tlbLock (ms : MemSys) (n : BitVec 3) (e : TlbEntry) : (ms.setLock n e).tlbLock = ms.tlbLock.set n.toNat e n.isLt := rfl
@[simp] theorem MemSys.setLock_cachedFaults (ms : MemSys) (n : BitVec 3) (e : TlbEntry) : (ms.setLock n e).cachedFaults = ms.cachedFaults := rfl
@[simp] theorem MemSys.setLock_victim (ms : MemSys) (n : BitVec 3) (e : TlbEntry) : (ms.setLock n e).victim = ms.victim := rfl
@[simp] theorem MemSys.setLock_preserve (ms : MemSys) (n : BitVec 3) (e : TlbEntry) : (ms.setLock n e).preserve = ms.preserve := rfl
@[simp] theorem MemSys.setLock_prefetch (ms : MemSys) (n : BitVec 3) (e : TlbEntry) : (ms.setLock n e).prefetch = ms.prefetch := rfl
@[simp] theorem MemSys.setLock_outside (ms : MemSys) (n : BitVec 3) (e : TlbEntry) : (ms.setLock n e).outside = ms.outside := rfl
@[simp] theorem MemSys.setLock_draws (ms : MemSys) (n : BitVec 3) (e : TlbEntry) : (ms.setLock n e).draws = ms.draws := rfl

@[simp] theorem MemSys.pushBus_mem (ms : MemSys) (ps : List PendingWrite) : (ms.pushBus ps).mem = (fitBuffers ms.mem (ms.wbuf ++ ps)).1 := rfl
@[simp] theorem MemSys.pushBus_itcm (ms : MemSys) (ps : List PendingWrite) : (ms.pushBus ps).itcm = ms.itcm := rfl
@[simp] theorem MemSys.pushBus_dtcm (ms : MemSys) (ps : List PendingWrite) : (ms.pushBus ps).dtcm = ms.dtcm := rfl
@[simp] theorem MemSys.pushBus_wbuf (ms : MemSys) (ps : List PendingWrite) : (ms.pushBus ps).wbuf = (fitBuffers ms.mem (ms.wbuf ++ ps)).2 := rfl
@[simp] theorem MemSys.pushBus_itcmWb (ms : MemSys) (ps : List PendingWrite) : (ms.pushBus ps).itcmWb = ms.itcmWb := rfl
@[simp] theorem MemSys.pushBus_dtcmWb (ms : MemSys) (ps : List PendingWrite) : (ms.pushBus ps).dtcmWb = ms.dtcmWb := rfl
@[simp] theorem MemSys.pushBus_icache (ms : MemSys) (ps : List PendingWrite) : (ms.pushBus ps).icache = ms.icache := rfl
@[simp] theorem MemSys.pushBus_dcache (ms : MemSys) (ps : List PendingWrite) : (ms.pushBus ps).dcache = ms.dcache := rfl
@[simp] theorem MemSys.pushBus_tlbMain (ms : MemSys) (ps : List PendingWrite) : (ms.pushBus ps).tlbMain = ms.tlbMain := rfl
@[simp] theorem MemSys.pushBus_tlbLock (ms : MemSys) (ps : List PendingWrite) : (ms.pushBus ps).tlbLock = ms.tlbLock := rfl
@[simp] theorem MemSys.pushBus_cachedFaults (ms : MemSys) (ps : List PendingWrite) : (ms.pushBus ps).cachedFaults = ms.cachedFaults := rfl
@[simp] theorem MemSys.pushBus_victim (ms : MemSys) (ps : List PendingWrite) : (ms.pushBus ps).victim = ms.victim := rfl
@[simp] theorem MemSys.pushBus_preserve (ms : MemSys) (ps : List PendingWrite) : (ms.pushBus ps).preserve = ms.preserve := rfl
@[simp] theorem MemSys.pushBus_prefetch (ms : MemSys) (ps : List PendingWrite) : (ms.pushBus ps).prefetch = ms.prefetch := rfl
@[simp] theorem MemSys.pushBus_outside (ms : MemSys) (ps : List PendingWrite) : (ms.pushBus ps).outside = ms.outside := rfl
@[simp] theorem MemSys.pushBus_draws (ms : MemSys) (ps : List PendingWrite) : (ms.pushBus ps).draws = ms.draws := rfl

end Sys2Proof.Machine
end

