-- ==== Sys2Proof/Laws/Memory.lean ====
section
/-! SUPPORT. The laws of byte memory: reading after writing, and the canonical form that every memory operation keeps. -/

namespace Sys2Proof.Machine

/-- A memory canonical from an address on is canonical from every lower one. -/
theorem Memory.canonicalFrom_mono {lo hi : Nat} {m : Memory} (h : m.canonicalFrom hi = true) (hle : lo ≤ hi) :
    m.canonicalFrom lo = true := by
  cases m with
  | nil => rfl
  | cons e m =>
    obtain ⟨k, b⟩ := e
    simp only [Memory.canonicalFrom, Bool.and_eq_true, decide_eq_true_eq] at h ⊢
    exact ⟨⟨⟨by omega, h.1.1.2⟩, h.1.2⟩, h.2⟩

theorem Memory.canonicalFrom_cons {lo k : Nat} {b : Byte} {m : Memory} :
    Memory.canonicalFrom lo ((k, b) :: m) = true ↔
      lo ≤ k ∧ k < 2 ^ 32 ∧ b ≠ Memory.unlisted ∧ Memory.canonicalFrom (k + 1) m = true := by
  simp only [Memory.canonicalFrom, Bool.and_eq_true, decide_eq_true_eq, and_assoc]

/-- Writing a cell keeps the canonical form. -/
theorem Memory.canonicalFrom_write {lo : Nat} {m : Memory} {a : Nat} (v : Byte) (h : m.canonicalFrom lo = true)
    (hlo : lo ≤ a) (ha : a < 2 ^ 32) : (m.write a v).canonicalFrom lo = true := by
  induction m generalizing lo with
  | nil =>
    by_cases hv : v = Memory.unlisted
    · rw [Memory.write, if_pos hv]
      rfl
    · rw [Memory.write, if_neg hv]
      exact Memory.canonicalFrom_cons.2 ⟨hlo, ha, hv, rfl⟩
  | cons e m ih =>
    obtain ⟨k, b⟩ := e
    have ⟨h1, h2, h3, h4⟩ := Memory.canonicalFrom_cons.1 h
    rw [Memory.write]
    split
    · split
      · exact h
      · exact Memory.canonicalFrom_cons.2 ⟨hlo, ha, by assumption, Memory.canonicalFrom_cons.2 ⟨by omega, h2, h3, h4⟩⟩
    · split
      · split
        · exact Memory.canonicalFrom_mono h4 (by omega)
        · exact Memory.canonicalFrom_cons.2 ⟨hlo, ha, by assumption, Memory.canonicalFrom_mono h4 (by omega)⟩
      · exact Memory.canonicalFrom_cons.2 ⟨h1, h2, h3, ih h4 (by omega)⟩

/-- Bytes one after another make a memory in canonical form. -/
theorem Memory.canonicalFrom_ofBytes (bs : List Byte) {a : Nat} (h : a + bs.length ≤ 2 ^ 32) :
    (Memory.ofBytes a bs).canonicalFrom a = true := by
  induction bs generalizing a with
  | nil => rfl
  | cons b bs ih =>
    simp only [List.length_cons] at h
    have hb := ih (a := a + 1) (by omega)
    simp only [Memory.ofBytes]
    split
    · exact Memory.canonicalFrom_mono hb (by omega)
    · exact Memory.canonicalFrom_cons.2 ⟨Nat.le_refl a, by omega, by assumption, hb⟩

/-- A cell below a canonical memory is unlisted. -/
theorem Memory.read_below {lo : Nat} {m : Memory} {a : Nat} (h : m.canonicalFrom lo = true) (ha : a < lo) :
    m.read a = Memory.unlisted := by
  induction m generalizing lo with
  | nil => rfl
  | cons e m ih =>
    obtain ⟨k, b⟩ := e
    have ⟨h1, _, _, h4⟩ := Memory.canonicalFrom_cons.1 h
    rw [Memory.read, if_neg (by omega)]
    exact ih h4 (by omega)

/-- Reading a cell of a canonical memory after a write. -/
theorem Memory.read_write {lo : Nat} {m : Memory} (a : Nat) (v : Byte) (b : Nat) (h : m.canonicalFrom lo = true) :
    (m.write a v).read b = if b = a then v else m.read b := by
  induction m generalizing lo with
  | nil =>
    simp only [Memory.write]
    split
    · subst_vars
      simp [Memory.read]
    · simp only [Memory.read, eq_comm]
  | cons e m ih =>
    obtain ⟨k, w⟩ := e
    have ⟨_, _, _, h4⟩ := Memory.canonicalFrom_cons.1 h
    have below : ∀ c, c < k + 1 → Memory.read m c = Memory.unlisted := fun c hc => Memory.read_below h4 hc
    by_cases hak : a < k
    · by_cases hv : v = Memory.unlisted
      · rw [Memory.write, if_pos hak, if_pos hv]
        by_cases hb : b = a
        · rw [if_pos hb, Memory.read, if_neg (by omega), below b (by omega), hv]
        · rw [if_neg hb]
      · rw [Memory.write, if_pos hak, if_neg hv]
        simp only [Memory.read, eq_comm (a := a)]
    · by_cases he : a = k
      · by_cases hv : v = Memory.unlisted
        · rw [Memory.write, if_neg hak, if_pos he, if_pos hv]
          by_cases hb : b = a
          · rw [if_pos hb, below b (by omega), hv]
          · rw [if_neg hb, Memory.read, if_neg (by omega)]
        · rw [Memory.write, if_neg hak, if_pos he, if_neg hv]
          by_cases hb : b = a
          · rw [if_pos hb, Memory.read, if_pos hb.symm]
          · rw [if_neg hb, Memory.read, if_neg (fun h => hb h.symm), Memory.read, if_neg (by omega)]
      · rw [Memory.write, if_neg hak, if_neg he]
        by_cases hk : k = b
        · rw [Memory.read, if_pos hk, if_neg (by omega), Memory.read, if_pos hk]
        · rw [Memory.read, if_neg hk, ih h4, Memory.read, if_neg hk]

/-- Writing a cell of the address space keeps the canonical form. -/
theorem Memory.wf_write {m : Memory} {a : Nat} (v : Byte) (h : m.wf = true) (ha : a < 2 ^ 32) : (m.write a v).wf = true :=
  Memory.canonicalFrom_write v h (Nat.zero_le a) ha

/-- Every lane of a word is a cell of the address space. -/
theorem cellOf_lt {word : BitVec 30} {lane : Nat} (h : lane < 4) : cellOf word lane < 2 ^ 32 := by
  have := word.isLt
  simp only [cellOf]
  omega

theorem Memory.wf_writeLane {m : Memory} (word : BitVec 30) (lanes : BitVec 4) (data : Word) {lane : Nat} (h : m.wf = true)
    (hl : lane < 4) : (m.writeLane word lanes data lane).wf = true := by
  simp only [Memory.writeLane]
  split
  · exact Memory.wf_write _ h (cellOf_lt hl)
  · exact h

theorem Memory.wf_writeLanes {m : Memory} (word : BitVec 30) (lanes : BitVec 4) (data : Word) (h : m.wf = true) :
    (m.writeLanes word lanes data).wf = true := by
  simp only [Memory.writeLanes]
  exact Memory.wf_writeLane _ _ _ (Memory.wf_writeLane _ _ _ (Memory.wf_writeLane _ _ _
    (Memory.wf_writeLane _ _ _ h (by decide)) (by decide)) (by decide)) (by decide)

theorem Memory.wf_apply {m : Memory} (p : PendingWrite) (h : m.wf = true) : (m.apply p).wf = true :=
  Memory.wf_writeLanes _ _ _ h

theorem Memory.wf_applyAll {m : Memory} (ps : List PendingWrite) (h : m.wf = true) : (m.applyAll ps).wf = true := by
  simp only [Memory.applyAll]
  induction ps generalizing m with
  | nil => exact h
  | cons p ps ih => exact ih (Memory.wf_apply p h)

theorem Memory.applyAll_append (m : Memory) (ps qs : List PendingWrite) :
    m.applyAll (ps ++ qs) = (m.applyAll ps).applyAll qs := by
  simp [Memory.applyAll]

theorem Memory.applyAll_nil (m : Memory) : m.applyAll [] = m := rfl

theorem Memory.applyAll_cons (m : Memory) (p : PendingWrite) (ps : List PendingWrite) :
    m.applyAll (p :: ps) = (m.apply p).applyAll ps := rfl

/-- What a write of one lane leaves in each cell. -/
theorem Memory.read_writeLane {m : Memory} (word : BitVec 30) (lanes : BitVec 4) (data : Word) (lane cell : Nat)
    (h : m.wf = true) :
    (m.writeLane word lanes data lane).read cell =
      if lanes.getLsbD lane ∧ cell = cellOf word lane then data.extractLsb' (8 * lane) 8 else m.read cell := by
  simp only [Memory.writeLane]
  split
  · rw [Memory.read_write _ _ _ h]
    simp_all
  · simp_all

/-- What a write of the driven lanes of a word leaves in each cell. -/
theorem Memory.read_writeLanes {m : Memory} (word : BitVec 30) (lanes : BitVec 4) (data : Word) (cell : Nat)
    (h : m.wf = true) :
    (m.writeLanes word lanes data).read cell =
      if cell / 4 = word.toNat ∧ lanes.getLsbD (cell % 4) then data.extractLsb' (8 * (cell % 4)) 8 else m.read cell := by
  have w0 := Memory.wf_writeLane word lanes data (lane := 0) h (by decide)
  have w1 := Memory.wf_writeLane word lanes data (lane := 1) w0 (by decide)
  have w2 := Memory.wf_writeLane word lanes data (lane := 2) w1 (by decide)
  simp only [Memory.writeLanes]
  rw [Memory.read_writeLane _ _ _ _ _ w2, Memory.read_writeLane _ _ _ _ _ w1, Memory.read_writeLane _ _ _ _ _ w0,
    Memory.read_writeLane _ _ _ _ _ h]
  simp only [cellOf]
  by_cases hw : cell / 4 = word.toNat
  · obtain hc | hc | hc | hc : cell % 4 = 0 ∨ cell % 4 = 1 ∨ cell % 4 = 2 ∨ cell % 4 = 3 := by omega
    · have e : cell = 4 * word.toNat + 0 := by omega
      subst e
      simp +arith
    · have e : cell = 4 * word.toNat + 1 := by omega
      subst e
      simp +arith
      simp [Nat.add_div]
    · have e : cell = 4 * word.toNat + 2 := by omega
      subst e
      simp +arith
      simp [Nat.add_div]
    · have e : cell = 4 * word.toNat + 3 := by omega
      subst e
      simp +arith
      simp [Nat.add_div]
  · have h0 : cell ≠ 4 * word.toNat + 0 := by omega
    have h1 : cell ≠ 4 * word.toNat + 1 := by omega
    have h2 : cell ≠ 4 * word.toNat + 2 := by omega
    have h3 : cell ≠ 4 * word.toNat + 3 := by omega
    simp_all

/-- A byte reads the same after pending writes have gone to two memories in which it reads the same. -/
theorem Memory.read_applyAll_congr {m m' : Memory} (ps : List PendingWrite) {cell : Nat} (h : m.wf = true)
    (h' : m'.wf = true) (e : m.read cell = m'.read cell) : (m.applyAll ps).read cell = (m'.applyAll ps).read cell := by
  induction ps generalizing m m' with
  | nil => exact e
  | cons p ps ih =>
    refine ih (Memory.wf_apply p h) (Memory.wf_apply p h') ?_
    simp only [Memory.apply, Memory.read_writeLanes _ _ _ _ h, Memory.read_writeLanes _ _ _ _ h', e]

/-- Letting old writes go does not change what memory holds once all of them have gone. -/
theorem fitBuffers_settled (m : Memory) (ps : List PendingWrite) :
    (fitBuffers m ps).1.applyAll (fitBuffers m ps).2 = m.applyAll ps := by
  induction ps generalizing m with
  | nil => rfl
  | cons p ps ih =>
    simp only [fitBuffers]
    split
    · rfl
    · exact ih _

theorem fitBuffers_wf {m : Memory} (ps : List PendingWrite) (h : m.wf = true) : (fitBuffers m ps).1.wf = true := by
  induction ps generalizing m with
  | nil => exact h
  | cons p ps ih =>
    simp only [fitBuffers]
    split
    · exact h
    · exact ih (Memory.wf_apply p h)

/-- Queued writes are part of what memory holds once they have gone. -/
theorem MemSys.pushBus_settled (ms : MemSys) (ps : List PendingWrite) :
    (ms.pushBus ps).settledMem = ms.settledMem.applyAll ps := by
  simp only [MemSys.settledMem, MemSys.pushBus, fitBuffers_settled, Memory.applyAll_append]

@[simp] theorem MemSys.drainBus_settled (ms : MemSys) : ms.drainBus.settledMem = ms.settledMem := rfl

@[simp] theorem MemSys.spend_settled (ms : MemSys) (n : Nat) : (ms.spend n).settledMem = ms.settledMem := rfl

theorem MemSys.drainSome_settled (k : Ctx) (ms : MemSys) : (ms.drainSome k).settledMem = ms.settledMem := by
  simp only [MemSys.drainSome]
  split
  · rfl
  · simp only [MemSys.settledMem, ← Memory.applyAll_append, List.take_append_drop]

/-- The three memories of a system in canonical form. -/
theorem MemSys.wf_iff (ms : MemSys) : ms.wf = true ↔ ms.mem.wf = true ∧ ms.itcm.wf = true ∧ ms.dtcm.wf = true := by
  simp [MemSys.wf, and_assoc]

/-- Memory systems with the same three memories are alike in their canonical form. -/
theorem MemSys.wf_congr {a b : MemSys} (h1 : a.mem = b.mem) (h2 : a.itcm = b.itcm) (h3 : a.dtcm = b.dtcm) :
    a.wf = b.wf := by
  simp [MemSys.wf, h1, h2, h3]

theorem MemSys.wf_settled {ms : MemSys} (h : ms.wf = true) :
    ms.settledMem.wf = true ∧ ms.settledItcm.wf = true ∧ ms.settledDtcm.wf = true := by
  obtain ⟨h1, h2, h3⟩ := (MemSys.wf_iff ms).1 h
  exact ⟨Memory.wf_applyAll _ h1, Memory.wf_applyAll _ h2, Memory.wf_applyAll _ h3⟩

@[simp] theorem MemSys.wf_spend (ms : MemSys) (n : Nat) : (ms.spend n).wf = ms.wf := rfl

theorem MemSys.wf_drainBus {ms : MemSys} (h : ms.wf = true) : ms.drainBus.wf = true := by
  have hs := MemSys.wf_settled h
  have hw := (MemSys.wf_iff ms).1 h
  exact (MemSys.wf_iff _).2 ⟨hs.1, hw.2.1, hw.2.2⟩

theorem MemSys.wf_drainAll {ms : MemSys} (h : ms.wf = true) : ms.drainAll.wf = true :=
  (MemSys.wf_iff _).2 (MemSys.wf_settled h)

theorem MemSys.wf_pushBus {ms : MemSys} (ps : List PendingWrite) (h : ms.wf = true) : (ms.pushBus ps).wf = true := by
  obtain ⟨h1, h2, h3⟩ := (MemSys.wf_iff ms).1 h
  exact (MemSys.wf_iff _).2 ⟨fitBuffers_wf _ h1, h2, h3⟩

theorem MemSys.wf_pushDtcm {ms : MemSys} (p : PendingWrite) (h : ms.wf = true) : (ms.pushDtcm p).wf = true := by
  obtain ⟨h1, h2, h3⟩ := (MemSys.wf_iff ms).1 h
  exact (MemSys.wf_iff _).2 ⟨h1, h2, Memory.wf_applyAll _ h3⟩

theorem MemSys.wf_pushItcm {ms : MemSys} (p : PendingWrite) (h : ms.wf = true) : (ms.pushItcm p).wf = true := by
  obtain ⟨h1, h2, h3⟩ := (MemSys.wf_iff ms).1 h
  exact (MemSys.wf_iff _).2 ⟨h1, Memory.wf_applyAll _ h2, h3⟩

theorem MemSys.wf_drainSome (k : Ctx) {ms : MemSys} (h : ms.wf = true) : (ms.drainSome k).wf = true := by
  obtain ⟨h1, h2, h3⟩ := (MemSys.wf_iff ms).1 h
  simp only [MemSys.drainSome]
  split
  · exact h
  · exact (MemSys.wf_iff _).2 ⟨Memory.wf_applyAll _ h1, Memory.wf_applyAll _ h2, Memory.wf_applyAll _ h3⟩

/-- The eviction of a dirty line keeps the canonical form of the memories. -/
theorem MemSys.wf_evictSome {ms : MemSys} (h : ms.wf = true) : ms.evictSome.wf = true :=
  MemSys.wf_pushBus ((evictedNow ms).elim [] CacheLine.castouts) h

theorem evictTimes_wf (n : Nat) {ms : MemSys} (h : ms.wf = true) : (evictTimes n ms).wf = true := by
  induction n generalizing ms with
  | zero => exact h
  | succ n ih => exact ih (MemSys.wf_evictSome h)

theorem MemSys.wf_writeFromOutside {ms : MemSys} (store : Store) (word : BitVec 30) (lanes : BitVec 4) (data : Word)
    (h : ms.wf = true) : (ms.writeFromOutside store word lanes data).wf = true := by
  obtain ⟨h1, h2, h3⟩ := (MemSys.wf_iff ms).1 h
  cases store with
  | ahb => exact (MemSys.wf_iff _).2 ⟨Memory.wf_writeLanes _ _ _ h1, h2, h3⟩
  | itcm => exact (MemSys.wf_iff _).2 ⟨h1, Memory.wf_writeLanes _ _ _ h2, h3⟩
  | dtcm => exact (MemSys.wf_iff _).2 ⟨h1, h2, Memory.wf_writeLanes _ _ _ h3⟩

theorem MemSys.wf_written {ms : MemSys} (w : OutsideWrite) (h : ms.wf = true) : (ms.written w).wf = true :=
  MemSys.wf_writeFromOutside _ _ _ _ h

theorem MemSys.wf_unprompted (k : Ctx) {ms : MemSys} (h : ms.wf = true) : (ms.unprompted k).wf = true := by
  simp only [MemSys.unprompted]
  split
  · exact evictTimes_wf _ (MemSys.wf_drainSome _ h)
  · exact MemSys.wf_drainSome _ h

/-- A fold keeps what each of its steps keeps. -/
theorem foldl_keeps {α : Type} {P : MemSys → Prop} {f : MemSys → α → MemSys} (hf : ∀ ms w, P ms → P (f ms w)) (ws : List α)
    {ms : MemSys} (h : P ms) : P (ws.foldl f ms) := by
  induction ws generalizing ms with
  | nil => exact h
  | cons w ws ih => exact ih (hf ms w h)

/-- What may come before an access keeps the canonical form of the memories. -/
theorem MemSys.wf_meanwhile (k : Ctx) {ms : MemSys} (h : ms.wf = true) : (ms.meanwhile k).wf = true := by
  simp only [MemSys.meanwhile]
  split
  · split
    · exact h
    · exact MemSys.wf_unprompted k h
  · split
    · exact foldl_keeps (P := fun ms => ms.wf = true) (fun _ w => MemSys.wf_written w) _ h
    · exact foldl_keeps (P := fun ms => ms.wf = true) (fun _ w h => MemSys.wf_unprompted k (MemSys.wf_written w h)) _
        (MemSys.wf_unprompted k (ms := { ms with outside := _ }) h)

/-- From one memory system to another every byte but those that others write reads the same, pending writes included, and nothing
else differs but how many writes wait, what other agents are still to write, and how many values were drawn. -/
def keepsBytes (others : Bool → Nat → Bool) (a b : MemSys) : Prop :=
  b = { a with mem := b.mem, wbuf := b.wbuf, itcm := b.itcm, itcmWb := b.itcmWb, dtcm := b.dtcm, dtcmWb := b.dtcmWb,
               outside := b.outside, draws := b.draws } ∧
    b.settledItcm = a.settledItcm ∧
    (∀ cell, others true cell = false → b.settledDtcm.read cell = a.settledDtcm.read cell) ∧
    ∀ cell, others false cell = false → b.settledMem.read cell = a.settledMem.read cell

theorem keepsBytes.refl (others : Bool → Nat → Bool) (ms : MemSys) : keepsBytes others ms ms :=
  ⟨rfl, rfl, fun _ _ => rfl, fun _ _ => rfl⟩

theorem keepsBytes.trans {others : Bool → Nat → Bool} {a b c : MemSys} (h : keepsBytes others a b) (g : keepsBytes others b c) :
    keepsBytes others a c := by
  obtain ⟨h1, h2, h3, h4⟩ := h
  obtain ⟨g1, g2, g3, g4⟩ := g
  exact ⟨by rw [g1, h1], g2.trans h2, fun c hc => (g3 c hc).trans (h3 c hc), fun c hc => (g4 c hc).trans (h4 c hc)⟩

theorem keepsBytes.dcache {others : Bool → Nat → Bool} {a b : MemSys} (h : keepsBytes others a b) : b.dcache = a.dcache := by
  rw [h.1]

/-- Draining changes no byte that memory holds, pending writes included, and nothing else. -/
theorem MemSys.drainSome_keepsBytes (others : Bool → Nat → Bool) (k : Ctx) (ms : MemSys) :
    keepsBytes others ms (ms.drainSome k) := by
  refine ⟨?_, ?_, fun cell _ => ?_, fun cell _ => by rw [MemSys.drainSome_settled]⟩
  · simp only [MemSys.drainSome]
    split <;> rfl
  · simp only [MemSys.settledItcm, MemSys.drainSome]
    split
    · rfl
    · rw [← Memory.applyAll_append, List.take_append_drop]
  · simp only [MemSys.settledDtcm, MemSys.drainSome]
    split
    · rfl
    · rw [← Memory.applyAll_append, List.take_append_drop]

/-- Without a dirty line the hardware evicts none. -/
theorem MemSys.evictAny_clean {ms : MemSys} (h : ∀ l ∈ ms.dcache, l.dirty = false) : ms.evictAny = ms := by
  have : ms.dcache.filter CacheLine.dirty = [] := by
    rw [List.filter_eq_nil_iff]
    exact fun l hl => by simp [h l hl]
  simp [MemSys.evictAny, this, evictTimes]

/-- Where it has no line to evict, none being dirty or the DCache disabled, the hardware by itself changes no byte. -/
theorem MemSys.unprompted_keepsBytes (others : Bool → Nat → Bool) {k : Ctx} {ms : MemSys}
    (h : k.cp15.ctrl.c = false ∨ ∀ l ∈ ms.dcache, l.dirty = false) : keepsBytes others ms (ms.unprompted k) := by
  have hd := MemSys.drainSome_keepsBytes others k ms
  simp only [MemSys.unprompted]
  split
  · next hc =>
    rcases h with h | h
    · simp [h] at hc
    · rw [MemSys.evictAny_clean (by rw [hd.dcache]; exact h)]
      exact hd
  · exact hd

/-- The write drives the byte in a cell. -/
def OutsideWrite.drives (w : OutsideWrite) (toDtcm : Bool) (cell : Nat) : Bool :=
  w.toDtcm == toDtcm && w.word.toNat == cell / 4 && w.lanes.getLsbD (cell % 4)

/-- Another agent's write changes the bytes that it drives alone. -/
theorem MemSys.written_keepsBytes {others : Bool → Nat → Bool} {ms : MemSys} {w : OutsideWrite} (hw : ms.wf = true)
    (h : ∀ t cell, others t cell = false → w.drives t cell = false) : keepsBytes others ms (ms.written w) := by
  obtain ⟨h1, h2, h3⟩ := (MemSys.wf_iff ms).1 hw
  have other {m : Memory} (hm : m.wf = true) {cell : Nat} (hc : w.drives w.toDtcm cell = false) :
      (m.writeLanes w.word w.lanes w.data).read cell = m.read cell := by
    rw [Memory.read_writeLanes _ _ _ _ hm, if_neg]
    rintro ⟨e, f⟩
    simp [OutsideWrite.drives, e, f] at hc
  obtain ⟨toDtcm, word, lanes, data⟩ := w
  cases toDtcm with
  | true =>
    exact ⟨rfl, rfl, fun cell hc =>
      Memory.read_applyAll_congr ms.dtcmWb (Memory.wf_writeLanes _ _ _ h3) h3 (other h3 (h _ _ hc)), fun _ _ => rfl⟩
  | false =>
    exact ⟨rfl, rfl, fun _ _ => rfl, fun cell hc =>
      Memory.read_applyAll_congr ms.wbuf (Memory.wf_writeLanes _ _ _ h1) h1 (other h1 (h _ _ hc))⟩

/-- A fold of steps each of which changes what others may write alone does so as a whole. -/
theorem foldl_keepsBytes {others : Bool → Nat → Bool} {P : MemSys → Prop} {f : MemSys → OutsideWrite → MemSys}
    (ws : List OutsideWrite) (hf : ∀ ms, ∀ w ∈ ws, P ms → P (f ms w) ∧ keepsBytes others ms (f ms w)) {ms : MemSys} (h : P ms) :
    keepsBytes others ms (ws.foldl f ms) := by
  induction ws generalizing ms with
  | nil => exact keepsBytes.refl others ms
  | cons w ws ih =>
    obtain ⟨hp, hk⟩ := hf ms w (by simp) h
    exact hk.trans (ih (fun ms v hv => hf ms v (by simp [hv])) hp)

theorem MemSys.drainSome_outside (k : Ctx) (ms : MemSys) : (ms.drainSome k).outside = ms.outside := by
  simp only [MemSys.drainSome]
  split <;> rfl

theorem evictTimes_outside (n : Nat) (ms : MemSys) : (evictTimes n ms).outside = ms.outside := by
  induction n generalizing ms with
  | zero => rfl
  | succ n ih => exact ih _

@[simp] theorem MemSys.unprompted_outside (k : Ctx) (ms : MemSys) : (ms.unprompted k).outside = ms.outside := by
  simp only [MemSys.unprompted, MemSys.evictAny]
  split
  · rw [evictTimes_outside, MemSys.drainSome_outside]
  · exact MemSys.drainSome_outside _ ms

@[simp] theorem MemSys.written_outside (ms : MemSys) (w : OutsideWrite) : (ms.written w).outside = ms.outside := by
  obtain ⟨toDtcm, _, _, _⟩ := w
  cases toDtcm <;> rfl

/-- What other agents are still to write after an access is part of what they were to write before it. -/
theorem MemSys.meanwhile_outside (k : Ctx) (ms : MemSys) :
    (ms.meanwhile k).outside.flatten.Sublist ms.outside.flatten := by
  have fold {f : MemSys → OutsideWrite → MemSys} (hf : ∀ ms w, (f ms w).outside = ms.outside) (ws : List OutsideWrite)
      (ms : MemSys) : (ws.foldl f ms).outside = ms.outside :=
    foldl_keeps (P := fun m => m.outside = ms.outside) (fun m w h => (hf m w).trans h) ws rfl
  simp only [MemSys.meanwhile]
  split
  · next h => split <;> simp [h]
  · next now later h =>
    rw [h]
    split
    · rw [fold MemSys.written_outside]
      exact List.Sublist.append_right List.filter_sublist _
    · rw [fold (fun m w => by simp)]
      simp

/-- What may come before an access changes no byte that memory holds, pending writes included, but those that other agents write,
where the hardware has no line to evict: none is dirty, or the DCache is disabled. -/
theorem MemSys.meanwhile_sameBytes {k : Ctx} {ms : MemSys} (hw : ms.wf = true)
    (h : k.cp15.ctrl.c = false ∨ ∀ l ∈ ms.dcache, l.dirty = false) : sameBytes ms (ms.meanwhile k) := by
  suffices hk : keepsBytes ms.othersWrite ms (ms.meanwhile k) from
    ⟨⟨hk.1, hk.2.1, hk.2.2.1, MemSys.meanwhile_outside k ms⟩, hk.2.2.2⟩
  let P (m : MemSys) : Prop := m.wf = true ∧ m.dcache = ms.dcache
  simp only [MemSys.meanwhile]
  split
  · split
    · exact keepsBytes.refl _ ms
    · exact MemSys.unprompted_keepsBytes _ h
  · next now later ho =>
    have drives {w : OutsideWrite} (hm : w ∈ now) (t : Bool) (cell : Nat) (hn : ms.othersWrite t cell = false) :
        w.drives t cell = false := by
      simp only [MemSys.othersWrite, ho, List.any_cons, Bool.or_eq_false_iff, List.any_eq_false] at hn
      exact Bool.eq_false_iff.2 (hn.1 w hm)
    have write {m : MemSys} {w : OutsideWrite} (hm : w ∈ now) (hp : P m) :
        P (m.written w) ∧ keepsBytes ms.othersWrite m (m.written w) :=
      have hk := MemSys.written_keepsBytes hp.1 (drives hm)
      ⟨⟨MemSys.wf_written w hp.1, hk.dcache.trans hp.2⟩, hk⟩
    have own {m : MemSys} (hp : P m) : P (m.unprompted k) ∧ keepsBytes ms.othersWrite m (m.unprompted k) :=
      have hk := MemSys.unprompted_keepsBytes ms.othersWrite (k := k) (ms := m) (by rw [hp.2]; exact h)
      ⟨⟨MemSys.wf_unprompted k hp.1, hk.dcache.trans hp.2⟩, hk⟩
    have popped (l : List (List OutsideWrite)) :
        P { ms with outside := l } ∧ keepsBytes ms.othersWrite ms { ms with outside := l } :=
      ⟨⟨hw, rfl⟩, rfl, rfl, fun _ _ => rfl, fun _ _ => rfl⟩
    split
    · exact (popped _).2.trans
        (foldl_keepsBytes _ (fun m w hm hp => write (List.mem_of_mem_filter hm) hp) (popped _).1)
    · obtain ⟨hp, hk⟩ := own (popped later).1
      exact ((popped later).2.trans hk).trans (foldl_keepsBytes (P := P)
        (f := fun m w => (m.written w).unprompted k) now (fun m w hm hp =>
        have hw := write hm hp
        have ho := own hw.1
        ⟨ho.1, hw.2.trans ho.2⟩) hp)

/-- With nothing buffered, no dirty line and nothing that another agent is to write, nothing comes before an access. -/
theorem MemSys.meanwhile_idle {k : Ctx} {ms : MemSys} (hw : ms.wbuf = []) (hi : ms.itcmWb = []) (hd : ms.dtcmWb = [])
    (hc : ∀ l ∈ ms.dcache, l.dirty = false) (ho : ms.outside = []) : ms.meanwhile k = ms := by
  have hs : ms.drainSome k = ms := by simp only [MemSys.drainSome, hw, hi, hd, and_self, if_true]
  simp only [MemSys.meanwhile, ho, MemSys.unprompted, hs, MemSys.evictAny_clean hc, ite_self]

end Sys2Proof.Machine
end

