-- ==== Sys2Proof/Laws/Access.lean ====
section
/-! SUPPORT. What each shared memory operation can leave behind: the memories stay in canonical form whatever the access
answers. -/

namespace Sys2Proof.Machine

/-- The memory system an access leaves, when it leaves one, has a property. -/
def Access.leaves {α : Type} (P : MemSys → Prop) : Access α → Prop
  | .ok _ ms => P ms
  | .abort _ ms => P ms
  | .stop _ => True

/-- The canonical form as a property of a memory system. -/
def MemSys.Wf (ms : MemSys) : Prop := ms.wf = true

theorem Access.leaves_mono {α : Type} {P Q : MemSys → Prop} {a : Access α} (h : a.leaves P) (g : ∀ ms, P ms → Q ms) :
    a.leaves Q := by
  cases a with
  | ok _ ms => exact g _ h
  | abort _ ms => exact g _ h
  | stop _ => trivial

/-- What the hardware does by itself keeps the canonical form of the memories. -/
theorem meanwhile_wf (k : Ctx) {ms : MemSys} (h : ms.Wf) : (ms.meanwhile k).Wf := MemSys.wf_meanwhile k h

theorem install_wf (k : Ctx) (kind : AccessKind) (place : BitVec 6) (e : TlbEntry) {ms : MemSys} (h : ms.Wf) :
    (install k kind place e ms).Wf := by
  simp only [install]
  split
  · exact h
  · split <;> exact h

theorem speculate_wf (k : Ctx) (mva choice : Word) {ms : MemSys} (h : ms.Wf) : (speculate k ms mva choice).Wf :=
  meanwhile_wf k h

/-- What the environment does to the TLB keeps the canonical form of the memories. -/
theorem churn_wf (k : Ctx) {ms : MemSys} (h : ms.Wf) : (churn k ms).Wf :=
  speculate_wf k _ _ (show MemSys.Wf _ from h)

theorem useEntry_leaves {P : MemSys → Prop} (k : Ctx) (kind : AccessKind) (mva : Word) (e : TlbEntry) {ms : MemSys}
    (h : P ms) : (useEntry k kind mva e ms).leaves P := by
  simp only [useEntry]
  split
  · exact h
  · exact h
  · trivial

theorem missEntry_leaves (k : Ctx) (kind : AccessKind) (mva : Word) {ms : MemSys} (h : ms.Wf) :
    (missEntry k kind mva ms).leaves MemSys.Wf := by
  have hl : ((ms.spend 1).meanwhile k).Wf := meanwhile_wf k (show MemSys.Wf _ from h)
  simp only [missEntry]
  split
  · exact h
  · split
    · exact h
    · split
      · trivial
      · exact hl
      · exact useEntry_leaves _ _ _ _ (install_wf _ _ _ _ (meanwhile_wf k hl))

/-- A translation keeps the canonical form of the memories. -/
theorem translate_leaves (k : Ctx) (kind : AccessKind) (mva : Word) {ms : MemSys} (h : ms.Wf) :
    (translate k kind mva ms).leaves MemSys.Wf := by
  simp only [translate]
  split
  · trivial
  · split
    · trivial
    · exact useEntry_leaves _ _ _ _ (churn_wf _ h)
    · exact missEntry_leaves _ _ _ (churn_wf _ h)

theorem dataTranslate_leaves (k : Ctx) (kind : AccessKind) (mva : Word) {ms : MemSys} (h : ms.Wf) :
    (dataTranslate k kind mva ms).leaves MemSys.Wf := by
  simp only [dataTranslate]
  split
  · trivial
  · split
    · exact translate_leaves _ _ _ h
    · exact h

theorem fillDCache_wf (k : Ctx) (mva pa : Word) {ms : MemSys} (h : ms.Wf) : (fillDCache k mva pa ms).Wf := by
  have h0 : (if ms.pendingLine (lineAddr pa) then ms.drainBus else ms).Wf := by
    split
    · exact MemSys.wf_drainBus h
    · exact h
  simp only [fillDCache]
  split
  · exact h0
  · exact MemSys.wf_pushBus _ h0

theorem readDCache_leaves (k : Ctx) (mva pa : Word) {ms : MemSys} (h : ms.Wf) :
    (readDCache k mva pa ms).leaves MemSys.Wf := by
  simp only [readDCache]
  split
  · trivial
  · split
    · exact h
    · exact fillDCache_wf _ _ _ h

theorem writeDCache_leaves (k : Ctx) (back : Bool) (mva pa : Word) (lanes : BitVec 4) (data : Word) {ms : MemSys}
    (h : ms.Wf) : (writeDCache k back mva pa lanes data ms).leaves MemSys.Wf := by
  simp only [writeDCache]
  split
  · trivial
  · split
    · exact MemSys.wf_pushBus _ h
    · split
      · exact h
      · exact MemSys.wf_pushBus _ (show MemSys.wf _ = true from h)

theorem beforeBusRead_wf (typ : RegionType) (pa : Word) {ms : MemSys} (h : ms.Wf) : (beforeBusRead typ pa ms).Wf := by
  simp only [beforeBusRead]
  split
  · exact MemSys.wf_drainBus h
  · exact h

theorem readBus_leaves (k : Ctx) (typ : RegionType) (mva pa : Word) {ms : MemSys} (h : ms.Wf) :
    (readBus k typ mva pa ms).leaves MemSys.Wf := by
  simp only [readBus]
  split
  · exact beforeBusRead_wf _ _ h
  · exact beforeBusRead_wf _ _ h

theorem writeBus_leaves (k : Ctx) (typ : RegionType) (mva pa : Word) (lanes : BitVec 4) (data : Word) {ms : MemSys}
    (h : ms.Wf) : (writeBus k typ mva pa lanes data ms).leaves MemSys.Wf := by
  simp only [writeBus]
  split
  · split
    · exact MemSys.wf_drainBus h
    · obtain ⟨h1, h2, h3⟩ := (MemSys.wf_iff _).1 (MemSys.wf_drainBus h)
      exact (MemSys.wf_iff _).2 ⟨Memory.wf_writeLanes _ _ _ h1, h2, h3⟩
  · exact MemSys.wf_pushBus _ h

theorem readAt_leaves (k : Ctx) (locked : Bool) (mva : Word) (t : Translated) {ms : MemSys} (h : ms.Wf) :
    (readAt k locked mva t ms).leaves MemSys.Wf := by
  simp only [readAt]
  split
  · split
    · exact h
    · trivial
  · split
    · exact h
    · trivial
  · exact readDCache_leaves _ _ _ h
  · exact readBus_leaves _ _ _ _ h

theorem writeAt_leaves (k : Ctx) (locked : Bool) (mva : Word) (t : Translated) (lanes : BitVec 4) (data : Word)
    {ms : MemSys} (h : ms.Wf) : (writeAt k locked mva t lanes data ms).leaves MemSys.Wf := by
  simp only [writeAt]
  split
  · split
    · exact MemSys.wf_pushDtcm _ h
    · trivial
  · split
    · exact MemSys.wf_pushItcm _ h
    · trivial
  · exact writeDCache_leaves _ _ _ _ _ _ h
  · exact writeBus_leaves _ _ _ _ _ _ h

/-- A data read keeps the canonical form of the memories. -/
theorem dataRead_leaves (k : Ctx) (locked : Bool) (va : Word) {ms : MemSys} (h : ms.Wf) :
    (dataRead k locked va ms).leaves MemSys.Wf := by
  have ht := dataTranslate_leaves k .read (fcse k.cp15 va) (meanwhile_wf k h)
  simp only [dataRead]
  split
  · rename_i heq
    rw [heq] at ht
    exact readAt_leaves _ _ _ _ ht
  · rename_i heq
    rw [heq] at ht
    exact ht
  · trivial

/-- A data write keeps the canonical form of the memories. -/
theorem dataWrite_leaves (k : Ctx) (locked : Bool) (va : Word) (lanes : BitVec 4) (data : Word) {ms : MemSys} (h : ms.Wf) :
    (dataWrite k locked va lanes data ms).leaves MemSys.Wf := by
  have ht := dataTranslate_leaves k .write (fcse k.cp15 va) (meanwhile_wf k h)
  simp only [dataWrite]
  split
  · rename_i heq
    rw [heq] at ht
    exact writeAt_leaves _ _ _ _ _ _ ht
  · rename_i heq
    rw [heq] at ht
    exact ht
  · trivial

/-- A locked swap keeps the canonical form of the memories. -/
theorem swapAccess_leaves (k : Ctx) (va : Word) (lanes : BitVec 4) (data : Word) {ms : MemSys} (h : ms.Wf) :
    (swapAccess k va lanes data ms).leaves MemSys.Wf := by
  have hr := dataRead_leaves k true va h
  simp only [swapAccess]
  split
  · trivial
  · rename_i ms' heq
    rw [heq] at hr
    have hw := dataWrite_leaves { k with held := holdsBus k va ms } true va lanes data (ms := ms') hr
    split
    all_goals first | trivial | (rename_i g; rw [g] at hw; exact hw)
  · rename_i ms' heq
    rw [heq] at hr
    have hw := dataWrite_leaves { k with held := holdsBus k va ms } true va lanes data (ms := ms') hr
    split
    · split
      all_goals first | trivial | (rename_i g; rw [g] at hw; exact hw)
    · exact hr

/-- Reading several words keeps the canonical form of the memories. -/
theorem readWords_wf (k : Ctx) {as : List Word} {ms : MemSys} {out : ReadMany} (h : ms.Wf)
    (hr : readWords k as ms = .ok out) : out.ms.Wf := by
  induction as generalizing ms out with
  | nil =>
    simp only [readWords, Except.ok.injEq] at hr
    subst hr
    exact h
  | cons a as ih =>
    have hd := dataRead_leaves k false a h
    simp only [readWords] at hr
    split at hr
    · exact absurd hr (by simp)
    · rename_i heq
      rw [heq] at hd
      simp only [Except.ok.injEq] at hr
      subst hr
      exact hd
    · rename_i heq
      rw [heq] at hd
      split at hr
      · exact absurd hr (by simp)
      · rename_i g
        simp only [Except.ok.injEq] at hr
        subst hr
        have := ih hd g
        exact this

theorem writeRest_wf (k : Ctx) {ws : List (Word × Word)} {ms ms' : MemSys} (h : ms.Wf)
    (hr : writeRest k ws ms = .ok ms') : ms'.Wf := by
  induction ws generalizing ms ms' with
  | nil =>
    simp only [writeRest, Except.ok.injEq] at hr
    subst hr
    exact h
  | cons p ws ih =>
    obtain ⟨a, v⟩ := p
    have hd := dataWrite_leaves k false a 15#4 v (ms := ms.spend 1) h
    simp only [writeRest] at hr
    split at hr
    · split at hr
      · exact absurd hr (by simp)
      · rename_i heq
        rw [heq] at hd
        exact ih hd hr
      · rename_i heq
        rw [heq] at hd
        exact ih hd hr
    · exact ih (ms := ms.spend 1) h hr

/-- Writing several words keeps the canonical form of the memories. -/
theorem writeWords_wf (k : Ctx) {ws : List (Word × Word)} {ms : MemSys} {out : WriteMany} (h : ms.Wf)
    (hr : writeWords k ws ms = .ok out) : out.ms.Wf := by
  induction ws generalizing ms out with
  | nil =>
    simp only [writeWords, Except.ok.injEq] at hr
    subst hr
    exact h
  | cons p ws ih =>
    obtain ⟨a, v⟩ := p
    have hd := dataWrite_leaves k false a 15#4 v h
    simp only [writeWords] at hr
    split at hr
    · exact absurd hr (by simp)
    · rename_i heq
      rw [heq] at hd
      exact ih hd hr
    · rename_i heq
      rw [heq] at hd
      split at hr
      · split at hr
        · exact absurd hr (by simp)
        · rename_i g
          simp only [Except.ok.injEq] at hr
          subst hr
          exact writeRest_wf k hd g
      · simp only [Except.ok.injEq] at hr
        subst hr
        exact hd

theorem fillICache_wf (k : Ctx) (mva pa : Word) {ms : MemSys} (h : ms.Wf) : (fillICache k mva pa ms).Wf := by
  simp only [fillICache]
  split <;> exact h

theorem fetchICache_wf (k : Ctx) (mva pa : Word) {ms : MemSys} (h : ms.Wf) : (fetchICache k mva pa ms).ms.Wf := by
  simp only [fetchICache]
  split
  · exact h
  · split
    · exact h
    · exact fillICache_wf _ _ _ h

theorem fetchRouted_wf (k : Ctx) (mmuOn : Bool) (mva : Word) (t : Translated) {ms : MemSys} (h : ms.Wf) :
    (fetchRouted k mmuOn mva t ms).ms.Wf := by
  unfold fetchRouted
  generalize fetchRoute k (fetchType k mmuOn t) t.pa = r
  cases r with
  | itcm _ => exact h
  | cache => exact fetchICache_wf _ _ _ h
  | bus => exact h
  | dtcm _ => exact h

/-- What a refused translation leaves is in canonical form. -/
theorem afterRefusal_wf (k : Ctx) {ms : MemSys} (h : ms.Wf) : (afterRefusal k ms).Wf := by
  unfold afterRefusal
  split
  · exact meanwhile_wf k (churn_wf k h)
  · exact h

theorem MemSys.draws_le_evictTimes (n : Nat) (ms : MemSys) : ms.draws ≤ (evictTimes n ms).draws := by
  induction n generalizing ms with
  | zero => exact Nat.le_refl _
  | succ n ih => exact Nat.le_trans (Nat.le_succ _) (ih ms.evictSome)

theorem MemSys.draws_le_unprompted (k : Ctx) (ms : MemSys) : ms.draws ≤ (ms.unprompted k).draws := by
  have hd : ms.draws ≤ (ms.drainSome k).draws := by
    unfold MemSys.drainSome
    split
    · exact Nat.le_refl _
    · exact Nat.le_add_right _ _
  unfold MemSys.unprompted
  split
  · exact Nat.le_trans hd (draws_le_evictTimes _ _)
  · exact hd

theorem MemSys.draws_written (ms : MemSys) (w : OutsideWrite) : (ms.written w).draws = ms.draws := by
  unfold MemSys.written MemSys.writeFromOutside
  split <;> rfl

/-- What the hardware and other agents do by themselves takes no value twice. -/
theorem MemSys.draws_le_meanwhile (k : Ctx) (ms : MemSys) : ms.draws ≤ (ms.meanwhile k).draws := by
  have held (l : List OutsideWrite) (m : MemSys) : (l.foldl MemSys.written m).draws = m.draws := by
    induction l generalizing m with
    | nil => rfl
    | cons w l ih => exact (ih (m.written w)).trans (m.draws_written w)
  have free (l : List OutsideWrite) (m : MemSys) : m.draws ≤ (l.foldl (fun m w => (m.written w).unprompted k) m).draws := by
    induction l generalizing m with
    | nil => exact Nat.le_refl _
    | cons w l ih =>
      exact Nat.le_trans (m.draws_written w ▸ draws_le_unprompted k (m.written w)) (ih ((m.written w).unprompted k))
  unfold MemSys.meanwhile
  split
  · split
    · exact Nat.le_refl _
    · exact draws_le_unprompted _ _
  · next now later _ =>
    split
    · rw [held]
    · exact Nat.le_trans (draws_le_unprompted k { ms with outside := later }) (free now _)

/-- A refused translation uses up the values it drew: the four of the TLB hardware, that of its walk, and whatever the drains and
the evictions between them take. -/
theorem afterRefusal_draws (k : Ctx) (ms : MemSys) (h : k.pins.mmuRam = true) :
    ms.draws + 5 ≤ (afterRefusal k ms).draws := by
  have hc : ms.draws + 4 ≤ (churn k ms).draws :=
    Nat.le_trans (by simp only [MemSys.dropUnlocked, MemSys.spend]; omega)
      (((ms.dropUnlocked).spend 2).draws_le_meanwhile k)
  simp only [afterRefusal, h, if_true]
  exact Nat.le_trans (Nat.succ_le_succ hc) (((churn k ms).spend 1).draws_le_meanwhile k)

theorem fetchMapped_wf (k : Ctx) (mva : Word) {ms : MemSys} (h : ms.Wf) : (fetchMapped k mva ms).ms.Wf := by
  have ht := translate_leaves k .fetch mva h
  unfold fetchMapped
  generalize translate k .fetch mva ms = a at ht ⊢
  cases a with
  | ok t ms' => exact fetchRouted_wf _ _ _ _ ht
  | abort _ _ => exact ht
  | stop _ => exact afterRefusal_wf k h

/-- A fetch keeps the canonical form of the memories. -/
theorem fetchAt_wf (k : Ctx) (mmuOn : Bool) (mva : Word) {ms : MemSys} (h : ms.Wf) : (fetchAt k mmuOn mva ms).ms.Wf := by
  simp only [fetchAt]
  split
  · exact fetchMapped_wf _ _ h
  · exact fetchRouted_wf _ _ _ _ h

theorem fetchSlot_wf (k : Ctx) (va : Word) {ms : MemSys} (h : ms.Wf) : (fetchSlot k va ms).2.Wf :=
  fetchAt_wf _ _ _ (meanwhile_wf k h)

/-- Cleaning lines keeps the canonical form of the memories. -/
theorem cleanLines_wf (pick : CacheLine → Bool) {ms : MemSys} (h : ms.Wf) : (cleanLines pick ms).Wf :=
  MemSys.wf_pushBus _ h

theorem fillPipe_wf (k : Ctx) (n : Nat) (va : Word) (slots : List Slot) {ms : MemSys} (h : ms.Wf) :
    (fillPipe k n va slots ms).2.Wf := by
  induction n generalizing va slots ms with
  | zero => simpa only [fillPipe] using h
  | succ n ih =>
    cases slots with
    | nil =>
      simp only [fillPipe]
      exact ih _ _ (fetchSlot_wf _ _ h)
    | cons slot rest =>
      simp only [fillPipe]
      split
      · exact ih _ _ h
      · exact ih _ _ (fetchSlot_wf _ _ h)

end Sys2Proof.Machine
end

