-- ==== Sys2Proof/Laws/Ops.lean ====
section
/-! SUPPORT. What each shared operation of the meanings can do: for each, the cases in which it answers a next state, and that
state. -/

namespace Sys2Proof.Machine

/-- Conditional execution goes on as the body does, or advances the pc alone. -/
theorem State.conditionally_next {s t : State} {c : Cond} {body : State → Result}
    (h : s.conditionally c body = .next t) :
    (conditionPassed c s.cpu.cpsr = true ∧ body s = .next t) ∨ (conditionPassed c s.cpu.cpsr = false ∧ t = s.advance) := by
  simp only [State.conditionally] at h
  split at h
  · next hc => exact .inl ⟨hc, h⟩
  · next hc => exact .inr ⟨by simpa using hc, (Host.Outcome.next.inj h).symm⟩

theorem State.conditionally_passed {s : State} {c : Cond} {body : State → Result}
    (hc : conditionPassed c s.cpu.cpsr = true) : s.conditionally c body = body s := by
  simp only [State.conditionally, hc, if_true]

theorem State.conditionally_failed {s : State} {c : Cond} {body : State → Result}
    (hc : conditionPassed c s.cpu.cpsr = false) : s.conditionally c body = .next s.advance := by
  simp [State.conditionally, hc]

/-- A return from an exception goes on only in a mode with an SPSR that names a legal mode. -/
theorem returnFromException_next {v : Word} {s t : State} (h : returnFromException v s = .next t) :
    ∃ i, spsrIndex s.mode = some i ∧ legalMode (modeOf (s.cpu.spsr.get i)) = true ∧
      t = (s.setCpsr (s.cpu.spsr.get i)).branchTo (returnTarget (s.cpu.spsr.get i) v) := by
  simp only [returnFromException] at h
  split at h
  · cases h
  · next i hi =>
    split at h
    · next hl => exact ⟨i, hi, hl, (Host.Outcome.next.inj h).symm⟩
    · cases h

/-- What follows an access: it went on, or took the Data Abort. -/
theorem State.afterAccess_next {α : Type} {s t : State} {a : Access α} {go : α → State → Result}
    (h : s.afterAccess a go = .next t) :
    (∃ v ms, a = .ok v ms ∧ go v (s.withMs ms) = .next t) ∨
      (∃ i ms, a = .abort i ms ∧ t = takeDataAbort i (s.withMs ms)) := by
  cases a with
  | ok v ms => exact .inl ⟨v, ms, rfl, h⟩
  | abort i ms => exact .inr ⟨i, ms, rfl, (Host.Outcome.next.inj h).symm⟩
  | stop r => cases h

/-- What follows the reading of several words. -/
theorem State.afterReads_next {s t : State} {first : Word} {count : Nat} {r : Except Refusal ReadMany}
    {failed : List Word → State → State} {go : List Word → State → Result}
    (h : s.afterReads first count r failed go = .next t) :
    ∃ out, r = .ok out ∧
      ((out.failed = none ∧ go out.words (s.withMs out.ms) = .next t) ∨
        ∃ i va, out.failed = some (i, va) ∧
          t = takeDataAbort (multiAbort s.ctx first count i va) (failed out.words (s.withMs out.ms))) := by
  cases r with
  | error e => cases h
  | ok out =>
    refine ⟨out, rfl, ?_⟩
    simp only [State.afterReads] at h
    split at h
    · next hf => exact .inl ⟨hf, h⟩
    · next i va hf => exact .inr ⟨i, va, hf, (Host.Outcome.next.inj h).symm⟩

/-- What follows the writing of several words. -/
theorem State.afterWrites_next {s t : State} {first : Word} {count : Nat} {r : Except Refusal WriteMany}
    {failed : State → State} {go : State → Result} (h : s.afterWrites first count r failed go = .next t) :
    ∃ out, r = .ok out ∧
      ((out.failed = none ∧ go (s.withMs out.ms) = .next t) ∨
        ∃ i va, out.failed = some (i, va) ∧
          t = takeDataAbort (multiAbort s.ctx first count i va) (failed (s.withMs out.ms))) := by
  cases r with
  | error e => cases h
  | ok out =>
    refine ⟨out, rfl, ?_⟩
    simp only [State.afterWrites] at h
    split at h
    · next hf => exact .inl ⟨hf, h⟩
    · next i va hf => exact .inr ⟨i, va, hf, (Host.Outcome.next.inj h).symm⟩

/-- The alignment check of a word access. -/
theorem State.checkWord_next {s t : State} {va : Word} {go : State → Result} (h : s.checkWord va go = .next t) :
    (s.cp15.ctrl.a = true ∧ wordAligned va = false ∧ t = takeDataAbort (alignmentAbort s.cp15 va) s) ∨ go s = .next t := by
  simp only [State.checkWord] at h
  split at h
  · next hc => exact .inl ⟨hc.1, hc.2, (Host.Outcome.next.inj h).symm⟩
  · exact .inr h

/-- The alignment check of an access whose misaligned form is Unpredictable. -/
theorem State.checkStrict_next {s t : State} {aligned : Bool} {va : Word} {go : State → Result}
    (h : s.checkStrict aligned va go = .next t) :
    (aligned = true ∧ go s = .next t) ∨
      (aligned = false ∧ s.cp15.ctrl.a = true ∧ t = takeDataAbort (alignmentAbort s.cp15 va) s) := by
  cases aligned with
  | true => exact .inl ⟨rfl, h⟩
  | false =>
    simp only [State.checkStrict, Bool.false_eq_true, if_false] at h
    split at h
    · next ha => exact .inr ⟨rfl, ha, (Host.Outcome.next.inj h).symm⟩
    · cases h

theorem State.checkHalfMode_next {s t : State} {a : AddrMode} {go : State → Result}
    (h : s.checkHalfMode a go = .next t) : userForm a = false ∧ go s = .next t := by
  simp only [State.checkHalfMode] at h
  split at h
  · cases h
  · next hu => exact ⟨by simpa using hu, h⟩

theorem State.checkPair_next {s t : State} {rd : RegNum} {go : State → Result}
    (h : s.checkPair rd go = .next t) : rd.val % 2 = 0 ∧ go s = .next t := by
  simp only [State.checkPair] at h
  split at h
  · cases h
  · next hu => exact ⟨by omega, h⟩

/-- A CP15 access: the condition failed, the mode may not make it, or it was made. -/
theorem cp15Access_next {c : Cond} {s t : State} {body : State → Result} (h : cp15Access c s body = .next t) :
    (conditionPassed c s.cpu.cpsr = false ∧ t = s.advance) ∨
      (conditionPassed c s.cpu.cpsr = true ∧ s.privileged = false ∧ t = takeUndefined s) ∨
      (conditionPassed c s.cpu.cpsr = true ∧ s.privileged = true ∧ body s = .next t) := by
  rcases State.conditionally_next h with ⟨hc, h⟩ | ⟨hc, h⟩
  · split at h
    · next hp => exact .inr (.inr ⟨hc, hp, h⟩)
    · next hp => exact .inr (.inl ⟨hc, by simpa using hp, (Host.Outcome.next.inj h).symm⟩)
  · exact .inl ⟨hc, h⟩

theorem cp15Access_privileged {c : Cond} {s : State} {body : State → Result}
    (hc : conditionPassed c s.cpu.cpsr = true) (hp : s.privileged = true) : cp15Access c s body = body s := by
  simp [cp15Access, State.conditionally, hc, hp]

theorem cp15Access_user {c : Cond} {s : State} {body : State → Result}
    (hc : conditionPassed c s.cpu.cpsr = true) (hp : s.privileged = false) :
    cp15Access c s body = .next (takeUndefined s) := by
  simp [cp15Access, State.conditionally, hc, hp]

/-- A write of a CP15 register goes on only with a word that may be written. -/
theorem cp15Write_next {c : Cond} {rd : RegNum} {r : Reserved} {read : LastRead → List Word} {write : Word → State → State}
    {s t : State} (h : cp15Write c rd r read write s = .next t) :
    (conditionPassed c s.cpu.cpsr = false ∧ t = s.advance) ∨
      (conditionPassed c s.cpu.cpsr = true ∧ s.privileged = false ∧ t = takeUndefined s) ∨
      (conditionPassed c s.cpu.cpsr = true ∧ s.privileged = true ∧ mcrAllowed r (read s.lastRead) rd s = true ∧
        t = (write (mcrValue rd s) (mcrSpend rd s)).advance) := by
  rcases cp15Access_next h with h | h | ⟨hc, hp, h⟩
  · exact .inl h
  · exact .inr (.inl h)
  · refine .inr (.inr ⟨hc, hp, ?_⟩)
    split at h
    · next ha => exact ⟨ha, (Host.Outcome.next.inj h).symm⟩
    · cases h

/-- A write of the TCM regions goes on only with a word that may be written and regions that do not overlap. -/
theorem writeTcmRegions_next {read : LastRead → List Word} {f : Word → Cp15 → Cp15} {c : Cond} {rd : RegNum} {s t : State}
    (h : writeTcmRegions read f c rd s = .next t) :
    (conditionPassed c s.cpu.cpsr = false ∧ t = s.advance) ∨
      (conditionPassed c s.cpu.cpsr = true ∧ s.privileged = false ∧ t = takeUndefined s) ∨
      (conditionPassed c s.cpu.cpsr = true ∧ s.privileged = true ∧
        mcrAllowed reservedTcmRegion (read s.lastRead) rd s = true ∧
        tcmRegionsOverlap s.cfg (f (mcrValue rd s) s.cp15).itcm (f (mcrValue rd s) s.cp15).dtcm = false ∧
        t = ((mcrSpend rd s).withCp15 (f (mcrValue rd s) s.cp15)).advance) := by
  rcases cp15Access_next h with h | h | ⟨hc, hp, h⟩
  · exact .inl h
  · exact .inr (.inl h)
  · refine .inr (.inr ⟨hc, hp, ?_⟩)
    split at h
    · cases h
    · next ha =>
      dsimp only at h
      split at h
      · cases h
      · next ho => exact ⟨by simpa using ha, by simpa using ho, (Host.Outcome.next.inj h).symm⟩

/-- The handshake with an external coprocessor. -/
theorem handshake_next {cp : BitVec 4} {s t : State} {go : List Word → State → Result}
    (h : handshake cp s go = .next t) :
    cp ≠ 14#4 ∧
      ((coprocessorPresent s cp = false ∧ t = takeUndefined s) ∨
        (coprocessorPresent s cp = true ∧
          ((∃ later, cpReply s.cpAnswers = .waits later ∧ t = s.busyWaits later) ∨
            (∃ later, cpReply s.cpAnswers = .absent later ∧ t = takeUndefined (s.withAnswers later)) ∨
            ∃ words later, cpReply s.cpAnswers = .accepts words later ∧ go words (s.withAnswers later) = .next t))) := by
  simp only [handshake] at h
  split at h
  · cases h
  · next h14 =>
    refine ⟨h14, ?_⟩
    split at h
    · next hp =>
      refine .inr ⟨hp, ?_⟩
      split at h
      · next rest he => exact .inl ⟨rest, he, (Host.Outcome.next.inj h).symm⟩
      · next rest he => exact .inr (.inl ⟨rest, he, (Host.Outcome.next.inj h).symm⟩)
      · next ws rest he => exact .inr (.inr ⟨ws, rest, he, h⟩)
    · next hp => exact .inl ⟨by simpa using hp, (Host.Outcome.next.inj h).symm⟩

/-- MSR to the CPSR goes on only to a legal mode. -/
theorem writeCpsr_next {mask : BitVec 4} {v : Word} {s t : State} (h : writeCpsr mask v s = .next t) :
    legalMode (modeOf (replaceBits s.cpu.cpsr v (cpsrWriteBits s.privileged mask))) = true ∧
      t = (s.setCpsr (replaceBits s.cpu.cpsr v (cpsrWriteBits s.privileged mask))).advance := by
  simp only [writeCpsr] at h
  split at h
  · next hl => exact ⟨hl, (Host.Outcome.next.inj h).symm⟩
  · cases h

/-- A data-processing result is written: a return, a branch, or a register with the flags. -/
theorem dpWrite_next {setFlags : Bool} {rd : RegNum} {out : AluOut} {s t : State}
    (h : dpWrite setFlags rd out s = .next t) :
    (rd = 15 ∧ setFlags = true ∧ returnFromException out.value s = .next t) ∨
      (rd = 15 ∧ setFlags = false ∧ t = s.setReg 15 out.value) ∨
      (rd ≠ 15 ∧ t = ((s.setReg rd out.value).setCpsr
        (if setFlags then withAluFlags s.cpu.cpsr out else s.cpu.cpsr)).advance) := by
  simp only [dpWrite] at h
  split at h
  · next hc => exact .inl ⟨hc.1, hc.2, h⟩
  · next hc =>
    split at h
    · next hr => exact .inr (.inl ⟨hr, by simpa [hr] using hc, (Host.Outcome.next.inj h).symm⟩)
    · next hr => exact .inr (.inr ⟨hr, (Host.Outcome.next.inj h).symm⟩)

/-- What a step adds to an instruction that answers a next state. -/
theorem afterInstruction_next {s t : State} {slot : Slot} {r : Result} (h : afterInstruction s slot r = .next t) :
    ∃ u, r = .next u ∧ (t = u ∨ t = { u with pipe := slot :: u.pipe }) := by
  cases r with
  | next u =>
    refine ⟨u, rfl, ?_⟩
    simp only [afterInstruction] at h
    split at h
    · exact .inl (Host.Outcome.next.inj h).symm
    · split at h
      · cases h
      · split at h
        · exact .inr (Host.Outcome.next.inj h).symm
        · exact .inl (Host.Outcome.next.inj h).symm
  | fault e => cases h
  | refused e => cases h

/-- A fetched word that goes on is an instruction that does, a BKPT with debug disabled, or a word without a row whose condition
failed. -/
theorem runWord_next {w : Word} {s t : State} (h : runWord w s = .next t) :
    (∃ i, decode w = some i ∧ exec i s = .next t) ∨
      (decode w = none ∧
        ((isBreakpoint w = true ∧ s.cfg.dbgen = false ∧ t = takeException .prefetchAbort (s.cpu.pc + 4#32) s) ∨
          t = s.advance)) := by
  simp only [runWord] at h
  split at h
  · next i hi => exact .inl ⟨i, hi, h⟩
  · next hn =>
    refine .inr ⟨hn, ?_⟩
    split at h
    · next hb =>
      simp only [runBreakpoint] at h
      split at h
      · cases h
      · next hd => exact .inl ⟨hb, by simpa using hd, (Host.Outcome.next.inj h).symm⟩
    · split at h
      · rcases State.conditionally_next h with ⟨_, h⟩ | ⟨_, h⟩
        · cases h
        · exact .inr h
      · cases h

/-- One instruction: a Prefetch Abort, or the fetched word. -/
theorem runInstruction_next {s t : State} (h : runInstruction s = .next t) :
    (∃ a, fetchedResult s = .abort a ∧ t = takePrefetchAbort a s.prepared) ∨
      ∃ w u, fetchedResult s = .word w ∧ runWord w s.prepared = .next u ∧
        (t = u ∨ t = { u with pipe := (currentSlot s.ticked).1 :: u.pipe }) := by
  simp only [runInstruction] at h
  split at h
  · cases h
  · cases h
  · next a ha => exact .inl ⟨a, ha, (Host.Outcome.next.inj h).symm⟩
  · next w hw =>
    obtain ⟨u, hu, ht⟩ := afterInstruction_next h
    exact .inr ⟨w, u, hw, hu, ht⟩

/-- The instruction boundary: FIQ, IRQ, or an instruction in ARM state. -/
theorem runBoundary_next {s t : State} (h : runBoundary s = .next t) :
    (s.pins.nfiq = false ∧ fiqMasked s.cpu.cpsr = false ∧ t = takeException .fiq (s.cpu.pc + 4#32) s.abandoned) ∨
      (s.pins.nirq = false ∧ irqMasked s.cpu.cpsr = false ∧ t = takeException .irq (s.cpu.pc + 4#32) s.abandoned) ∨
      (thumbBit s.cpu.cpsr = false ∧ jazelleBit s.cpu.cpsr = false ∧ runInstruction s = .next t) := by
  simp only [runBoundary] at h
  split at h
  · next hf => exact .inl ⟨hf.1, hf.2, (Host.Outcome.next.inj h).symm⟩
  · split at h
    · next hi => exact .inr (.inl ⟨hi.1, hi.2, (Host.Outcome.next.inj h).symm⟩)
    · split at h
      · cases h
      · next ht =>
        split at h
        · cases h
        · next hj => exact .inr (.inr ⟨by simpa using ht, by simpa using hj, h⟩)

/-- One step after the debugger's turn: standby, a trace stall, or the instruction boundary. -/
theorem stepCore_next {s t : State} (h : stepCore s = .next t) : t = s ∨ t = s.awake ∨ runBoundary s.awake = .next t := by
  simp only [stepCore] at h
  split at h
  · cases h
  · split at h
    · exact .inl (Host.Outcome.next.inj h).symm
    · split at h
      · exact .inr (.inl (Host.Outcome.next.inj h).symm)
      · exact .inr (.inr h)

/-- One step after the inputs: the debugger's turn, then the rest. -/
theorem stepInside_next {s t : State} (h : stepInside s = .next t) :
    ∃ u, scanPhase s.cleared = .next u ∧ stepCore u = .next t := by
  simp only [stepInside] at h
  split at h
  · next u hu => exact ⟨u, hu, h⟩
  · cases h
  · cases h

/-- One step: DMA does not clash with the core, the inputs are taken, the rest follows. -/
theorem stepAll_next {s t : State} (h : stepAll s = .next t) :
    itcmClash s = false ∧ stepInside s.dmaChecked.absorb = .next t := by
  simp only [stepAll] at h
  split at h
  · cases h
  · next hc => exact ⟨by simpa using hc, h⟩

/-! What the boundary and the fetch leave as it was. -/

@[simp] theorem State.ticked_cpu (s : State) : s.ticked.cpu = s.cpu := rfl
@[simp] theorem State.ticked_cp15 (s : State) : s.ticked.cp15 = s.cp15 := rfl
@[simp] theorem State.ticked_pins (s : State) : s.ticked.pins = s.pins := rfl
@[simp] theorem State.ticked_cfg (s : State) : s.ticked.cfg = s.cfg := rfl
@[simp] theorem State.ticked_inputs (s : State) : s.ticked.inputs = s.inputs := rfl
@[simp] theorem State.ticked_scan (s : State) : s.ticked.scan = s.scan := rfl
@[simp] theorem State.ticked_cpAnswers (s : State) : s.ticked.cpAnswers = s.cpAnswers := rfl
@[simp] theorem State.ticked_lastRead (s : State) : s.ticked.lastRead = s.lastRead := rfl
@[simp] theorem State.ticked_cpPins (s : State) : s.ticked.cpPins = s.cpPins := rfl
@[simp] theorem State.ticked_cpOut (s : State) : s.ticked.cpOut = s.cpOut := rfl
@[simp] theorem State.prepared_cpu (s : State) : s.prepared.cpu = s.cpu := rfl
@[simp] theorem State.prepared_cp15 (s : State) : s.prepared.cp15 = s.cp15 := rfl
@[simp] theorem State.prepared_pins (s : State) : s.prepared.pins = s.pins := rfl
@[simp] theorem State.prepared_cfg (s : State) : s.prepared.cfg = s.cfg := rfl
@[simp] theorem State.prepared_inputs (s : State) : s.prepared.inputs = s.inputs := rfl
@[simp] theorem State.prepared_scan (s : State) : s.prepared.scan = s.scan := rfl
@[simp] theorem State.prepared_cpAnswers (s : State) : s.prepared.cpAnswers = s.cpAnswers := rfl
@[simp] theorem State.prepared_lastRead (s : State) : s.prepared.lastRead = s.lastRead := rfl
@[simp] theorem State.prepared_cpOut (s : State) : s.prepared.cpOut = s.cpOut := rfl

/-- What the hardware does by itself between two instructions keeps the canonical form of the memories. -/
theorem State.ticked_wf {s : State} (h : s.ms.Wf) : s.ticked.ms.Wf := by
  have hm := meanwhile_wf s.ctx h
  show (tlbTick s _).Wf
  simp only [tlbTick]
  split
  · split
    · exact churn_wf _ hm
    · exact hm
  · exact hm

/-- The mode that an exception enters. -/
theorem modeOf_exceptionCpsr (e : Exception) (psr : Word) : modeOf (exceptionCpsr e psr) = exceptionMode e := by
  simp only [modeOf, exceptionCpsr]
  ext i hi
  cases e <;> rcases i with _ | _ | _ | _ | _ | i <;>
    first
    | omega
    | simp [exceptionMode]

theorem legalMode_exceptionMode (e : Exception) : legalMode (exceptionMode e) = true := by
  cases e <;> decide

theorem takeException_mode (e : Exception) (link : Word) (s : State) : (takeException e link s).mode = exceptionMode e :=
  modeOf_exceptionCpsr e s.cpu.cpsr

/-- A register of a mode written, read by its physical number. -/
theorem State.setBankReg_get (s : State) (m : BitVec 5) (r : RegNum) (v : Word) (p : Fin 30) :
    (s.setBankReg m r v).cpu.regs.get p = if p = physReg m r then v else s.cpu.regs.get p := by
  show (s.cpu.regs.set (physReg m r).val v (physReg m r).isLt).get p = _
  simp only [Vector.get_eq_getElem, Vector.getElem_set, Fin.ext_iff, eq_comm]

theorem State.setBankReg_bankReg (s : State) (m : BitVec 5) (r : RegNum) (v : Word) :
    (s.setBankReg m r v).bankReg m r = v := by
  show (s.setBankReg m r v).cpu.regs.get (physReg m r) = v
  rw [State.setBankReg_get, if_pos rfl]

/-- What a write of the Control Register does to the memory system: the prefetch buffer alone. -/
theorem writeControl_ms (v : Word) (s : State) :
    (writeControl v s).ms =
      { s.ms with
        prefetch := if (v.getLsbD 0 != s.cp15.ctrl.m) || (v.getLsbD 12 && !s.cp15.ctrl.i) then [] else s.ms.prefetch } := rfl

/-- A TCM RAM that gets its power back holds a memory in canonical form. -/
theorem MemSys.unknownTcm_wf (size : TcmSize) (ms : MemSys) : (ms.unknownTcm size).wf = true := by
  simp only [MemSys.unknownTcm]
  split
  · rfl
  · next n h =>
    apply Memory.canonicalFrom_ofBytes
    simp only [List.length_map, List.length_range, Nat.zero_add]
    exact Nat.pow_le_pow_right (by omega) (by cases size <;> simp [TcmSize.log2] at h <;> omega)

@[simp] theorem MemSys.wf_icachePowered (size : CacheSize) (ms : MemSys) : (ms.icachePowered size).wf = ms.wf :=
  MemSys.wf_congr rfl rfl rfl

@[simp] theorem MemSys.wf_dcachePowered (size : CacheSize) (ms : MemSys) : (ms.dcachePowered size).wf = ms.wf :=
  MemSys.wf_congr rfl rfl rfl

@[simp] theorem MemSys.wf_mmuPowered (ms : MemSys) : ms.mmuPowered.wf = ms.wf := by
  simp only [MemSys.wf, MemSys.mmuPowered]

/-- A choice between two memory systems in canonical form is in it. -/
theorem MemSys.wf_ite {c : Prop} [Decidable c] {a b : MemSys} (ha : a.Wf) (hb : b.Wf) : (if c then a else b).Wf := by
  split
  · exact ha
  · exact hb

/-- The power inputs keep the canonical form of the memories. -/
theorem State.setPower_wf (icache dcache mmu itcm dtcm : Bool) {s : State} (h : s.ms.Wf) :
    (s.setPower icache dcache mmu itcm dtcm).ms.Wf := by
  have tcms : ∀ {ms : MemSys}, ms.Wf → (ms.itcmPowered s.cfg.itcmSize).Wf ∧ (ms.dtcmPowered s.cfg.dtcmSize).Wf := by
    intro ms h
    obtain ⟨h1, h2, h3⟩ := (MemSys.wf_iff ms).1 h
    exact ⟨(MemSys.wf_iff _).2 ⟨h1, MemSys.unknownTcm_wf _ _, h3⟩, (MemSys.wf_iff _).2 ⟨h1, h2, MemSys.unknownTcm_wf _ _⟩⟩
  have w1 := MemSys.wf_ite (c := (icache && !s.pins.icacheRam) = true) ((MemSys.wf_icachePowered s.cfg.icacheSize _).trans h) h
  have w2 := MemSys.wf_ite (c := (dcache && !s.pins.dcacheRam) = true) ((MemSys.wf_dcachePowered s.cfg.dcacheSize _).trans w1) w1
  have w3 := MemSys.wf_ite (c := (mmu && !s.pins.mmuRam) = true) ((MemSys.wf_mmuPowered _).trans w2) w2
  have w4 := MemSys.wf_ite (c := (itcm && !s.pins.itcmRam) = true) (tcms w3).1 w3
  exact MemSys.wf_ite (c := (dtcm && !s.pins.dtcmRam) = true) (tcms w4).2 w4

/-- What the hardware does by itself before an input keeps the canonical form of the memories. -/
theorem State.atLarge_wf {s : State} (h : s.ms.Wf) : s.atLarge.ms.Wf := by
  simp only [State.atLarge]
  split
  · exact h
  · exact State.ticked_wf h

end Sys2Proof.Machine
end

