-- ==== Sys2Proof/Machine/Outputs.lean ====
section
/-! DEFINITION. What the machine shows on its pins, as functions of the state and of an access (spec/10_state.md R67;
spec/20_memory.md R115 to R117, R157, R161, R166, R168; spec/43_cp15_test_debug.md R421; spec/44_coprocessor_interface.md
R453 to R456, R467, R469). No step reads them (assumption 58). -/

namespace Sys2Proof.Machine

/-- The outputs that expose state (R67, R469). -/
structure Outputs where
  cfgbigend : Bool
  standbywfi : Bool
  etmprocid : Word
  etmprocidwr : Bool
  etmhivecs : Bool
  etmbigend : Bool
  etmitbit : Bool
  etmijbit : Bool
  /-- HIGH in a privileged state (R466). -/
  ncptrans : Bool
  /-- HIGH: the word on CPINSTR is not to be decoded (R455). -/
  ncpinstrvalid : Bool
  /-- The words that CPINSTR showed during the step, in order (R453). -/
  cpinstr : List Word
  cppass : Bool
  cplatecancel : Bool
  cpabort : Bool
  /-- HIGH in debug state, which the model never enters (R570). -/
  dbgack : Bool
  /-- HIGH: the last step executed an instruction (R570). -/
  dbginstrexec : Bool
  /-- The debug request to the core (R570). -/
  dbgrqi : Bool
  /-- Always LOW (R117). -/
  ihlock : Bool
  /-- The identity on the JTAG port (R10). -/
  tapid : Word
deriving DecidableEq, Repr

/-- The coprocessor signals of the last step, idle in standby (R469). -/
def State.shownCpPins (s : State) : CpPins := if s.standby then CpPins.idle else s.cpPins

/-- The outputs of a state (R67, R469). With ETMEN LOW the trace outputs are held LOW: "tied LOW to disable the trace outputs"
(R10, R572); the level is a DESIGN CHOICE (assumption 58). nCPINSTRVALID is HIGH outside ARM state (R455).
DBGRQI is EDBGRQ alone: bit 1 of the debug control register, the other half of it (R570), belongs to the debug unit that R7 leaves
out. That it follows EDBGRQ while DBGEN is LOW too, of which the spec says nothing, is a DESIGN CHOICE (assumption 58). Unsafe.
In standby the coprocessor interface is idle (R469, R581): what it showed of the WFI itself was over before STANDBYWFI rose. That
nCPTRANS and nCPINSTRVALID then still follow the CPSR, and that with CPEN LOW, which "disables the external coprocessor interface"
(R452), all these outputs are as with CPEN HIGH, the spec does not say: DESIGN CHOICE (assumption 58). Unsafe. -/
def State.outputs (s : State) : Outputs where
  cfgbigend := s.cp15.ctrl.b
  standbywfi := s.standby
  etmprocid := if s.cfg.etmen then s.cp15.contextId else 0#32
  etmprocidwr := s.cfg.etmen && s.etmProcIdWr
  etmhivecs := s.cfg.etmen && s.cp15.ctrl.v
  etmbigend := s.cfg.etmen && s.cp15.ctrl.b
  etmitbit := s.cfg.etmen && thumbBit s.cpu.cpsr
  etmijbit := s.cfg.etmen && jazelleBit s.cpu.cpsr
  ncptrans := s.privileged
  ncpinstrvalid := thumbBit s.cpu.cpsr || jazelleBit s.cpu.cpsr
  cpinstr := s.shownCpPins.cpinstr
  cppass := s.shownCpPins.cppass
  cplatecancel := s.shownCpPins.cplatecancel
  cpabort := s.shownCpPins.cpabort
  dbgack := false
  dbginstrexec := s.executed
  dbgrqi := s.pins.edbgrq
  ihlock := false
  tapid := s.cfg.tapId

/-- The operations of the bus masters that HPROT tells apart (R168). -/
inductive BusOperation
  | dcacheLinefill | icacheLinefill | walkForData | walkForFetch | fetchNcnb | fetchNcb | dataNcnb | dataNcb
  | storeCachable | dcacheWriteBack
deriving DecidableEq, Repr

/-- HPROT of an operation: cacheable, bufferable, privileged, data (R168). -/
def hprot (op : BusOperation) (privileged : Bool) : BitVec 4 :=
  let p := BitVec.ofBool privileged
  match op with
  | .dcacheLinefill => 0b11#2 ++ p ++ 0b1#1
  | .icacheLinefill => 0b11#2 ++ p ++ 0b0#1
  | .walkForData => 0b1111#4
  | .walkForFetch => 0b1110#4
  | .fetchNcnb => 0b00#2 ++ p ++ 0b0#1
  | .fetchNcb => 0b01#2 ++ p ++ 0b0#1
  | .dataNcnb => 0b00#2 ++ p ++ 0b1#1
  | .dataNcb => 0b01#2 ++ p ++ 0b1#1
  | .storeCachable => 0b11#2 ++ p ++ 0b1#1
  | .dcacheWriteBack => 0b1111#4

/-- The widths of an access (R115). -/
inductive AccessSize
  | byte | half | word
deriving DecidableEq, Repr

/-- HSIZE (R115). -/
def AccessSize.hsize : AccessSize → BitVec 3
  | .byte => 0b000#3
  | .half => 0b001#3
  | .word => 0b010#3

/-- The width of the data accesses of a load or store (R115, R504, R506 to R508); none for an instruction that makes none. -/
def accessSize (i : Instr) : Option AccessSize :=
  match i with
  | .ldrImm _ _ _ _ _ => some .word
  | .ldrReg _ _ _ _ _ => some .word
  | .strImm _ _ _ _ _ => some .word
  | .strReg _ _ _ _ _ => some .word
  | .ldrbImm _ _ _ _ _ => some .byte
  | .ldrbReg _ _ _ _ _ => some .byte
  | .strbImm _ _ _ _ _ => some .byte
  | .strbReg _ _ _ _ _ => some .byte
  | .ldrh _ _ _ _ _ => some .half
  | .strh _ _ _ _ _ => some .half
  | .ldrsb _ _ _ _ _ => some .byte
  | .ldrsh _ _ _ _ _ => some .half
  | .ldrd _ _ _ _ _ => some .word
  | .strd _ _ _ _ _ => some .word
  | .ldm _ _ _ _ _ => some .word
  | .stm _ _ _ _ _ => some .word
  | .swp _ _ _ _ => some .word
  | .swpb _ _ _ _ => some .byte
  | .ldcExt _ _ _ _ _ _ => some .word
  | .stcExt _ _ _ _ _ _ => some .word
  | .coprocUnconditional top mid _ _ =>
    if top.getLsbD 1 = false ∧ (unconditionalMode top mid).notTwoRegister then some .word else none
  | _ => none

/-- The lanes an access of a width drives (R106, R169). -/
def AccessSize.lanes (size : AccessSize) (big : Bool) (a : Word) : BitVec 4 :=
  match size with
  | .byte => byteLanes big a
  | .half => halfLanes big a
  | .word => 15#4

/-- The burst kinds (R166). -/
inductive Burst
  | single | incr4 | incr8 | wrap8
deriving DecidableEq, Repr

/-- A transfer, or a burst of them, as an AHB master starts it; Transfer.completion has what becomes of an interrupted one. -/
structure Transfer where
  write : Bool
  address : Word
  size : AccessSize
  burst : Burst
  hprot : BitVec 4
  /-- DHBL (R106). -/
  lanes : BitVec 4
  /-- DHLOCK (R67, R117). -/
  dhlock : Bool
deriving DecidableEq, Repr

/-- The address that AHB shows for an access: aligned to its width (R111). -/
def AccessSize.align (size : AccessSize) (a : Word) : Word :=
  match size with
  | .byte => a
  | .half => a &&& 0xFFFFFFFE#32
  | .word => a &&& 0xFFFFFFFC#32

/-- A transfer of words, not locked. -/
def wordTransfer (write : Bool) (burst : Burst) (protection : BitVec 4) (a : Word) : Transfer where
  write := write
  address := AccessSize.word.align a
  size := .word
  burst := burst
  hprot := protection
  lanes := 15#4
  dhlock := false

/-- How many words a burst has (R166). -/
def Burst.words : Burst → Nat
  | .single => 1
  | .incr4 => 4
  | .incr8 => 8
  | .wrap8 => 8

/-- The address of word n of a burst; a wrapping one stays in its 32-byte line (R135, R166). -/
def Transfer.wordAddress (t : Transfer) (n : Nat) : Word :=
  let next := t.address + BitVec.ofNat 32 (4 * n)
  if t.burst = .wrap8 then t.address.extractLsb' 5 27 ++ next.extractLsb' 0 5 else next

/-- What completes a burst that a Split or Retry response, or the removal of HGRANT, interrupted after so many words: single
transfers of the words that are left (R116, R166). A single transfer that was interrupted is made again. -/
def Transfer.completion (t : Transfer) (done : Nat) : List Transfer :=
  (List.range' done (t.burst.words - done)).map fun n => { t with address := t.wordAddress n, burst := .single }

/-- A linefill: one wrapping burst of eight words from the word that missed (R135, R166). -/
def linefillTransfer (fetch privileged : Bool) (pa : Word) : Transfer :=
  wordTransfer false .wrap8 (hprot (if fetch then .icacheLinefill else .dcacheLinefill) privileged) pa

/-- The read of a descriptor by a table walk (R166, R168). -/
def walkTransfer (fetch : Bool) (pa : Word) : Transfer :=
  wordTransfer false .single (hprot (if fetch then .walkForFetch else .walkForData) true) pa

/-- The write-back of a line (R136, R166): eight words when both halves are dirty, four for one half. -/
def castoutTransfers (l : CacheLine) : List Transfer :=
  let burst (b : Burst) (n : Fin 8) : Transfer :=
    wordTransfer true b (hprot .dcacheWriteBack true) (lineWord l.pa n ++ 0#2)
  if l.dirtyLo && l.dirtyHi then [burst .incr8 0]
  else if l.dirtyLo then [burst .incr4 0]
  else if l.dirtyHi then [burst .incr4 4]
  else []

/-- The type a data access shows on the bus: with the DCache off, noncached with the region's B bit (R129, D12), of which R168 has
no row of its own; a swap to NCB as one to NCNB (R117). DESIGN CHOICE (assumption 58). Unsafe. -/
def shownType (k : Ctx) (locked : Bool) (typ : RegionType) : RegionType :=
  lockedType locked (if k.cp15.ctrl.c then typ else busType typ)

/-- What HPROT shows of a single data access on the bus: of a store to a cachable region, or of an access to a noncached one
(R168). -/
def dataOperation (typ : RegionType) (write : Bool) : BusOperation :=
  if write && typ.cachable then .storeCachable else if busType typ = .ncb then .dataNcb else .dataNcnb

/-- A single data transfer (R115, R117, R166): the width asked for, and DHLOCK for a swap. -/
def singleTransfer (k : Ctx) (locked write : Bool) (size : AccessSize) (typ : RegionType) (pa : Word) : Transfer where
  write := write
  address := size.align pa
  size := size
  burst := .single
  hprot := hprot (dataOperation (shownType k locked typ) write) k.priv
  lanes := size.lanes k.cp15.ctrl.b pa
  dhlock := locked

/-- The AHB transfers of a data read at a translated address (R100, R118, R166): none in a TCM or on a hit. -/
def readTransfers (k : Ctx) (locked : Bool) (size : AccessSize) (mva : Word) (t : Translated) (ms : MemSys) :
    List Transfer :=
  let typ := dataType k.cp15 .read t
  match dataRoute k typ t.pa with
  | .dtcm _ => []
  | .itcm _ => []
  | .cache =>
    match findLine ms.dcache (lineAddr mva) with
    | some _ => []
    | none => [linefillTransfer false k.priv t.pa]
  | .bus => [singleTransfer k locked false size typ t.pa]

/-- The AHB transfers of a data write at a translated address: none in a TCM or for a write-back hit (R127, R137, R166). DHLOCK is
LOW for the write of a swap to a cachable location, of whose lock the spec says nothing (R117, N20): DESIGN CHOICE (assumption
58). Unsafe. -/
def writeTransfers (k : Ctx) (locked : Bool) (size : AccessSize) (mva : Word) (t : Translated) (ms : MemSys) :
    List Transfer :=
  let typ := dataType k.cp15 .write t
  match dataRoute k typ t.pa with
  | .dtcm _ => []
  | .itcm _ => []
  | .cache =>
    match findLine ms.dcache (lineAddr mva) with
    | some _ => if typ = .wb then [] else [singleTransfer k false true size typ t.pa]
    | none => [singleTransfer k false true size typ t.pa]
  | .bus => [singleTransfer k locked true size typ t.pa]

/-- The read-lock-write of a swap (R117): both transfers locked when the location is on the bus. -/
def swapTransfers (k : Ctx) (size : AccessSize) (mva : Word) (t : Translated) (ms : MemSys) : List Transfer :=
  readTransfers k true size mva t ms ++ writeTransfers k true size mva t ms

/-- The packets a request of n words is split into: of 8, 4 and 1 words (R116, R166). The longest first, as in the
rule's example: DESIGN CHOICE (assumption 58). Unsafe. -/
def burstPackets (n : Nat) : List Nat :=
  List.replicate (n / 8) 8 ++ List.replicate (n % 8 / 4) 4 ++ List.replicate (n % 4) 1

/-- The burst of a packet (R166). -/
def packetBurst (n : Nat) : Burst := if n = 8 then .incr8 else if n = 4 then .incr4 else .single

/-- The transfers of packets of words from an address. -/
def packetTransfers (write : Bool) (protection : BitVec 4) : Word → List Nat → List Transfer
  | _, [] => []
  | a, n :: ns =>
    wordTransfer write (packetBurst n) protection a :: packetTransfers write protection (a + BitVec.ofNat 32 (4 * n)) ns

/-- The addresses a noncached fetch reads on the bus: its own, where the prefetch buffer does not hold it, and those read ahead, all
in its 1KB block (R118, R160, R161). -/
def fetchReads (k : Ctx) (pa : Word) (ms : MemSys) : List Word :=
  (if (prefetched pa ms).isNone then [pa] else []) ++ (newAhead k pa ms).map fun e => e.1

/-- The transfers of a noncached fetch: bursts of four for words that follow one another, and single ones (R161, R166). R168 has no
row for a fetch from a cachable region with the ICache off: it is shown as a noncached one, the region's B bit telling NCB from
NCNB, as R128 has B affect IHPROT. DESIGN CHOICE (assumption 58). Unsafe. -/
def fetchBusTransfers (k : Ctx) (typ : RegionType) (pa : Word) (ms : MemSys) : List Transfer :=
  let reads := fetchReads k pa ms
  packetTransfers false (hprot (if busType typ = .ncb then .fetchNcb else .fetchNcnb) k.priv) (reads.headD pa)
    (List.replicate (reads.length / 4) 4 ++ List.replicate (reads.length % 4) 1)

/-- The AHB transfers of a fetch at a translated address (R100, R161, R166): none in the ITCM or on a hit. -/
def fetchTransfers (k : Ctx) (mmuOn : Bool) (mva : Word) (t : Translated) (ms : MemSys) : List Transfer :=
  match fetchRoute k (fetchType k mmuOn t) t.pa with
  | .itcm _ => []
  | .cache =>
    match findLine ms.icache (lineAddr mva) with
    | some _ => []
    | none => [linefillTransfer true k.priv t.pa]
  | .bus => fetchBusTransfers k (fetchType k mmuOn t) t.pa ms
  | .dtcm _ => fetchBusTransfers k (fetchType k mmuOn t) t.pa ms

/-- The number of words that CPBURST announces (R467); none for "1 word or unknown". -/
def cpburstWords (v : BitVec 4) : Option Nat := if v = 0#4 then none else some (v.toNat + 1)

/-- The packets of the n words of an STC (R467): without an announced number individual accesses. Where the number
announced is not the number transferred, of which the spec says nothing, the words transferred are split: DESIGN CHOICE
(assumption 58). Unsafe. -/
def coprocessorPackets (cpburst : BitVec 4) (n : Nat) : List Nat :=
  match cpburstWords cpburst with
  | none => List.replicate n 1
  | some _ => burstPackets n

/-- CPBURST of the instruction in hand (R467), b0000 while nobody has driven it. -/
def announcedBurst (s : State) : BitVec 4 := s.cpburst.getD 0#4

/-- The transfers of the words a store of several words puts on the bus, from an address (R116, R166). -/
def storeTransfers (k : Ctx) (typ : RegionType) (a : Word) (n : Nat) : List Transfer :=
  packetTransfers true (hprot (dataOperation (shownType k false typ) true) k.priv) a (burstPackets n)

/-- The packets of the words of an STC to a region (R467): CPBURST counts where the access is noncached, or its region's B
bit is 0. -/
def coprocessorRegionPackets (k : Ctx) (typ : RegionType) (cpburst : BitVec 4) (n : Nat) : List Nat :=
  if shownType k false typ = .wb then burstPackets n else coprocessorPackets cpburst n

/-- The transfers of the words an STC puts on the bus, from an address (R467). -/
def stcTransfers (k : Ctx) (typ : RegionType) (cpburst : BitVec 4) (a : Word) (n : Nat) : List Transfer :=
  packetTransfers true (hprot (dataOperation (shownType k false typ) true) k.priv) a
    (coprocessorRegionPackets k typ cpburst n)

/-- The transfers of the words an LDC reads on the bus, from an address: single ones, whatever CPBURST announces, as Table 6-1 has
no other data read but a linefill (R166, R118). R467 lets CPBURST optimise an LDC too and says not how: DESIGN CHOICE (assumption
58). Unsafe. -/
def ldcTransfers (k : Ctx) (typ : RegionType) (a : Word) (n : Nat) : List Transfer :=
  packetTransfers false (hprot (dataOperation (shownType k false typ) false) k.priv) a (List.replicate n 1)

/-- DRCS with DRDMAEN = 1, by DRDMACS and DRIDLE; none where the table says Unknown (R157). -/
def drcs (dmacs idle : Bool) : Option Bool :=
  if dmacs then some true else if idle then some false else none

/-- The half of the main TLB RAM image that one way has (R421). -/
def mmuRamHalf (e : TlbEntry) : BitVec 56 :=
  e.tag ++ e.size ++ e.pa ++ e.domain ++ e.ap ++ BitVec.ofBool e.c ++ BitVec.ofBool e.b

/-- MMUxWD: way 1 above way 0 (R421). -/
def mmuRamImage (way1 way0 : TlbEntry) : BitVec 112 := mmuRamHalf way1 ++ mmuRamHalf way0

/-- The bits of MMUxWD that the write enables MMUxWE[3:0] select: [111:86], [85:56], [55:30], [29:0] (R421; lane 2 by
90_conflicts.md C20). -/
def mmuWriteMask (we : BitVec 4) : BitVec 112 :=
  (we.extractLsb' 3 1).signExtend 26 ++ (we.extractLsb' 2 1).signExtend 30 ++ (we.extractLsb' 1 1).signExtend 26 ++
    (we.extractLsb' 0 1).signExtend 30

/-- A row of the main TLB RAM after a write with MMUxWE (R421). -/
def mmuRamWrite (we : BitVec 4) (held written : BitVec 112) : BitVec 112 :=
  held &&& ~~~ mmuWriteMask we ||| written &&& mmuWriteMask we

end Sys2Proof.Machine
end

