-- ==== Sys2Proof/Tests/Slice0.lean ====
section
/-! SUPPORT. Tests: ill-formed terms, words written out from the encodings, single steps with the results that
spec/95_test_vectors.md gives, and for each obligation with hypotheses a state and operands that meet them. -/

namespace Sys2Proof.Tests

open Sys2Proof Sys2Proof.Machine Sys2Proof.Claims

set_option Elab.async false

/-- A machine after reset in a mode. -/
def start (m : BitVec 5) : State :=
  { State.reset with cpu := { State.reset.cpu with cpsr := 0x000000C0#32 ||| m.setWidth 32 } }

/-- Supervisor mode, MMU and caches off. -/
def sup : State := start 0b10011#5

/-- User mode. -/
def user : State := start 0b10000#5

/-- A register of the current mode set. -/
def put (r : RegNum) (v : Word) (s : State) : State := s.setBankReg s.mode r v

/-- The pc set. -/
def at_ (v : Word) (s : State) : State := { s with cpu := { s.cpu with pc := v } }

/-- The flags N, Z, C, V set. -/
def flags (f : BitVec 4) (s : State) : State :=
  { s with cpu := { s.cpu with cpsr := f ++ s.cpu.cpsr.extractLsb' 0 28 } }

/-- A word of memory set. -/
def mem (a v : Word) (s : State) : State :=
  { s with ms := { s.ms with mem := s.ms.mem.writeLanes (wordAddr a) 15#4 v } }

/-- The CP15 registers changed. -/
def cp (f : Cp15 → Cp15) (s : State) : State := { s with cp15 := f s.cp15 }

/-- The Control Register of a word. -/
def ctl (v : Word) (s : State) : State := cp (fun k => { k with ctrl := controlOf v }) s

/-- The parameters changed. -/
def par (f : Config → Config) (s : State) : State := { s with cfg := f s.cfg }

/-- An empty TLB. -/
def noTlb (s : State) : State :=
  { s with ms := { s.ms with
      tlbMain := Vector.replicate 64 (TlbEntry.ofBits 0#57), tlbLock := Vector.replicate 8 (TlbEntry.ofBits 0#57) } }

/-- An entry that maps 1MB at 0x00400000 to itself, domain 0, full access. -/
def block4 : TlbEntry := makeEntry 20 0b1011#4 0x00400000#32 0x00400000#32 0#4 3#2 false false

/-- What a result satisfies when it is a next state. -/
def then_ (r : Result) (p : State → Bool) : Bool :=
  match r with
  | .next t => p t
  | .fault _ => false
  | .refused _ => false

/-- The word decodes, runs, and its next state satisfies p. -/
def runs (w : Word) (s : State) (p : State → Bool) : Bool :=
  match decode w with
  | none => false
  | some i => then_ (exec i s) p

/-- The flags as NZCV. -/
def nzcv (s : State) : BitVec 4 := s.cpu.cpsr.extractLsb' 28 4

/-- A DCache line at 0x00010040, its first half dirty, for the physical address 0x00110040 (V11.1). -/
def line0 : CacheLine where
  way := 1#2
  block := 0x802#27
  pa := 0x8802#27
  words := Vector.ofFn fun (n : Fin 8) => BitVec.ofNat 32 (0x100 + n.val)
  dirtyLo := true
  dirtyHi := false

/-- Supervisor with that line. -/
def withLine : State := { sup with ms := { sup.ms with dcache := [line0] } }

/-- What one coprocessor drives in one cycle: a state of the handshake and a word. -/
def drive (chs : BitVec 2) (w : Word) : List CpDrive := [⟨chs, w, 0#4⟩]

/-- External coprocessor 6 fitted, with what it drives next. -/
def withCp (a : List (List CpDrive)) (s : State) : State :=
  { par (fun c => { c with coprocessors := [6], cpen := true }) s with cpAnswers := a }

/-- Coprocessor 6 accepts one instruction with one word, and with two. -/
def oneWord : List (List CpDrive) := [drive 0b11#2 1#32]
def twoWords : List (List CpDrive) := [drive 0b01#2 1#32, drive 0b11#2 2#32]

/-! Ill-formed terms: no word stands for them. -/

/-- ADD Rd, pc, #imm with S = 0 is ADR's word (R487). -/
theorem test_wf_refuses_add_adr : (Instr.addImm .al false 15 1 ⟨0#4, 4#8⟩).wellFormed = false := by decide

/-- So is SUB Rd, pc, #imm with S = 0. -/
theorem test_wf_refuses_sub_adr : (Instr.subImm .al false 15 1 ⟨0#4, 4#8⟩).wellFormed = false := by decide

/-- A defined CP15 access is no other access (R257). -/
theorem test_wf_refuses_defined_other : (Instr.cp15Other .al 0#3 true 1#4 0 0#4 0#3).wellFormed = false := by decide +kernel

/-- Nor is an access of the spaces that have rows of their own. -/
theorem test_wf_refuses_listed_other :
    (Instr.cp15Other .al 0#3 true 4#4 0 0#4 0#3).wellFormed = false ∧
      (Instr.cp15Other .al 0#3 false 11#4 0 0#4 0#3).wellFormed = false ∧
      (Instr.cp15Other .al 0#3 true 12#4 0 0#4 0#3).wellFormed = false ∧
      (Instr.cp15Other .al 0#3 true 14#4 0 0#4 0#3).wellFormed = false ∧
      (Instr.cp15Other .al 0#3 false 0#4 0 0#4 0#3).wellFormed = false ∧
      (Instr.cp15Other .al 0#3 true 8#4 0 7#4 0#3).wellFormed = false := by decide +kernel

/-- Coprocessor 15 has rows of its own (R261). -/
theorem test_wf_refuses_external_15 :
    (Instr.mcrExt .al 0#3 1#4 0 15#4 0#3 0#4).wellFormed = false ∧
      (Instr.mrcExt .al 0#3 1#4 0 15#4 0#3 0#4).wellFormed = false ∧
      (Instr.cdpExt .al 0#4 1#4 0#4 15#4 0#3 0#4).wellFormed = false ∧
      (Instr.mcrrExt .al 1 0 15#4 0#4 0#4).wellFormed = false ∧
      (Instr.mrrcExt .al 1 0 15#4 0#4 0#4).wellFormed = false ∧
      (Instr.ldcExt .al ⟨true, true, false, false⟩ 1 0#4 15#4 0#8).wellFormed = false ∧
      (Instr.stcExt .al ⟨true, true, false, false⟩ 1 0#4 15#4 0#8).wellFormed = false := by decide +kernel

/-- The words with P, U, W clear and N set are MCRR and MRRC (R261). -/
theorem test_wf_refuses_two_register_ldc :
    (Instr.ldcCp15 .al ⟨false, false, true, false⟩ 1 0#4 0#8).wellFormed = false ∧
      (Instr.stcCp15 .al ⟨false, false, true, false⟩ 1 0#4 0#8).wellFormed = false ∧
      (Instr.ldcExt .al ⟨false, false, true, false⟩ 1 0#4 6#4 0#8).wellFormed = false ∧
      (Instr.stcExt .al ⟨false, false, true, false⟩ 1 0#4 6#4 0#8).wellFormed = false := by decide +kernel

/-- Bits [27:26] of a coprocessor word are 11 and the next two are not 11 (R470). -/
theorem test_wf_refuses_unconditional_swi : (Instr.coprocUnconditional 3#2 0#12 6#4 0#8).wellFormed = false := by decide

/-! Words written out from the encodings. -/

/-- The MRC and MCR rows of CRn 0 to 6 of R256, their words put together by the fields of R252. -/
theorem test_decode_cp15_c0_to_c6 :
    [0x0E103F10#32, 0xEE108F30#32, 0xEE10DF50#32, 0x3E102F70#32, 0xEE107F90#32, 0xEE10CFB0#32, 0x6E101FD0#32,
     0xEE106FF0#32, 0xEE11BF10#32, 0x9E010F10#32, 0xEE125F10#32, 0xEE02AF10#32, 0xCE13FF10#32, 0xEE034F10#32,
     0xEE159F10#32, 0x0E05EF10#32, 0xEE153F30#32, 0xEE058F30#32, 0x3E16DF10#32, 0xEE062F10#32].map decode =
      [some (.mrcId .eq 3), some (.mrcCacheType .al 8), some (.mrcTcmStatus .al 13), some (.mrcIdAlias3 .cc 2),
       some (.mrcIdAlias4 .al 7), some (.mrcIdAlias5 .al 12), some (.mrcIdAlias6 .vs 1), some (.mrcIdAlias7 .al 6),
       some (.mrcControl .al 11), some (.mcrControl .ls 0), some (.mrcTtbr .al 5), some (.mcrTtbr .al 10),
       some (.mrcDacr .gt 15), some (.mcrDacr .al 4), some (.mrcDfsr .al 9), some (.mcrDfsr .eq 14),
       some (.mrcIfsr .al 3), some (.mcrIfsr .al 8), some (.mrcFar .cc 13), some (.mcrFar .al 2)] := by
  decide +kernel

/-- The rows of CRn 7 of R256. -/
theorem test_decode_cp15_c7 :
    [0xEE077F90#32, 0x6E07CF15#32, 0xEE071F35#32, 0xEE076F55#32, 0x9E07BF16#32, 0xEE070F36#32, 0xEE075F56#32,
     0xCE07AF17#32, 0xEE07FF3A#32, 0xEE074F5A#32, 0x0E079F9A#32, 0xEE07EF3D#32, 0xEE073F3E#32, 0x3E078F5E#32,
     0xEE17DF7A#32, 0xEE172F7E#32].map decode =
      [some (.mcrWaitForInterrupt .al 7), some (.mcrInvalidateICache .vs 12), some (.mcrInvalidateICacheMva .al 1),
       some (.mcrInvalidateICacheSetWay .al 6), some (.mcrInvalidateDCache .ls 11),
       some (.mcrInvalidateDCacheMva .al 0), some (.mcrInvalidateDCacheSetWay .al 5),
       some (.mcrInvalidateCaches .gt 10), some (.mcrCleanDCacheMva .al 15), some (.mcrCleanDCacheSetWay .al 4),
       some (.mcrDrainWriteBuffer .eq 9), some (.mcrPrefetchICacheLine .al 14),
       some (.mcrCleanInvalidateDCacheMva .al 3), some (.mcrCleanInvalidateDCacheSetWay .cc 8),
       some (.mrcTestClean .al 13), some (.mrcTestCleanInvalidate .al 2)] := by
  decide +kernel

/-- The rows of CRn 8 to 13 of R256. -/
theorem test_decode_cp15_c8_to_c13 :
    [0x6E087F17#32, 0xEE08CF37#32, 0xEE081F15#32, 0x9E086F35#32, 0xEE08BF16#32, 0xEE080F36#32, 0xCE195F10#32,
     0xEE09AF10#32, 0xEE19FF30#32, 0x0E094F30#32, 0xEE199F11#32, 0xEE09EF11#32, 0x3E193F31#32, 0xEE098F31#32,
     0xEE1ADF10#32, 0x6E0A2F10#32, 0xEE1D7F10#32, 0xEE0DCF10#32, 0x9E1D1F30#32, 0xEE0D6F30#32].map decode =
      [some (.mcrInvalidateTlb .vs 7), some (.mcrInvalidateTlbEntry .al 12), some (.mcrInvalidateITlb .al 1),
       some (.mcrInvalidateITlbEntry .ls 6), some (.mcrInvalidateDTlb .al 11), some (.mcrInvalidateDTlbEntry .al 0),
       some (.mrcDCacheLockdown .gt 5), some (.mcrDCacheLockdown .al 10), some (.mrcICacheLockdown .al 15),
       some (.mcrICacheLockdown .eq 4), some (.mrcDTcmRegion .al 9), some (.mcrDTcmRegion .al 14),
       some (.mrcITcmRegion .cc 3), some (.mcrITcmRegion .al 8), some (.mrcTlbLockdown .al 13),
       some (.mcrTlbLockdown .vs 2), some (.mrcFcsePid .al 7), some (.mcrFcsePid .al 12), some (.mrcContextId .ls 1),
       some (.mcrContextId .al 6)] := by
  decide +kernel

/-- The rows of CRn 15 of R256. -/
theorem test_decode_cp15_c15 :
    [0xEE1FBF10#32, 0xCE0F0F10#32, 0xEE1F5F11#32, 0xEE0FAF11#32, 0x0E1FFF12#32, 0xEE0F4F12#32, 0xEE3F9F11#32,
     0x3E2FEF11#32, 0xEE9F3F12#32, 0xEE8F8F13#32, 0x6E9FDF14#32, 0xEE8F2F15#32, 0xEE8F7F17#32, 0x9E9FCF32#32,
     0xEE8F1F33#32, 0xEE9F6F34#32, 0xCE8FBF35#32, 0xEE8F0F37#32, 0xEEBF5F12#32, 0x0EAFAF13#32, 0xEEBFFF14#32,
     0xEEAF4F15#32, 0x3EAF9F17#32, 0xEEBFEF32#32, 0xEEAF3F33#32, 0x6EBF8F34#32, 0xEEAFDF35#32, 0xEEAF2F37#32,
     0x9EFF7F10#32, 0xEEEFCF10#32, 0xEEFF1F11#32, 0xCEEF6F11#32].map decode =
      [some (.mrcDebugOverride .al 11), some (.mcrDebugOverride .gt 0), some (.mrcDebugTestAddress .al 5),
       some (.mcrDebugTestAddress .al 10), some (.mrcMemoryRegionRemap .eq 15), some (.mcrMemoryRegionRemap .al 4),
       some (.mrcTraceControl .al 9), some (.mcrTraceControl .cc 14), some (.mrcMainTlbTag4 .al 3),
       some (.mcrMainTlbTag4 .al 8), some (.mrcMainTlbPa4 .vs 13), some (.mcrMainTlbPa4 .al 2),
       some (.mcrMainTlbTransfer4 .al 7), some (.mrcLockTlbTag4 .ls 12), some (.mcrLockTlbTag4 .al 1),
       some (.mrcLockTlbPa4 .al 6), some (.mcrLockTlbPa4 .gt 11), some (.mcrLockTlbTransfer4 .al 0),
       some (.mrcMainTlbTag5 .al 5), some (.mcrMainTlbTag5 .eq 10), some (.mrcMainTlbPa5 .al 15),
       some (.mcrMainTlbPa5 .al 4), some (.mcrMainTlbTransfer5 .cc 9), some (.mrcLockTlbTag5 .al 14),
       some (.mcrLockTlbTag5 .al 3), some (.mrcLockTlbPa5 .vs 8), some (.mcrLockTlbPa5 .al 13),
       some (.mcrLockTlbTransfer5 .al 2), some (.mrcCacheDebugControl .ls 7), some (.mcrCacheDebugControl .al 12),
       some (.mrcMmuDebugControl .al 1), some (.mcrMmuDebugControl .gt 6)] := by
  decide +kernel

/-- The CP15 accesses no register has (R257) and the other classes with CP15 (R258, R261). -/
theorem test_decode_cp15_undefined :
    [0xEE003F11#32, 0xEE143F10#32, 0xEE0B2F12#32, 0xEE1C2F10#32, 0xEE0E2FF0#32, 0xEE180F17#32, 0xEE510F30#32,
     0xEE000F20#32, 0xEC421F35#32, 0xEC521F35#32, 0xED912F03#32, 0xED012F03#32].map decode =
      [some (.cp15WriteC0 .al 0#3 3 1#4 0#3), some (.cp15AccessC4 .al 0#3 true 3 0#4 0#3),
       some (.cp15AccessC11 .al 0#3 false 2 2#4 0#3), some (.cp15AccessC12 .al 0#3 true 2 0#4 0#3),
       some (.cp15AccessC14 .al 0#3 false 2 0#4 7#3), some (.cp15ReadC8 .al 0 7#4 0#3),
       some (.cp15Other .al 2#3 true 1#4 0 0#4 1#3), some (.cdpCp15 .al 0#4 0#4 0#4 1#3 0#4),
       some (.mcrrCp15 .al 2 1 3#4 5#4), some (.mrrcCp15 .al 2 1 3#4 5#4),
       some (.ldcCp15 .al ⟨true, true, false, false⟩ 1 2#4 3#8),
       some (.stcCp15 .al ⟨true, false, false, false⟩ 1 2#4 3#8)] := by
  decide +kernel

/-- The coprocessor classes of R261, and their words with condition b1111. -/
theorem test_decode_external :
    [0xEC4216A5#32, 0xEC5216A5#32, 0xEE9126A3#32, 0xEE8126B3#32, 0xEE9126B3#32, 0xEDB12604#32, 0xEC612604#32,
     0xFE9126A3#32, 0xFD912604#32].map decode =
      [some (.mcrrExt .al 2 1 6#4 10#4 5#4), some (.mrrcExt .al 2 1 6#4 10#4 5#4),
       some (.cdpExt .al 9#4 1#4 2#4 6#4 5#3 3#4), some (.mcrExt .al 4#3 1#4 2 6#4 5#3 3#4),
       some (.mrcExt .al 4#3 1#4 2 6#4 5#3 3#4), some (.ldcExt .al ⟨true, true, false, true⟩ 1 2#4 6#4 4#8),
       some (.stcExt .al ⟨false, false, true, true⟩ 1 2#4 6#4 4#8), some (.coprocUnconditional 2#2 0x912#12 6#4 0xA3#8),
       some (.coprocUnconditional 1#2 0x912#12 6#4 4#8)] := by
  decide +kernel

/-- The sixteen opcodes with an immediate: Rn or its field 3, Rd or its field 5, rot 4, imm8 0x81 (R482). -/
theorem test_decode_dp_immediate :
    [0xE2035481#32, 0xE2335481#32, 0xE2435481#32, 0xE2735481#32, 0xE2835481#32, 0xE2B35481#32, 0xE2C35481#32,
     0xE2F35481#32, 0xE3135481#32, 0xE3335481#32, 0xE3535481#32, 0xE3735481#32, 0xE3835481#32, 0xE3B35481#32,
     0xE3C35481#32, 0xE3F35481#32].map decode =
      [some (.andImm .al false 3 5 ⟨4#4, 0x81#8⟩), some (.eorImm .al true 3 5 ⟨4#4, 0x81#8⟩),
       some (.subImm .al false 3 5 ⟨4#4, 0x81#8⟩), some (.rsbImm .al true 3 5 ⟨4#4, 0x81#8⟩),
       some (.addImm .al false 3 5 ⟨4#4, 0x81#8⟩), some (.adcImm .al true 3 5 ⟨4#4, 0x81#8⟩),
       some (.sbcImm .al false 3 5 ⟨4#4, 0x81#8⟩), some (.rscImm .al true 3 5 ⟨4#4, 0x81#8⟩),
       some (.tstImm .al 3 5#4 ⟨4#4, 0x81#8⟩), some (.teqImm .al 3 5#4 ⟨4#4, 0x81#8⟩), some (.cmpImm .al 3 5#4 ⟨4#4,
       0x81#8⟩), some (.cmnImm .al 3 5#4 ⟨4#4, 0x81#8⟩), some (.orrImm .al false 3 5 ⟨4#4, 0x81#8⟩),
       some (.movImm .al true 3#4 5 ⟨4#4, 0x81#8⟩), some (.bicImm .al false 3 5 ⟨4#4, 0x81#8⟩),
       some (.mvnImm .al true 3#4 5 ⟨4#4, 0x81#8⟩)] := by
  decide +kernel

/-- The sixteen opcodes with a shifted register: Rn or its field 6, Rd or its field 7, Rm 8 (R482). -/
theorem test_decode_dp_register :
    [0xE0167088#32, 0xE0267128#32, 0xE05671C8#32, 0xE0667268#32, 0xE0967288#32, 0xE0A67328#32, 0xE0D673C8#32,
     0xE0E67468#32, 0xE1167488#32, 0xE1367528#32, 0xE15675C8#32, 0xE1767668#32, 0xE1967688#32, 0xE1A67728#32,
     0xE1D677C8#32, 0xE1E67868#32].map decode =
      [some (.andReg .al true 6 7 ⟨1#5, .lsl, 8⟩), some (.eorReg .al false 6 7 ⟨2#5, .lsr, 8⟩),
       some (.subReg .al true 6 7 ⟨3#5, .asr, 8⟩), some (.rsbReg .al false 6 7 ⟨4#5, .ror, 8⟩),
       some (.addReg .al true 6 7 ⟨5#5, .lsl, 8⟩), some (.adcReg .al false 6 7 ⟨6#5, .lsr, 8⟩),
       some (.sbcReg .al true 6 7 ⟨7#5, .asr, 8⟩), some (.rscReg .al false 6 7 ⟨8#5, .ror, 8⟩),
       some (.tstReg .al 6 7#4 ⟨9#5, .lsl, 8⟩), some (.teqReg .al 6 7#4 ⟨10#5, .lsr, 8⟩),
       some (.cmpReg .al 6 7#4 ⟨11#5, .asr, 8⟩), some (.cmnReg .al 6 7#4 ⟨12#5, .ror, 8⟩),
       some (.orrReg .al true 6 7 ⟨13#5, .lsl, 8⟩), some (.movReg .al false 6#4 7 ⟨14#5, .lsr, 8⟩),
       some (.bicReg .al true 6 7 ⟨15#5, .asr, 8⟩), some (.mvnReg .al false 6#4 7 ⟨16#5, .ror, 8⟩)] := by
  decide +kernel

/-- ADR (R487) and the branches (R502, R503), with words that the spec prints. -/
theorem test_decode_adr_branch :
    [0xE28F0004#32, 0xE24F1C01#32, 0xEA000006#32, 0x1AFFFFFD#32, 0xEB0003FE#32, 0xE12FFF10#32,
     0xE12FFF3E#32].map decode =
      [some (.adrAhead .al 0 ⟨0#4, 4#8⟩), some (.adrBehind .al 1 ⟨12#4, 1#8⟩), some (.b .al 6#24),
       some (.b .ne 0xFFFFFD#24), some (.bl .al 0x3FE#24), some (.bx .al 0), some (.blx .al 14)] := by
  decide +kernel


 /-- The word and byte transfers (R504), the halfword class (R506), the multiples (R507), the swaps (R508) and PLD (R509). -/
theorem test_decode_load_store :
    [0xE4913004#32, 0xE7B13102#32, 0xE5867008#32, 0xE6013142#32, 0xE5D13004#32, 0xE7D13002#32, 0xE5413FFF#32,
     0xE7C13062#32, 0xE1D131B2#32, 0xE10130B2#32, 0xE1D131D2#32, 0xE09130F2#32, 0xE1C140D8#32, 0xE1E140F8#32,
     0xE890003E#32, 0xE8FD8001#32, 0xE92D4010#32, 0xE1020091#32, 0xE1420091#32, 0xF5D0F000#32,
     0xF751F002#32].map decode =
      [some (.ldrImm .al ⟨false, true, false⟩ 1 3 4#12), some (.ldrReg .al ⟨true, true, true⟩ 1 3 ⟨2#5, .lsl, 2⟩),
       some (.strImm .al ⟨true, true, false⟩ 6 7 8#12), some (.strReg .al ⟨false, false, false⟩ 1 3 ⟨2#5, .asr, 2⟩),
       some (.ldrbImm .al ⟨true, true, false⟩ 1 3 4#12), some (.ldrbReg .al ⟨true, true, false⟩ 1 3 ⟨0#5, .lsl, 2⟩),
       some (.strbImm .al ⟨true, false, false⟩ 1 3 0xFFF#12),
       some (.strbReg .al ⟨true, true, false⟩ 1 3 ⟨0#5, .ror, 2⟩),
       some (.ldrh .al ⟨true, true, false⟩ 1 3 (.imm 0x12#8)), some (.strh .al ⟨true, false, false⟩ 1 3 (.reg 0#4 2)),
       some (.ldrsb .al ⟨true, true, false⟩ 1 3 (.imm 0x12#8)), some (.ldrsh .al ⟨false, true, false⟩ 1 3 (.reg 0#4 2)),
       some (.ldrd .al ⟨true, true, false⟩ 1 4 (.imm 8#8)), some (.strd .al ⟨true, true, true⟩ 1 4 (.imm 8#8)),
       some (.ldm .al ⟨false, true, false⟩ false 0 0x003E#16), some (.ldm .al ⟨false, true, true⟩ true 13 0x8001#16),
       some (.stm .al ⟨true, false, true⟩ false 13 0x4010#16), some (.swp .al 2 0 1), some (.swpb .al 2 0 1),
       some (.pld false true 0 0#12), some (.pld true false 1 2#12)] := by
  decide +kernel

/-- MRS and MSR (R510), SWI (R511) and an undefined word (R514). -/
theorem test_decode_status :
    [0xE10F0000#32, 0xE14F3000#32, 0xE121F000#32, 0xE169F00E#32, 0xE328F4F0#32, 0xEF000011#32,
     0xE7F000F0#32].map decode =
      [some (.mrs .al false 0), some (.mrs .al true 3), some (.msrReg .al false 1#4 0), some (.msrReg .al true 9#4 14),
       some (.msrImm .al false 8#4 ⟨4#4, 0xF0#8⟩), some (.swi .al 0x11#24), some (.udf .al 0xF8007#20 0#4)] := by
  decide +kernel

/-- The multiplies, the register-shifted operands and BKPT are not specified (R480, D30). -/
theorem test_decode_unspecified :
    [0xE0010392#32, 0xE1A00211#32, 0xE1200070#32, 0xE16F0F11#32].map decode = [none, none, none, none] := by decide +kernel

/-- Bit 0 of the table's numbering is the least significant bit of the word. -/
theorem test_decodeTableWord : decodeTableWord 32 0xE3A00402 = some (.movImm .al false 0#4 0 ⟨4#4, 2#8⟩) := by decide +kernel

/-! Single steps, with the results of spec/95_test_vectors.md. -/

/-- V13.1. -/
theorem test_adds_overflows : runs 0xE0900003#32 (put 0 0x7FFFFFFF#32 (put 3 1#32 sup))
    (fun t => t.reg 0 == 0x80000000#32 && nzcv t == 0b1001#4) = true := by decide +kernel

/-- V13.3. -/
theorem test_adds_carries : runs 0xE0900003#32 (put 0 0x80000000#32 (put 3 0x80000000#32 sup))
    (fun t => t.reg 0 == 0#32 && nzcv t == 0b0111#4) = true := by decide +kernel

/-- V13.5 and V13.7. -/
theorem test_subs_borrows : (runs 0xE2522001#32 sup (fun t => t.reg 2 == 0xFFFFFFFF#32 && nzcv t == 0b1000#4) &&
    runs 0xE2522001#32 (put 2 0x80000000#32 sup) (fun t => t.reg 2 == 0x7FFFFFFF#32 && nzcv t == 0b0011#4)) = true := by
  decide +kernel

/-- V13.9, V13.11, V13.27, V13.28. -/
theorem test_compares : (runs 0xE3500005#32 (put 0 3#32 sup) (fun t => nzcv t == 0b1000#4) &&
    runs 0xE3700001#32 (put 0 0xFFFFFFFF#32 sup) (fun t => nzcv t == 0b0110#4) &&
    runs 0xE3100001#32 (flags 0b0010#4 (put 0 2#32 sup)) (fun t => nzcv t == 0b0110#4) &&
    runs 0xE1300001#32 (put 0 7#32 (put 1 7#32 sup)) (fun t => nzcv t == 0b0100#4)) = true := by decide +kernel

/-- V13.13 and V13.14. -/
theorem test_adcs_sbcs : (runs 0xE0B10002#32 (flags 0b0010#4 (put 1 0x7FFFFFFF#32 (put 2 0x7FFFFFFF#32 sup)))
      (fun t => t.reg 0 == 0xFFFFFFFF#32 && nzcv t == 0b1001#4) &&
    runs 0xE0D10002#32 (put 1 5#32 (put 2 5#32 sup)) (fun t => t.reg 0 == 0xFFFFFFFF#32 && nzcv t == 0b1000#4)) = true := by
  decide +kernel

/-- V13.16 and V13.17. -/
theorem test_rsbs_rscs : (runs 0xE2710000#32 (put 1 1#32 sup) (fun t => t.reg 0 == 0xFFFFFFFF#32 && nzcv t == 0b1000#4) &&
    runs 0xE2F10003#32 (put 1 1#32 sup) (fun t => t.reg 0 == 1#32 && nzcv t == 0b0010#4)) = true := by decide +kernel

/-- V13.22 to V13.26. -/
theorem test_logical : (runs 0xE20100FF#32 (put 1 0x12345678#32 sup) (fun t => t.reg 0 == 0x78#32) &&
    runs 0xE0200000#32 (put 0 9#32 sup) (fun t => t.reg 0 == 0#32) && runs 0xE3E00000#32 sup (fun t => t.reg 0 == 0xFFFFFFFF#32) &&
    runs 0xE3800001#32 (put 0 0x04000000#32 sup) (fun t => t.reg 0 == 0x04000001#32) &&
    runs 0xE3C00001#32 (put 0 0x08000001#32 sup) (fun t => t.reg 0 == 0x08000000#32)) = true := by decide +kernel

/-- V13.29, V13.33 to V13.37. -/
theorem test_shifts : (runs 0xE3B00102#32 sup (fun t => t.reg 0 == 0x80000000#32 && nzcv t == 0b1010#4) &&
    runs 0xE1B00081#32 (put 1 0x80000001#32 sup) (fun t => t.reg 0 == 2#32 && nzcv t == 0b0010#4) &&
    runs 0xE1B00021#32 (put 1 0x80000000#32 sup) (fun t => t.reg 0 == 0#32 && nzcv t == 0b0110#4) &&
    runs 0xE1B00061#32 (flags 0b0010#4 (put 1 3#32 sup)) (fun t => t.reg 0 == 0x80000001#32 && nzcv t == 0b1010#4) &&
    runs 0xE1B00241#32 (put 1 0x80000008#32 sup) (fun t => t.reg 0 == 0xF8000000#32 && nzcv t == 0b1010#4) &&
    runs 0xE1B00461#32 (put 1 0xFF#32 sup) (fun t => t.reg 0 == 0xFF000000#32 && nzcv t == 0b1010#4)) = true := by
  decide +kernel

/-- V13.32. -/
theorem test_adr : runs 0xE28F0004#32 (at_ 0x8004#32 sup) (fun t => t.reg 0 == 0x8010#32) = true := by decide +kernel

/-- V14.7 to V14.10, V14.12. -/
theorem test_branches : (runs 0xEB0003FE#32 (at_ 0x8000#32 sup) (fun t => t.cpu.pc == 0x9000#32 && t.reg 14 == 0x8004#32) &&
    runs 0xEAFFFFFA#32 (at_ 0x8000#32 sup) (fun t => t.cpu.pc == 0x7FF0#32) &&
    runs 0xEA7FFFFF#32 (at_ 0x8000#32 sup) (fun t => t.cpu.pc == 0x02008004#32) &&
    runs 0xEA800000#32 (at_ 0x8000#32 sup) (fun t => t.cpu.pc == 0xFE008008#32) &&
    runs 0x0A000000#32 (at_ 0x8000#32 sup) (fun t => t.cpu.pc == 0x8004#32)) = true := by decide +kernel

/-- V14.11. -/
theorem test_bx : (runs 0xE12FFF10#32 (put 0 0x9000#32 sup) (fun t => t.cpu.pc == 0x9000#32 && !thumbBit t.cpu.cpsr) &&
    runs 0xE12FFF10#32 (put 0 0x9001#32 sup) (fun t => t.cpu.pc == 0x9000#32 && thumbBit t.cpu.cpsr)) = true := by
  decide +kernel

/-- V8.1 to V8.3 and V8.5 to V8.8: memory holds 11 22 33 44 55 66 77 88 from 0x1000. -/
theorem test_loads : let s := mem 0x1000#32 0x44332211#32 (mem 0x1004#32 0x88776655#32 sup)
    (runs 0xE5910000#32 (put 1 0x1000#32 s) (fun t => t.reg 0 == 0x44332211#32) &&
      runs 0xE5910000#32 (put 1 0x1001#32 s) (fun t => t.reg 0 == 0x11443322#32) &&
      runs 0xE5910000#32 (put 1 0x1002#32 s) (fun t => t.reg 0 == 0x22114433#32) &&
      runs 0xE1D100B0#32 (put 1 0x1002#32 s) (fun t => t.reg 0 == 0x4433#32) &&
      runs 0xE5D10000#32 (put 1 0x1003#32 s) (fun t => t.reg 0 == 0x44#32) &&
      runs 0xE1D100D0#32 (put 1 0x1007#32 s) (fun t => t.reg 0 == 0xFFFFFF88#32) &&
      runs 0xE1D100F0#32 (put 1 0x1006#32 s) (fun t => t.reg 0 == 0xFFFF8877#32)) = true := by decide +kernel

/-- V8.14 to V8.16. -/
theorem test_stores : let s := put 0 0xAABBCCDD#32 sup
    (runs 0xE5810000#32 (put 1 0x1006#32 s) (fun t => t.byteAt 0x1004 == 0xDD#8 && t.byteAt 0x1007 == 0xAA#8) &&
      runs 0xE5C10000#32 (put 1 0x1005#32 s) (fun t => t.byteAt 0x1005 == 0xDD#8 && t.byteAt 0x1004 == 0#8) &&
      runs 0xE1C100B0#32 (put 1 0x1006#32 s) (fun t => t.byteAt 0x1006 == 0xDD#8 && t.byteAt 0x1007 == 0xCC#8)) = true := by
  decide +kernel

/-- V15.1 and V15.2. -/
theorem test_load_addressing :
    (runs 0xE4913004#32 (put 1 0x8028#32 (mem 0x8028#32 1#32 sup)) (fun t => t.reg 3 == 1#32 && t.reg 1 == 0x802C#32) &&
      runs 0xE59F4008#32 (at_ 0x60#32 (mem 0x70#32 0x12345678#32 sup)) (fun t => t.reg 4 == 0x12345678#32)) = true := by
  decide +kernel

/-- V15.5 and V15.6, on the first and the last register. -/
theorem test_multiples :
    (runs 0xE890003E#32 (put 0 0x9000#32 (mem 0x9000#32 11#32 (mem 0x9010#32 15#32 sup)))
        (fun t => t.reg 1 == 11#32 && t.reg 5 == 15#32 && t.reg 0 == 0x9000#32) &&
      runs 0xE880003E#32 (put 0 0x8010#32 (put 1 11#32 (put 5 15#32 sup)))
        (fun t => t.wordAt (wordAddr 0x8010#32) == 11#32 && t.wordAt (wordAddr 0x8020#32) == 15#32)) = true := by
  decide +kernel

/-- V15.8. -/
theorem test_ldm_alignment_fault : runs 0xE890003E#32 (ctl 2#32 (put 0 0x9002#32 sup))
    (fun t => t.cp15.far == 0x9002#32 && t.cpu.pc == 0x10#32 && t.reg 14 == 8#32) = true := by decide +kernel

/-- V15.9. -/
theorem test_swp : runs 0xE1020091#32 (put 1 5#32 (put 2 0x1000#32 (mem 0x1000#32 9#32 sup)))
    (fun t => t.reg 0 == 9#32 && t.wordAt (wordAddr 0x1000#32) == 5#32) = true := by decide +kernel

/-- V15.12 to V15.14. -/
theorem test_status : (runs 0xE10F0000#32 (flags 0b0110#4 sup) (fun t => t.reg 0 == 0x600000D3#32) &&
    runs 0xE121F000#32 (put 0 0x10#32 sup) (fun t => t.cpu.cpsr.extractLsb' 0 8 == 0x10#8) &&
    runs 0xE121F000#32 (put 0 0xD3#32 user) (fun t => t.cpu.cpsr == user.cpu.cpsr)) = true := by decide +kernel

/-- V16.1 and V16.5, with the masks of the state used. -/
theorem test_exceptions : (runs 0xEF000011#32 (flags 0b0110#4 (at_ 0x8020#32 user))
      (fun t => t.reg 14 == 0x8024#32 && t.cpu.spsr.get 2 == 0x600000D0#32 && t.cpu.cpsr == 0x600000D3#32 && t.cpu.pc == 8#32) &&
    runs 0xE7F000F0#32 (at_ 0x8000#32 user)
      (fun t => t.reg 14 == 0x8004#32 && t.cpu.spsr.get 4 == 0xD0#32 && t.mode == 0b11011#5 && t.cpu.pc == 4#32)) = true := by
  decide +kernel

/-- V16.4. -/
theorem test_return : runs 0xE25EF008#32
    { at_ 0x20#32 (put 14 0x50#32 (start 0b10111#5)) with
      cpu := { (at_ 0x20#32 (put 14 0x50#32 (start 0b10111#5))).cpu with spsr := Vector.replicate 5 0xD3#32 } }
    (fun t => t.cpu.pc == 0x48#32 && t.cpu.cpsr == 0xD3#32) = true := by decide +kernel

/-- E1 and E2: the ID Code Register, and the Cache Type Register of 16KB and 16KB. -/
theorem test_id_registers : (runs 0xEE100F10#32 sup (fun t => t.reg 0 == 0x41069265#32) &&
    runs 0xEE100F30#32 sup (fun t => t.reg 0 == 0x1D152152#32)) = true := by decide +kernel

/-- R290: writing M, and the ICache lockdown bits (R380). -/
theorem test_cp15_writes : (runs 0xEE011F10#32 (put 1 0x50079#32 sup) (fun t => t.cp15.ctrl.m && !t.cp15.ctrl.a) &&
    runs 0xEE090F30#32 (put 0 0xFFF1#32 sup) (fun t => t.cp15.ilock == 1#4)) = true := by decide +kernel

/-- V11.1 to V11.3: a clean queues the dirty half; with invalidation the line goes; invalidation alone loses the data. -/
theorem test_cache_lines : let s := put 1 0x00010040#32 withLine
    (runs 0xEE071F3A#32 s (fun t => t.wordAt (wordAddr 0x0011004C#32) == 0x103#32 && t.ms.dcache.map CacheLine.dirty == [false]) &&
      runs 0xEE071F3E#32 s (fun t => t.wordAt (wordAddr 0x00110040#32) == 0x100#32 && t.ms.dcache.isEmpty) &&
      runs 0xEE071F36#32 s (fun t => t.wordAt (wordAddr 0x00110040#32) == 0#32 && t.ms.dcache.isEmpty)) = true := by
  decide +kernel

/-- V11.8: with test-and-clean-all one pass cleans every line. -/
theorem test_test_and_clean : runs 0xEE17FF7A#32 (cp (fun k => { k with dbgovr := 64#7 }) withLine)
    (fun t => t.ms.dcache.map CacheLine.dirty == [false]) = true := by decide +kernel

/-- V11.10 and V11.11: the set-associative part goes, a lockdown entry stays; the single-entry form takes it. -/
theorem test_tlb_invalidation :
    let s := { noTlb sup with ms := { (noTlb sup).ms with tlbLock := (noTlb sup).ms.tlbLock.set 2 block4 } }
    (runs 0xEE080F17#32 s (fun t => (t.ms.tlbLock.get 2).valid) &&
      runs 0xEE081F37#32 (put 1 0x00412000#32 s) (fun t => !(t.ms.tlbLock.get 2).valid)) = true := by decide +kernel

/-- D24 and R537: BKPT with DBGEN LOW is a Prefetch Abort. -/
theorem test_step_breakpoint :
    then_ (step (State.reset.withFetchWord 32 0xE1200070))
      (fun t => t.cpu.pc == 0x0C#32 && t.reg 14 == 4#32 && t.mode == 0b10111#5 && t.cp15.ifsr == 0#8) = true := by decide +kernel

/-- V3.5 under D3: a word that breaks the reserved bits of the Control Register is refused; one that keeps to them is written. -/
theorem test_reserved_bits : exec (.mcrControl .al 1) (put 1 0x0005FFFF#32 sup) = .refused .reservedBits ∧
    runs 0xEE011F10#32 (put 1 0x0005F3FF#32 sup) (fun t => t.cp15.ctrl.l4 && t.cp15.ctrl.rr) = true :=
  ⟨rfl, by decide +kernel⟩

/-- D3 on operands and storage registers of the TLB (R49, R330). -/
theorem test_reserved_tlb_bits : exec (.mcrInvalidateTlb .al 1) (put 1 1#32 sup) = .refused .reservedBits ∧
    exec (.mcrMainTlbTag4 .al 1) (put 1 0x20#32 sup) = .refused .reservedBits ∧
    exec (.mcrLockTlbPa5 .al 1) (put 1 0x100#32 sup) = .refused .reservedBits := ⟨rfl, rfl, rfl⟩

/-- U51: a disabled cache keeps its lines, dirty ones too. -/
theorem test_disabled_cache_keeps_lines : withLine.ticked.ms.dcache = [line0] := rfl

/-- R111: the address on AHB is aligned to the width. -/
theorem test_aligned_transfers : (singleTransfer sup.ctx false false .word .ncnb 0x1003#32).address = 0x1000#32 ∧
    (singleTransfer sup.ctx false true .half .ncnb 0x1003#32).address = 0x1002#32 ∧
    (linefillTransfer false true 0x1003#32).address = 0x1000#32 := by decide +kernel

/-- R461 and R464: MCR shows the register, LDC two words, and the core goes on. -/
theorem test_external_coprocessor :
    (runs 0xEE8126B3#32 (put 2 9#32 (withCp oneWord sup))
        (fun t => t.cpOut == [⟨6#4, 0xE8126B3#28, true, [9#32], false⟩] && t.cpAnswers.isEmpty && t.cpu.pc == 4#32) &&
      runs 0xEDB12604#32 (mem 0x14#32 5#32 (withCp twoWords sup))
        (fun t => t.cpOut.map CpMessage.words == [[0#32, 5#32]] && t.reg 1 == 0x10#32)) = true := by decide +kernel

/-- R166 and R168: a line with one dirty half goes out as a burst of four. -/
theorem test_castout_transfers :
    castoutTransfers line0 = [⟨true, 0x00110040#32, .word, .incr4, 0b1111#4, 15#4, false⟩] := by decide +kernel

/-- R116, R166: a linefill from word 2 of its line, interrupted after five words, ends in single transfers of words 7, 0 and 1. -/
theorem test_interrupted_burst :
    ((linefillTransfer false true 0x1008#32).completion 5).map (fun t => (t.address, t.burst)) =
      [(0x101C#32, .single), (0x1000#32, .single), (0x1004#32, .single)] := by decide +kernel

/-- R469: an interface that showed words is idle in standby. -/
theorem test_standby_idles_coprocessor_interface :
    ({ sup with standby := true, cpPins := { CpPins.idle with cpinstr := [1#32], cppass := true } }.outputs.cppass,
      { sup with standby := true, cpPins := { CpPins.idle with cpinstr := [1#32] } }.outputs.cpinstr) = (false, []) := rfl

/-- R152, U51: a write pending for a disabled TCM stays pending; one pending for an enabled TCM may reach it. -/
theorem test_disabled_tcm_takes_no_write (n : Nat) :
    let p : PendingWrite := ⟨0#30, 15#4, 5#32, false⟩
    (MemSys.drainSome (cp (fun (k : Cp15) => { k with dtcm := ⟨0#20, false⟩ }) sup).ctx { sup.ms with dtcmWb := [p], draws := n }).dtcmWb = [p] := rfl

/-- R260: a should-be-zero-or-preserved field takes the value last read, not one read before it. -/
theorem test_preserved_value_is_the_last_read :
    let l := readNoted (.mrcDfsr .al 1) 0x200#32 (readNoted (.mrcDfsr .al 1) 0x400#32 sup.lastRead)
    (mcrAllowed reservedFsr l.dfsr.toList 1 (put 1 0x200#32 sup), mcrAllowed reservedFsr l.dfsr.toList 1 (put 1 0x400#32 sup)) =
      (true, false) := by decide +kernel

/-- R463: after a load that aborts, a CDP that follows has been signalled by CPPASS and is cancelled; one whose condition fails only
cancelled. -/
theorem test_cancelled_cdp :
    let after (w : Word) : CpPins :=
      (takeDataAbort ⟨0x80#32, .translationSection, none⟩
        { sup with pipe := [{ va := 4#32, pid := 0#7, mva := 4#32, mmuOn := false, result := .word w }] }).cpPins
    ((after 0xEE000100#32).cppass, (after 0xEE000100#32).cplatecancel, (after 0x0E000100#32).cppass) = (true, true, false) := by
  decide +kernel

/-- R108: a buffered byte keeps its lanes when B changes. -/
theorem test_buffered_write_keeps_lanes :
    let p : PendingWrite := ⟨0#30, 1#4, 5#32, false⟩
    (writeControl 0x000500F8#32 { sup with ms := { sup.ms with wbuf := [p] } }).ms.wbuf = [p] := rfl

/-- R18: what a buffer may drain before a reset draws its value there; a standing reset of a core in standby drains nothing. -/
theorem test_hardware_acts_before_an_input :
    let s := { sup with ms := { sup.ms with wbuf := [⟨0#30, 15#4, 5#32, false⟩] }, inputs := [[.reset]] }
    s.absorb.ms.mem = s.ticked.ms.mem ∧ ({ s with standby := true }).absorb.ms.mem = s.ms.mem := ⟨rfl, rfl⟩

/-- R291: a reset while running forgets no word read of the Control Register on the same processor. -/
theorem test_reset_keeps_words_read :
    ({ sup with lastRead := { sup.lastRead with ctrl := [0x80050078#32] } }.receive .reset).lastRead.ctrl = [0x80050078#32] := rfl

/-- R421: the second lane of the RAM of the MMU is bits [55:30]. -/
theorem test_mmu_write_mask : mmuWriteMask 2#4 = 0xFFFFFFC0000000#112 := by decide +kernel

/-- A step from reset runs the word loaded: MOV r0, #0x02000000 (V13.30). -/
theorem test_step_runs_loaded_word :
    then_ (step (State.reset.withFetchWord 32 0xE3A00402)) (fun t => t.reg 0 == 0x02000000#32 && t.cpu.pc == 4#32) = true := by
  decide +kernel

/-! A state and operands that meet the hypotheses of each statement that has some, clause by clause. -/

/-- A result that answers a next state with a property has that state. -/
theorem next_of_then {r : Result} {p : State → Bool} (h : then_ r p = true) : ∃ t, r = .next t ∧ p t = true := by
  cases r with
  | next t => exact ⟨t, rfl, h⟩
  | fault e => simp [then_] at h
  | refused e => simp [then_] at h

/-- The conditions of a statement about a step. -/
def quietB (s : State) : Bool :=
  s.inputs.isEmpty && !s.cfg.dbgen && !s.standby && !traceStall s && s.pins.nfiq && s.pins.nirq &&
    !thumbBit s.cpu.cpsr && !jazelleBit s.cpu.cpsr

/-- The check means what it says. -/
theorem quiet_of (s : State) (h : quietB s = true) : s.quiet := by
  simp only [quietB, Bool.and_eq_true, Bool.not_eq_true', List.isEmpty_iff] at h
  obtain ⟨⟨⟨⟨⟨⟨⟨h1, h2⟩, h3⟩, h4⟩, h5⟩, h6⟩, h7⟩, h8⟩ := h
  exact ⟨h1, h2, h3, h4, h5, h6, h7, h8⟩

/-- A fetched word. -/
def fetched (r : SlotResult) : Option Word :=
  match r with
  | .word w => some w
  | _ => none

/-- The check means what it says. -/
theorem word_of {r : SlotResult} {w : Word} (h : fetched r = some w) : r = .word w := by
  cases r with
  | word v => simp only [fetched, Option.some.injEq] at h; rw [h]
  | abort a => simp [fetched] at h
  | stop e => simp [fetched] at h
  | breakpoint w => simp [fetched] at h

/-- What an access aborts with. -/
def abortOf {α : Type} (r : Access α) : Option AbortInfo :=
  match r with
  | .abort a _ => some a
  | _ => none

/-- The check means what it says. -/
theorem abort_of {α : Type} {r : Access α} {a : AbortInfo} (h : abortOf r = some a) : ∃ ms, r = .abort a ms := by
  cases r with
  | abort b ms => simp only [abortOf, Option.some.injEq] at h; exact ⟨ms, by rw [h]⟩
  | ok v ms => simp [abortOf] at h
  | stop e => simp [abortOf] at h

/-- What an access answers. -/
def okOf {α : Type} (r : Access α) : Option α :=
  match r with
  | .ok v _ => some v
  | _ => none

/-- The check means what it says. -/
theorem ok_of {α : Type} {r : Access α} {v : α} (h : okOf r = some v) : ∃ ms, r = .ok v ms := by
  cases r with
  | ok w ms => simp only [okOf, Option.some.injEq] at h; exact ⟨ms, by rw [h]⟩
  | abort b ms => simp [okOf] at h
  | stop e => simp [okOf] at h

/-- The first page of AHB answers ERROR. -/
def badBus (s : State) : State := par (fun c => { c with errorRegions := [(0, 0x1000)] }) s

/-- A machine with two TCMs of 4KB: the instruction TCM at 0, the data TCM at 0x00001000. -/
def withTcm (s : State) : State :=
  cp (fun k => { k with itcm := ⟨0#20, true⟩, dtcm := ⟨1#20, true⟩ })
    (par (fun c => { c with itcmSize := .kb4, dtcmSize := .kb4 }) s)

/-- R585, U52: a load from a TCM whose RAM has no power is refused. -/
theorem test_unpowered_tcm :
    let s := put 1 0x1000#32 (withTcm sup)
    (match exec (.ldrImm .al ⟨true, true, false⟩ 1 2 0#12) { s with pins := { s.pins with dtcmRam := false } } with
      | .refused r => some r
      | _ => none) = some .ramPoweredDown := by decide +kernel

/-- R453, R570: a breakpointed fetch shows its word on CPINSTR too. -/
theorem test_breakpointed_fetch_is_shown :
    let s := par (fun c => { c with dbgen := true }) (mem 4#32 0xEE000100#32 sup)
    let slot := (fetchSlot { s.ctx with pins := { s.pins with dbgiebkpt := true } } 4#32 s.ms).1
    slot.breakpointed = true ∧ slotWords [slot] = [0xEE000100#32] := by decide +kernel

/-- R588, R117: between the halves of a swap to a TCM another AHB master writes; between those of a swap on the bus it waits. -/
theorem test_swap_to_tcm_does_not_hold_the_bus :
    (holdsBus (withTcm sup).ctx 0x1000#32 (withTcm sup).ms, holdsBus (withTcm sup).ctx 0x2000#32 (withTcm sup).ms) =
      (false, true) := by decide +kernel

/-- SPSR_svc set. -/
def spsr (v : Word) (s : State) : State := { s with cpu := { s.cpu with spsr := s.cpu.spsr.set 2 v } }

theorem witness_DecodeOfEncode : (Instr.addImm .al true 15 1 ⟨15#4, 255#8⟩).wellFormed = true := by decide +kernel

theorem witness_EncodeOfDecode : decode 0xFE000000#32 = some (.coprocUnconditional 2#2 0#12 0#4 0#8) := by decide +kernel

/-- A step whose instruction goes on to the next word. -/
theorem witness_StepRunsDecodedInstruction :
    let s := State.reset.withFetchWord 32 0xE3A00402
    s.quiet ∧ fetchedResult s = .word 0xE3A00402#32 ∧ decode 0xE3A00402#32 = some (.movImm .al false 0#4 0 ⟨4#4, 2#8⟩) ∧
      (s.ms.wf = true ∧ s.ms.othersWrite false 0 = false) ∧ (∀ l ∈ s.ms.dcache, l.dirty = false) ∧
      s.cpu.pc &&& 0xFFFFFFFC#32 ≠ 0xFFFFFFFC#32 ∧
      ∃ t, exec (.movImm .al false 0#4 0 ⟨4#4, 2#8⟩) s.cleared.prepared = .next t ∧ (t.cpu.pc == s.cpu.pc + 4#32) = true :=
  ⟨quiet_of _ (by decide +kernel), word_of (by decide +kernel), by decide +kernel, by decide +kernel, by decide +kernel,
    by decide +kernel, next_of_then (by decide +kernel)⟩

/-- And one whose instruction branches. -/
theorem witness_StepRunsDecodedInstruction_branch :
    let s := State.reset.withFetchWord 32 0xEAFFFFFE
    s.quiet ∧ fetchedResult s = .word 0xEAFFFFFE#32 ∧ decode 0xEAFFFFFE#32 = some (.b .al 0xFFFFFE#24) ∧
      ∃ t, exec (.b .al 0xFFFFFE#24) s.cleared.prepared = .next t ∧ t.nonseq = true :=
  ⟨quiet_of _ (by decide +kernel), word_of (by decide +kernel), by decide +kernel, next_of_then (by decide +kernel)⟩

theorem witness_FetchReadsMemory :
    (State.reset.cp15.ctrl.m = false ∧ State.reset.cp15.ctrl.i = false ∧ State.reset.nonseq = true ∧
      tcmOffset State.reset.cfg.itcmSize State.reset.cp15.itcm State.reset.cpu.pc = none ∧
      busError State.reset.cfg (wordAddr State.reset.cpu.pc) = false ∧ State.reset.ctx.breaks = false ∧
      State.reset.ms.wbuf = [] ∧ (∀ l ∈ State.reset.ms.dcache, l.dirty = false) ∧ State.reset.ms.wf = true ∧
      State.reset.ms.alone (wordAddr State.reset.cpu.pc) = true) ∧
    (withTcm sup).ctx.breaks = false ∧ (withTcm sup).cp15.ctrl.m = false ∧ (withTcm sup).cp15.ctrl.i = false ∧ (withTcm sup).ms.wf = true ∧
      (withTcm sup).pins.itcmRam = true ∧ (tcmOffset (withTcm sup).cfg.itcmSize (withTcm sup).cp15.itcm (withTcm sup).cpu.pc).isSome = true := by decide +kernel

/-- A fetch that AHB answers with ERROR, and a BKPT word fetched. -/
theorem witness_StepTakesPrefetchAbort :
    (∃ a, (badBus sup).quiet ∧ fetchedResult (badBus sup) = .abort a) ∧
      let s := State.reset.withFetchWord 32 0xE12FFF7F
      s.quiet ∧ fetchedResult s = .word 0xE12FFF7F#32 ∧ 0xE12FFF7F#32 &&& 0xFFF000F0#32 = 0xE1200070#32 :=
  ⟨⟨⟨0#32, .external, none⟩, quiet_of _ (by decide +kernel), by decide +kernel⟩, quiet_of _ (by decide +kernel),
    word_of (by decide +kernel), by decide +kernel⟩

/-- FIQ, and IRQ with FIQ masked. -/
theorem witness_StepTakesInterrupts :
    let s := { user with cpu := { user.cpu with cpsr := 0x10#32 }, pins := { user.pins with nfiq := false } }
    let r := { user with
      cpu := { user.cpu with cpsr := 0x50#32 }, pins := { user.pins with nfiq := false, nirq := false } }
    (s.inputs = [] ∧ s.cfg.dbgen = false ∧ s.standby = false ∧ s.cfg.etmen = false ∧ s.pins.nfiq = false ∧
      fiqMasked s.cpu.cpsr = false) ∧
    r.inputs = [] ∧ r.cfg.dbgen = false ∧ r.standby = false ∧ r.cfg.etmen = false ∧ r.pins.nirq = false ∧
      irqMasked r.cpu.cpsr = false ∧ fiqMasked r.cpu.cpsr = true := by decide +kernel

/-- Standby, with both lines HIGH, and with one LOW and masked. -/
theorem witness_StepTakesInterrupts_standby :
    let s := { sup with standby := true }
    let r := { s with pins := { s.pins with nirq := false } }
    (s.inputs = [] ∧ s.cfg.dbgen = false ∧ s.standby = true ∧ s.pins.nirq = true ∧ s.pins.nfiq = true) ∧
    r.inputs = [] ∧ r.cfg.dbgen = false ∧ r.standby = true ∧ r.pins.nirq = false := by decide +kernel

theorem witness_ConditionalExecution :
    conditionOf (.b .eq 0#24) = some .eq ∧ conditionPassed .eq sup.cpu.cpsr = false := by decide +kernel

theorem witness_StepKeepsInvariant :
    let s := State.reset.withFetchWord 32 0xE3A00402
    s.inv = true ∧ ∃ t, step s = .next t ∧ true = true := ⟨by decide +kernel, next_of_then (by decide +kernel)⟩

theorem witness_UserModeCannotWriteCp15 :
    user.mode = 0b10000#5 ∧ ∃ t, exec (.mcrControl .al 1) user = .next t ∧ true = true :=
  ⟨by decide +kernel, next_of_then (by decide +kernel)⟩

/-- One way each: a register write, and an exception. -/
theorem witness_UserModeLeftOnlyByException :
    user.mode = 0b10000#5 ∧ (∃ t, exec (.movImm .al false 0#4 0 ⟨0#4, 1#8⟩) user = .next t ∧ (t.mode == 0b10000#5) = true) ∧
      ∃ t, exec (.swi .al 0#24) user = .next t ∧ (t.mode == 0b10011#5) = true :=
  ⟨by decide +kernel, next_of_then (by decide +kernel), next_of_then (by decide +kernel)⟩

/-- Where a reading of several words stopped, with the number of words before. -/
def readsStop (r : Except Refusal ReadMany) : Option (AbortInfo × Word × Nat) :=
  match r with
  | .ok out => out.failed.map fun f => (f.1, f.2, out.words.length)
  | .error _ => none

/-- The check means what it says. -/
theorem reads_of {r : Except Refusal ReadMany} {e : AbortInfo} {va : Word} {n : Nat} (h : readsStop r = some (e, va, n)) :
    ∃ out, r = .ok out ∧ out.failed = some (e, va) ∧ out.words.length = n := by
  cases r with
  | error x => cases h
  | ok out =>
    obtain ⟨f, hf, h⟩ := Option.map_eq_some_iff.mp h
    cases h
    exact ⟨out, rfl, hf, rfl⟩

/-- Where a writing of several words stopped. -/
def writesStop (r : Except Refusal WriteMany) : Option (AbortInfo × Word) :=
  match r with
  | .ok out => out.failed
  | .error _ => none

/-- The check means what it says. -/
theorem writes_of {r : Except Refusal WriteMany} {f : AbortInfo × Word} (h : writesStop r = some f) :
    ∃ out, r = .ok out ∧ out.failed = some f := by
  cases r with
  | error x => cases h
  | ok out => exact ⟨out, rfl, h⟩

/-- The word at 4 answers ERROR; r1 is 8. -/
def badWord : State := put 1 8#32 (par (fun c => { c with errorRegions := [(4, 4)] }) sup)

/-- The abort there. -/
def abort4 : AbortInfo := ⟨4#32, .external, none⟩

/-- STM of r0 and r1 to 0, and STRD of them: the second word aborts. -/
theorem witness_AbortedTransferWritesNoRegister_stores :
    conditionPassed .al badWord.cpu.cpsr = true ∧
    multiStore (.stm .al ⟨false, true, true⟩ false 13 3#16) badWord = some (.al, true, 0#32, [(0#32, 0#32), (4#32, 8#32)]) ∧
    multiStore (.strd .al ⟨true, false, false⟩ 1 0 (.imm 8#8)) badWord = some (.al, true, 0#32, [(0#32, 0#32), (4#32, 8#32)]) ∧
    ∃ out, writeWords badWord.ctx [(0#32, 0#32), (4#32, 8#32)] badWord.ms = .ok out ∧ out.failed = some (abort4, 4#32) :=
  ⟨by decide +kernel, by decide +kernel, by decide +kernel, writes_of (by decide +kernel)⟩

/-- LDM and LDRD from there: one word has been read when the second aborts. -/
theorem witness_AbortedTransferWritesNoRegister_loads :
    let adr := (addressHalf ⟨true, false, false⟩ 1 (.imm 8#8) badWord).address
    (userForm ⟨true, false, false⟩ = false ∧ (2 : RegNum).val % 2 = 0 ∧ adr.toNat % 8 = 0 ∧
      ∃ out, readWords badWord.ctx [adr, adr + 4#32] badWord.ms = .ok out ∧ out.failed = some (abort4, 4#32) ∧
        out.words.length = 1) ∧
    let regs := listedRegs 0x2004#16
    let start := multipleStart ⟨false, true, true⟩ (badWord.reg 13) regs.length
    0x2004#16 ≠ 0#16 ∧ badWord.cp15.ctrl.a = false ∧
      ∃ out, readWords badWord.ctx (wordsFrom (start &&& 0xFFFFFFFC#32) regs.length) badWord.ms = .ok out ∧
        out.failed = some (abort4, 4#32) ∧ out.words.length = 1 :=
  ⟨⟨by decide +kernel, by decide +kernel, by decide +kernel, reads_of (by decide +kernel)⟩, by decide +kernel,
    by decide +kernel, reads_of (by decide +kernel)⟩

/-- SWP and SWPB where AHB answers with ERROR. -/
theorem witness_AbortedTransferWritesNoRegister_swaps :
    let s := badBus sup
    let a : AbortInfo := ⟨0#32, .external, none⟩
    (s.reg 2).toNat % 4 = 0 ∧ (∃ ms, swapAccess s.ctx (s.reg 2) 15#4 (s.stored 1) s.ms = .abort a ms) ∧
      ∃ ms, swapAccess s.ctx (s.reg 2) (byteLanes s.cp15.ctrl.b (s.reg 2))
        (byteOnLane s.cp15.ctrl.b (s.reg 2) ((s.stored 1).extractLsb' 0 8)) s.ms = .abort a ms :=
  ⟨by decide +kernel, abort_of (by decide +kernel), abort_of (by decide +kernel)⟩

/-- LDC and STC of two words, the second at the word that answers ERROR. -/
theorem witness_AbortedTransferWritesNoRegister_coprocessor :
    let s := withCp twoWords badWord
    let a : CoprocMode := ⟨true, false, false, true⟩
    let adr := (addressCoproc a 1 2#8 s).address
    let ws := [1#32, 2#32]
    (undefinedMode a = false ∧ coprocessorPresent s 6#4 = true ∧ cpReply s.cpAnswers = .accepts ws [] ∧
      s.cp15.ctrl.a = false) ∧
    (∃ out, readWords s.ctx (wordsFrom (adr &&& 0xFFFFFFFC#32) ws.length) s.ms = .ok out ∧ out.failed = some (abort4, 4#32) ∧
      out.words.length = 1) ∧
    ∃ out, writeWords s.ctx ((wordsFrom (adr &&& 0xFFFFFFFC#32) ws.length).zip ws) s.ms = .ok out ∧
      out.failed = some (abort4, 4#32) :=
  ⟨by decide +kernel, reads_of (by decide +kernel), writes_of (by decide +kernel)⟩

/-- The FAR of an external abort: in the last word before 1KB, in the first after it, in a transfer that ends at 4GB; and a fault
that is not external. -/
theorem witness_AbortedTransferWritesNoRegister_far :
    abort4.status = .external ∧ FaultStatus.translationPage ≠ .external ∧
    ((0x3F8#32).toNat % 4 = 0 ∧ (0x3F8#32).toNat + 4 * 3 ≤ 2 ^ 32 ∧ (0x3F8 / 1024 + 1) * 1024 ≤ 0x3F8 + 4 * 2 ∧
      0x3F8 + 4 * 1 < (0x3F8 / 1024 + 1) * 1024 ∧ ¬ 0x3F8 + 4 * 2 < (0x3F8 / 1024 + 1) * 1024) ∧
    (0xFFFFFFFC#32).toNat + 4 * 1 ≤ 2 ^ 32 := by decide +kernel

/-- R542: with that transfer, the FAR is 0x3FC, or the last address. -/
theorem test_external_far : ((multiAbort sup.ctx 0x3F8#32 3 abort4 0x3FC#32).mva = 0x3FC#32 ∧
    (multiAbort sup.ctx 0x3F8#32 3 abort4 0x400#32).mva = 0x400#32) ∧
    (multiAbort sup.ctx 0x3F0#32 4 abort4 0x3F4#32).mva = 0x3FC#32 := by decide +kernel

/-- A load from an address that AHB answers with ERROR, and a store to it. -/
theorem witness_AbortedTransferWritesNoRegister :
    let s := badBus sup
    let a : AbortInfo := ⟨4#32, .external, none⟩
    (∃ l ms, singleLoad (.ldrImm .al ⟨true, true, false⟩ 1 0 4#12) s = some l ∧ conditionPassed l.cond s.cpu.cpsr = true ∧
      l.allowed = true ∧ dataRead l.ctx false l.adr.address s.ms = .abort a ms) ∧
    ∃ l ms, singleStore (.strImm .al ⟨true, true, false⟩ 1 0 4#12) s = some l ∧ conditionPassed l.cond s.cpu.cpsr = true ∧
      l.allowed = true ∧ ∀ lanes data, dataWrite l.ctx false l.adr.address lanes data s.ms = .abort a ms :=
  ⟨⟨_, _, rfl, by decide +kernel, by decide +kernel, rfl⟩,
    ⟨_, (badBus sup).ms.drainBus, rfl, by decide +kernel, by decide +kernel, fun _ _ => rfl⟩⟩

theorem witness_SoftwareInterrupt : conditionPassed .al user.cpu.cpsr = true := by decide +kernel

theorem witness_UndefinedInstructionsTrap :
    undefinedEverywhere (.udf .al 0xF000F#20 0#4) = true ∧ passes (.udf .al 0xF000F#20 0#4) user := by
  refine ⟨by decide +kernel, ?_⟩
  intro c h
  cases h
  decide +kernel

theorem witness_ReturnUndoesEntry :
    let s := at_ 0x8000#32 user
    legalMode s.mode = true ∧ thumbBit s.cpu.cpsr = false ∧ jazelleBit s.cpu.cpsr = false ∧ s.cpu.pc &&& 3#32 = 0#32 := by
  decide +kernel

theorem witness_DataProcessingResults : conditionPassed .al sup.cpu.cpsr = true ∧ (14 : RegNum) ≠ 15 := by decide +kernel

/-- A mode with a legal SPSR, one whose SPSR names no mode, and User mode. -/
theorem witness_DataProcessingToPc :
    (conditionPassed .al (spsr 0x10#32 sup).cpu.cpsr = true ∧ spsrIndex (spsr 0x10#32 sup).mode = some 2 ∧
      legalMode (modeOf ((spsr 0x10#32 sup).cpu.spsr.get 2)) = true) ∧
    (spsrIndex sup.mode = some 2 ∧ legalMode (modeOf (sup.cpu.spsr.get 2)) = false) ∧ spsrIndex user.mode = none := by
  decide +kernel

theorem witness_CompareFlags : conditionPassed .al user.cpu.cpsr = true := by decide +kernel

/-- Each addressing mode, with a base at the bottom of the address space. -/
theorem witness_ShifterOperand :
    ((⟨true, true, true⟩ : AddrMode).p = true ∨ (⟨true, true, true⟩ : AddrMode).w = true) ∧
      ((⟨false, true, true⟩ : AddrMode).p = true ∨ (⟨false, true, true⟩ : AddrMode).w = true) ∧ (14 : RegNum) ≠ 15 ∧
      (0x8001#16).getLsbD (15 : RegNum).val = true ∧ sup.reg 0 = 0#32 := by decide +kernel

theorem witness_AdrAddress : conditionPassed .al sup.cpu.cpsr = true := by decide +kernel

theorem witness_BranchAndLink : conditionPassed .al sup.cpu.cpsr = true ∧ sup.cpu.pc &&& 3#32 = 0#32 := by decide +kernel

theorem witness_BranchExchange : conditionPassed .al (put 14 1#32 sup).cpu.cpsr = true := by decide +kernel

/-- At the last word of the address space, and a byte below it. -/
theorem witness_LoadsReadMemory :
    (∃ l, singleLoad (.ldrImm .al ⟨true, false, true⟩ 1 0 4#12) sup = some l ∧ conditionPassed l.cond sup.cpu.cpsr = true ∧
      l.allowed = true ∧ sup.plain l.adr.address = true ∧ sup.ms.wf = true) ∧
    ∃ l, singleLoad (.ldrsb .al ⟨true, false, false⟩ 1 15 (.imm 5#8)) sup = some l ∧
      conditionPassed l.cond sup.cpu.cpsr = true ∧ l.allowed = true ∧ sup.plain l.adr.address = true :=
  ⟨⟨_, rfl, by decide +kernel, by decide +kernel, by decide +kernel, by decide +kernel⟩,
    ⟨_, rfl, by decide +kernel, by decide +kernel, by decide +kernel⟩⟩

/-- A load to r15 with L4 clear and one with L4 set, a load pair at r14. -/
theorem witness_TransferWritesRegisters :
    (sup.cp15.ctrl.l4 = false ∧ (ctl 0x8000#32 sup).cp15.ctrl.l4 = true) ∧ (14 : RegNum).val % 2 = 0 ∧
      (0 : RegNum).val % 2 = 0 := by decide +kernel

theorem witness_StoresWriteMemory :
    ∃ l, singleStore (.strh .al ⟨true, false, true⟩ 1 0 (.imm 2#8)) sup = some l ∧ conditionPassed l.cond sup.cpu.cpsr = true ∧
      l.allowed = true ∧ sup.plain l.adr.address = true ∧ sup.ms.wf = true :=
  ⟨_, rfl, by decide +kernel, by decide +kernel, by decide +kernel, by decide +kernel⟩

/-- Every word of a short transfer goes straight to AHB. -/
theorem plainWords_of {s : State} {a : Word} {n : Nat}
    (h : ((List.range n).all fun k => s.plain (a + BitVec.ofNat 32 (4 * k))) = true) : plainWords s a n := by
  intro k hk
  exact List.all_eq_true.mp h k (List.mem_range.mpr hk)

/-- The doubleword at the top of the address space. -/
theorem witness_DoublewordTransfers :
    conditionPassed .al sup.cpu.cpsr = true ∧ userForm ⟨true, false, true⟩ = false ∧ (14 : RegNum).val % 2 = 0 ∧
      (addressHalf ⟨true, false, true⟩ 1 (.imm 8#8) sup).address.toNat % 8 = 0 ∧
      plainWords sup (addressHalf ⟨true, false, true⟩ 1 (.imm 8#8) sup).address 2 ∧ sup.ms.wf = true :=
  ⟨by decide +kernel, by decide +kernel, by decide +kernel, by decide +kernel, plainWords_of (by decide +kernel),
    by decide +kernel⟩

/-- A list that wraps past the top, and a list that returns to User mode. -/
theorem witness_LoadMultipleReadsMemory :
    conditionPassed .al sup.cpu.cpsr = true ∧ 0x8003#16 ≠ 0#16 ∧ sup.cp15.ctrl.a = false ∧
      plainWords sup (multipleStart ⟨false, false, true⟩ (sup.reg 1) (listedRegs 0x8003#16).length &&& 0xFFFFFFFC#32)
        (listedRegs 0x8003#16).length ∧
      spsrIndex (spsr 0x10#32 sup).mode = some 2 ∧ legalMode (modeOf ((spsr 0x10#32 sup).cpu.spsr.get 2)) = true ∧
      sup.ms.wf = true :=
  ⟨by decide +kernel, by decide +kernel, by decide +kernel, plainWords_of (by decide +kernel), by decide +kernel,
    by decide +kernel⟩

/-- Another master writes both words of an LDM before its second one is read: the first register has the old word, the second the
new (R588). -/
theorem test_write_between_words :
    let w (a v : Word) : OutsideWrite := ⟨false, wordAddr a, 15#4, v⟩
    let s := put 1 0x8000#32 (mem 0x8000#32 1#32 (mem 0x8004#32 2#32 sup))
    runs 0xE891000C#32 { s with ms := { s.ms with outside := [[], [w 0x8000#32 7#32, w 0x8004#32 8#32]] } } fun t =>
      t.reg 2 == 1#32 && t.reg 3 == 8#32 && t.ms.outside == [] && t.wordAt 0x2000#30 == 7#32 := by decide +kernel

/-- Between the halves of a swap another AHB master's write waits and a DMA write to the data TCM does not (R117, R588). -/
theorem test_held_bus :
    let bus : OutsideWrite := ⟨false, 0x2000#30, 15#4, 7#32⟩
    let dma : OutsideWrite := ⟨true, 0#30, 15#4, 9#32⟩
    let u := ({ sup.ms with outside := [[bus, dma]] }).meanwhile { sup.ctx with held := true }
    u.outside = [[bus]] ∧ u.mem = sup.ms.mem ∧ u.dtcm.readWord 0#30 = 9#32 := by decide +kernel

/-- With P = 1 the hardware may remember a fault that it walked ahead to, and puts no entry anywhere (R192, R227, R336). -/
theorem test_fault_remembered_with_preserve :
    let r (s : State) : MemSys := speculate s.ctx { s.ms with preserve := true } 0x00400000#32 1#32
    (r (noTlb sup)).cachedFaults = [⟨(0x00400000#32 : Word).extractLsb' 10 22, 20, none⟩] ∧
      (r (mem 0x10#32 0x0040041E#32 (noTlb sup))).tlbMain = (noTlb sup).ms.tlbMain := by decide +kernel

/-- The list of r0, r1 and r15 with three words, in a mode that may return, in User mode, and where the SPSR names no mode. -/
theorem witness_LoadMultipleWritesRegisters :
    [1#32, 2#32, 0x8000#32].length = (listedRegs 0x8003#16).length ∧ (0x8003#16).getLsbD 15 = true ∧
      (spsrIndex (spsr 0x10#32 sup).mode = some 2 ∧ legalMode (modeOf ((spsr 0x10#32 sup).cpu.spsr.get 2)) = true) ∧
      spsrIndex user.mode = none ∧ (spsrIndex sup.mode = some 2 ∧ legalMode (modeOf (sup.cpu.spsr.get 2)) = false) := by
  decide +kernel

theorem witness_StoreMultipleWritesMemory :
    conditionPassed .al sup.cpu.cpsr = true ∧ sup.ms.wf = true ∧ sup.cp15.ctrl.a = false ∧
      plainWords sup (multipleStart ⟨true, false, true⟩ (sup.reg 13) (listedRegs 0xFFFF#16).length &&& 0xFFFFFFFC#32)
        (listedRegs 0xFFFF#16).length :=
  ⟨by decide +kernel, by decide +kernel, by decide +kernel, plainWords_of (by decide +kernel)⟩

theorem witness_SwapExchanges :
    conditionPassed .al sup.cpu.cpsr = true ∧ sup.plain (sup.reg 2) = true ∧ sup.ms.wf = true ∧
      (sup.reg 2).toNat % 4 = 0 := by decide +kernel

/-- A misaligned word, halfword and doubleword with A = 1. -/
theorem witness_MisalignedTransferAborts :
    let s := put 1 0x8001#32 (ctl 2#32 sup)
    conditionPassed .al s.cpu.cpsr = true ∧ s.cp15.ctrl.a = true ∧
      (alignedTransfer (.ldm .al ⟨false, true, false⟩ false 1 0x3#16) s = some (.al, 0x8001#32, 4) ∧ (0x8001#32).toNat % 4 ≠ 0) ∧
      (alignedTransfer (.strh .al ⟨true, true, false⟩ 1 0 (.imm 0#8)) s = some (.al, 0x8001#32, 2) ∧ (0x8001#32).toNat % 2 ≠ 0) ∧
      alignedTransfer (.ldrd .al ⟨true, true, false⟩ 1 0 (.imm 3#8)) s = some (.al, 0x8004#32, 8) ∧ (0x8004#32).toNat % 8 ≠ 0 := by
  decide +kernel

/-- A misaligned LDC with A = 1. -/
theorem witness_MisalignedTransferAborts_coprocessor :
    let s := put 1 0x8001#32 (ctl 2#32 (withCp oneWord sup))
    let a : CoprocMode := ⟨true, true, false, false⟩
    conditionPassed .al s.cpu.cpsr = true ∧ (6#4 : BitVec 4) ≠ 14#4 ∧ undefinedMode a = false ∧ coprocessorPresent s 6#4 = true ∧
      cpReply s.cpAnswers = .accepts [1#32] [] ∧ s.cp15.ctrl.a = true ∧ (addressCoproc a 1 1#8 s).address.toNat % 4 ≠ 0 := by
  decide +kernel

/-- A misaligned halfword and swap with A = 0, an odd register, a mode without SPSR. -/
theorem witness_UnpredictableFormsStop :
    let s := put 1 0x8001#32 sup
    conditionPassed .al s.cpu.cpsr = true ∧ s.cp15.ctrl.a = false ∧
      (alignedTransfer (.ldrh .al ⟨true, true, false⟩ 1 0 (.imm 0#8)) s = some (.al, 0x8001#32, 2) ∧ (0x8001#32).toNat % 2 ≠ 0) ∧
      (alignedTransfer (.swp .al 1 0 2) s = some (.al, 0x8001#32, 4) ∧ (0x8001#32).toNat % 4 ≠ 0) ∧
      (userForm ⟨true, true, false⟩ = false ∧ (15 : RegNum).val % 2 = 1) ∧ conditionPassed .al user.cpu.cpsr = true ∧
      spsrIndex user.mode = none := by decide +kernel

/-- A word written and read back: through AHB, the data TCM and the instruction TCM. -/
theorem witness_LoadReturnsLatestStore :
    (∃ ms ms', writeAt sup.ctx false 0x40#32 ⟨0x40#32, false, false⟩ 15#4 7#32 sup.ms = .ok () ms ∧
      readAt sup.ctx false 0x40#32 ⟨0x40#32, false, false⟩ ms = .ok 7#32 ms') ∧
    (∃ ms ms', writeAt (withTcm sup).ctx false 0x1FFC#32 ⟨0x1FFC#32, false, false⟩ 15#4 7#32 (withTcm sup).ms = .ok () ms ∧
      readAt (withTcm sup).ctx false 0x1FFC#32 ⟨0x1FFC#32, false, false⟩ ms = .ok 7#32 ms') ∧
    (∃ ms ms', writeAt (withTcm sup).ctx false 0x0#32 ⟨0x0#32, false, false⟩ 15#4 7#32 (withTcm sup).ms = .ok () ms ∧
      readAt (withTcm sup).ctx false 0x0#32 ⟨0x0#32, false, false⟩ ms = .ok 7#32 ms') ∧
    sup.ms.wf = true ∧ (withTcm sup).ms.wf = true ∧ busError sup.cfg (wordAddr 0x40#32) = false ∧
    busError (withTcm sup).cfg (wordAddr 0x1FFC#32) = false :=
  ⟨⟨_, _, rfl, rfl⟩, ⟨_, _, rfl, rfl⟩, ⟨_, _, rfl, rfl⟩, by decide +kernel, by decide +kernel, by decide +kernel,
    by decide +kernel⟩

/-- And in a line that the DCache holds, with a write-back region. -/
theorem witness_LoadReturnsLatestStore_cache :
    let s := ctl 4#32 withLine
    let t : Translated := ⟨0x00110040#32, true, true⟩
    ∃ ms ms', writeAt s.ctx false 0x00010040#32 t 15#4 7#32 s.ms = .ok () ms ∧
      readAt s.ctx false 0x00010040#32 t ms = .ok 7#32 ms' ∧ s.ms.wf = true ∧
      busError s.cfg (wordAddr 0x00110040#32) = false :=
  ⟨_, _, rfl, rfl, by decide +kernel, by decide +kernel⟩

/-- A mode with an SPSR. -/
theorem witness_MrsReadsStatus : conditionPassed .al sup.cpu.cpsr = true ∧ spsrIndex sup.mode = some 2 := by decide +kernel

theorem witness_MsrWritesStatus :
    (∃ rm, Instr.msrReg .al false 15#4 1 = .msrReg .al false 15#4 rm ∧ user.reg 1 = user.reg rm) ∧
      conditionPassed .al user.cpu.cpsr = true ∧ spsrIndex sup.mode = some 2 :=
  ⟨⟨1, rfl, rfl⟩, by decide +kernel, by decide +kernel⟩

/-- A defined transfer in User mode, and an undefined one in Supervisor. -/
theorem witness_Cp15TransfersTrapInUserMode :
    (isCp15Transfer (.mrcId .al 0) = true ∧ passes (.mrcId .al 0) user ∧ user.mode = 0b10000#5) ∧
      undefinedCp15Access (.cp15ReadC8 .al 0 7#4 0#3) = true ∧ passes (.cp15ReadC8 .al 0 7#4 0#3) sup ∧
      sup.mode ≠ 0b10000#5 := by
  refine ⟨⟨by decide +kernel, ?_, by decide +kernel⟩, by decide +kernel, ?_, by decide +kernel⟩ <;>
    · intro c h
      cases h
      decide +kernel

theorem witness_Cp15RegisterReads :
    (∃ d, cp15Reading (.mrcControl .al 15) sup = some (15, d)) ∧ passes (.mrcControl .al 15) sup ∧ sup.mode ≠ 0b10000#5 := by
  refine ⟨⟨_, rfl⟩, ?_, by decide +kernel⟩
  intro c h
  cases h
  decide +kernel

/-- A word that keeps to the reserved bits, by zeros and by preserving the word read; one that does not; r15. -/
theorem witness_Cp15RegisterWrites :
    let s := put 1 0x4000#32 (put 2 0x4001#32 (put 3 0x80000200#32 sup))
    let l := { s.lastRead with dfsr := some 0x80000200#32 }
    ((∃ f, cp15Writing (.mcrTtbr .al 1) = some (.al, 1, f)) ∧ ∃ f, cp15Writing (.mcrTlbLockdown .al 15) = some (.al, 15, f)) ∧
      conditionPassed .al s.cpu.cpsr = true ∧ s.mode ≠ 0b10000#5 ∧
      keepsReserved (.mcrTtbr .al 1) s.lastRead (s.reg 1) = true ∧ keepsReserved (.mcrTtbr .al 2) s.lastRead (s.reg 2) = false ∧
      keepsReserved (.mcrDfsr .al 3) l (s.reg 3) = true ∧ keepsReserved (.mcrDfsr .al 3) s.lastRead (s.reg 3) = false :=
  ⟨⟨⟨_, rfl⟩, ⟨_, rfl⟩⟩, by decide +kernel⟩

/-- With two TCMs: regions that a write makes overlap, at the last address and at the next block; words that keep to the reserved
bits and words that do not. -/
theorem witness_ControlAndTcmRegionWrites :
    let s := withTcm sup
    let k (i : Instr) (v : Word) : Bool := keepsReserved i s.lastRead v
    ((0x000500F9#32 : Word).getLsbD 7 = true ∧ k (.mcrControl .al 1) 0x000500F9#32 = true ∧ s.cp15.ctrl.b = false) ∧
    (conditionPassed .al s.cpu.cpsr = true ∧ s.mode ≠ 0b10000#5) ∧
      (k (.mcrControl .al 1) 0x00050079#32 = true ∧ k (.mcrControl .al 1) 1#32 = false) ∧
      (k (.mcrDTcmRegion .al 1) 1#32 = true ∧ k (.mcrDTcmRegion .al 1) 3#32 = false) ∧
      (k (.mcrITcmRegion .al 1) 0x00002001#32 = true ∧ k (.mcrITcmRegion .al 1) 0x40#32 = false) ∧
      tcmRegionsOverlap s.cfg s.cp15.itcm (regionOf 1#32) = true ∧
      tcmRegionsOverlap s.cfg s.cp15.itcm (regionOf 0x00001001#32) = false ∧
      tcmRegionsOverlap { s.cfg with itcmSize := .kb8 } s.cp15.itcm (regionOf 0x00001001#32) = true ∧
      tcmRegionsOverlap s.cfg s.cp15.itcm (regionOf 0#32) = false ∧
      tcmRegionsOverlap s.cfg (regionOf 0x00002001#32) s.cp15.dtcm = false := by decide +kernel

/-- An enabling write with both TCMs fitted, and one of another register. -/
theorem witness_Cp15WriteThenRead :
    let s := put 1 0x00003001#32 (withTcm sup)
    let p : Cp15Pair := ⟨.mcrDTcmRegion .al 1, .mrcDTcmRegion .al 2, 0xFFFFF001#32⟩
    (p ∈ cp15Pairs 1 2 ∧ s.mode ≠ 0b10000#5 ∧ keepsReserved p.write s.lastRead (s.reg 1) = true ∧ regionsApart p.write s = true) ∧
      (∃ t, exec p.write s = .next t ∧ true = true) ∧
      keepsReserved (.mcrDacr .al 1) s.lastRead (s.reg 1) = true ∧ regionsApart (.mcrDacr .al 1) s = true :=
  ⟨by decide +kernel, next_of_then (by decide +kernel), by decide +kernel⟩

/-- An invalidation and a clean, with a dirty line held. -/
theorem witness_CacheMaintenance :
    (conditionPassed .al withLine.cpu.cpsr = true ∧ withLine.mode ≠ 0b10000#5 ∧ withLine.pins.icacheRam = true ∧
      withLine.pins.dcacheRam = true) ∧
    (∃ fi fd, cacheInvalidation (.mcrInvalidateDCacheMva .al 1) withLine.cfg = some (.al, 1, fi, fd)) ∧
    (∃ f inval, cacheClean (.mcrCleanInvalidateDCacheSetWay .al 15) withLine.cfg = some (.al, 15, f, inval)) ∧
    withLine.ms.mem.wf = true ∧ (0x11003F : Nat) / 32 ≠ line0.pa.toNat :=
  ⟨by decide +kernel, ⟨_, _, rfl⟩, ⟨_, _, rfl⟩, by decide +kernel⟩

theorem witness_TestAndCleanReportsClean :
    conditionPassed .al withLine.cpu.cpsr = true ∧ withLine.mode ≠ 0b10000#5 ∧ withLine.pins.icacheRam = true ∧
      withLine.pins.dcacheRam = true ∧ (∀ l ∈ sup.ms.dcache, l.dirty = false) ∧ sup.pins.dcacheRam = true ∧
      (∃ l ∈ withLine.ms.dcache, l.dirty = true) ∧ withLine.cp15.dbgovr.getLsbD 6 = false ∧ (64#7).getLsbD 6 = true := by
  decide +kernel

/-- Nothing pending for a TCM; a write pending for one whose RAM has no power. -/
theorem witness_DrainEmptiesBuffers :
    let s := { sup with
      ms := { sup.ms with dtcmWb := [⟨0#30, 15#4, 5#32, false⟩] }, pins := { sup.pins with dtcmRam := false } }
    (conditionPassed .al sup.cpu.cpsr = true ∧ sup.mode ≠ 0b10000#5 ∧ sup.ms.itcmWb = [] ∧ sup.ms.dtcmWb = []) ∧
      conditionPassed .al s.cpu.cpsr = true ∧ s.mode ≠ 0b10000#5 ∧ s.ms.dtcmWb ≠ [] ∧ s.pins.dtcmRam = false := by decide +kernel

/-- A line to fill, with three ways locked and with all four. -/
theorem witness_PrefetchICacheLine :
    let s := cp (fun k => { k with ilock := 7#4 }) (ctl 0x1000#32 sup)
    (conditionPassed .al s.cpu.cpsr = true ∧ s.mode ≠ 0b10000#5 ∧ s.pins.icacheRam = true ∧ s.pins.dcacheRam = true ∧
      s.cp15.ctrl.m = false) ∧
    (∀ l ∈ s.ms.icache, l.block ≠ (mcrValue 1 s).extractLsb' 5 27) ∧
    (s.cp15.ctrl.i = true ∧ (s.cp15.remap.extractLsb' 12 2).getLsbD 1 = true ∧ s.cp15.cachedbg.getLsbD 1 = false ∧
      tcmOffset s.cfg.itcmSize s.cp15.itcm (mcrValue 1 s &&& 0xFFFFFFE0#32) = none) ∧
    (s.cp15.ilock.getLsbD (3#2).toNat = false ∧ s.cp15.ilock.getLsbD (2#2).toNat = true) ∧
    (cp (fun k => { k with ilock := 15#4 }) s).cp15.ilock = 15#4 ∧
    ∀ n : Fin 8, busError s.cfg (lineWord 0#27 n) = false := by decide +kernel

/-- With all four ways locked a linefill uses way 3, and with three of them the fourth (R135). -/
theorem test_victim_of_locked (choice : Word) : victimWay 15#4 choice = 3#2 ∧ victimWay 0b1011#4 choice = 2#2 := by
  simp [victimWay, openWays, Nat.mod_one]

/-- A line that is held. -/
theorem witness_PrefetchICacheLine_held :
    let s := put 1 0x0001005F#32 { withLine with ms := { withLine.ms with icache := [line0] } }
    (1 : RegNum) ≠ 15 ∧ ∃ l ∈ s.ms.icache, l.block = (mcrValue 1 s).extractLsb' 5 27 := by decide +kernel

/-- With main loads off, no fault remembered, nothing buffered, no line held and no other agent's write to come, the hardware by
itself can only drop entries. -/
theorem churn_of_loadsOff (k : Ctx) (ms : MemSys) (h : k.cp15.mmudbg = 0x30#8) (hf : ms.cachedFaults = [])
    (hw : ms.wbuf = []) (hi : ms.itcmWb = []) (hd : ms.dtcmWb = []) (hc : ms.dcache = []) (ho : ms.outside = []) :
    churn k ms = { ms with tlbMain := dropMain (ms.drawn 0 ++ ms.drawn 1) ms.tlbMain, draws := ms.draws + 4 } := by
  have hm : (ms.dropUnlocked.spend 2).meanwhile k = ms.dropUnlocked.spend 2 :=
    MemSys.meanwhile_idle hw hi hd (by simp [MemSys.spend, MemSys.dropUnlocked, hc]) ho
  rw [churn, speculate, hm]
  simp [walkedAhead, mayWalkAhead, mainLoadOff, rememberFault, MemSys.dropUnlocked, MemSys.spend, h, hf, dropFaults]

/-- A translation after what the hardware did by itself. -/
theorem translate_of_churn {k : Ctx} {kind : AccessKind} {mva : Word} {ms ms' : MemSys} (h : churn k ms = ms')
    (hp : k.pins.mmuRam = true) :
    Machine.translate k kind mva ms =
      match lookup k.cp15 kind mva ms' with
      | .stop r => .stop r
      | .hit e => useEntry k kind mva e ms'
      | .miss => missEntry k kind mva ms' := by
  subst h
  unfold Machine.translate
  exact if_neg (by simp [hp])

/-- An empty TLB stays empty whatever is dropped. -/
theorem dropMain_empty (mask : BitVec 64) :
    dropMain mask (Vector.replicate 64 (TlbEntry.ofBits 0#57)) = Vector.replicate 64 (TlbEntry.ofBits 0#57) := by
  ext i hi : 1
  simp only [dropMain, Vector.getElem_mapFinIdx, Vector.getElem_replicate]
  split <;> rfl

/-- With the MMU on, an address whose descriptor is 0: a section translation fault. -/
theorem witness_PrefetchICacheLine_fault :
    let s := cp (fun k => { k with mmudbg := 0x30#8 }) (ctl 1#32 (noTlb sup))
    (1 : RegNum) ≠ 15 ∧ s.cp15.ctrl.m = true ∧ (∀ l ∈ s.ms.icache, l.block ≠ (mcrValue 1 s).extractLsb' 5 27) ∧
      ∃ a ms, translate s.ctx .fetch (mcrValue 1 s &&& 0xFFFFFFE0#32) (mcrSpend 1 s).ms = .abort a ms := by
  refine ⟨by decide +kernel, by decide +kernel, by decide +kernel, ⟨0#32, .translationSection, none⟩, ?_⟩
  refine abort_of ?_
  rw [translate_of_churn (churn_of_loadsOff _ _ rfl rfl rfl rfl rfl rfl rfl) rfl]
  show abortOf (match lookup _ _ _ (MemSys.mk _ _ _ _ _ _ _ _ (dropMain _ (Vector.replicate 64 (TlbEntry.ofBits 0#57)))
      _ _ _ _ _ _ _) with
    | .stop r => _
    | .hit e => _
    | .miss => _) = _
  rw [dropMain_empty]
  decide +kernel

/-- With the MMU on, an address that a cachable entry of the lockdown part maps. -/
theorem witness_PrefetchICacheLine_mapped :
    let s := put 1 0x00400020#32 (cp (fun k => { k with dacr := 1#32, mmudbg := 0x30#8 }) (ctl 0x1001#32 { noTlb sup with
      ms := { (noTlb sup).ms with tlbLock := (noTlb sup).ms.tlbLock.set 2 { block4 with c := true } } }))
    (s.cp15.ctrl.m = true ∧ s.cp15.ctrl.i = true ∧ (s.cp15.remap.extractLsb' (8 + 4 * 1 + 2 * 0) 2).getLsbD 1 = true ∧
      s.cp15.cachedbg.getLsbD 1 = false ∧ tcmOffset s.cfg.itcmSize s.cp15.itcm 0x00400020#32 = none) ∧
    (∀ l ∈ s.ms.icache, l.block ≠ (mcrValue 1 s).extractLsb' 5 27) ∧
      ∃ ms, translate s.ctx .fetch (mcrValue 1 s &&& 0xFFFFFFE0#32) (mcrSpend 1 s).ms = .ok ⟨0x00400020#32, true, false⟩ ms := by
  refine ⟨by decide +kernel, by decide +kernel, ok_of ?_⟩
  rw [translate_of_churn (churn_of_loadsOff _ _ rfl rfl rfl rfl rfl rfl rfl) rfl]
  show okOf (match lookup _ _ _ (MemSys.mk _ _ _ _ _ _ _ _ (dropMain _ (Vector.replicate 64 (TlbEntry.ofBits 0#57)))
      _ _ _ _ _ _ _) with
    | .stop r => _
    | .hit e => _
    | .miss => _) = _
  rw [dropMain_empty]
  decide +kernel

/-- Both kinds. -/
theorem witness_TlbInvalidation :
    (tlbInvalidation (.mcrInvalidateTlb .al 15) = some (.al, 15, false) ∧
      tlbInvalidation (.mcrInvalidateITlb .al 1) = some (.al, 1, false) ∧
      tlbInvalidation (.mcrInvalidateDTlbEntry .al 1) = some (.al, 1, true)) ∧
      (sup.reg 1 = 0#32 ∧ (put 1 1#32 sup).reg 1 ≠ 0#32 ∧ (put 1 1#32 sup).mode ≠ 0b10000#5) ∧
      conditionPassed .al sup.cpu.cpsr = true ∧ sup.mode ≠ 0b10000#5 ∧ sup.pins.mmuRam = true := by decide +kernel

theorem witness_TlbTestOperations :
    (let s := put 1 0x3E0#32 (put 2 0x300#32 sup);
      s.reg 1 &&& 0x000003E0#32 ≠ 0#32 ∧ s.reg 2 &&& 0x00000300#32 ≠ 0#32 ∧ s.mode ≠ 0b10000#5) ∧
    (let s := put 1 0xFFFFFC1F#32 (put 2 0xFFFFFCFF#32 sup);
      s.reg 1 &&& 0x000003E0#32 = 0#32 ∧ s.reg 2 &&& 0x00000300#32 = 0#32 ∧ s.mode ≠ 0b10000#5) ∧
    conditionPassed .al sup.cpu.cpsr = true ∧ sup.mode ≠ 0b10000#5 ∧ sup.pins.mmuRam = true := by decide +kernel

/-- Nobody there; no answer yet; told to wait; told that nobody is there; coprocessors 14 and 15. -/
theorem witness_ExternalCoprocessorHandshake :
    let w (n : BitVec 4) : Instr := .coprocUnconditional 2#2 0#12 n 0#8
    (externalNumber (w 6#4) = some 6#4 ∧ (w 6#4).wellFormed = true ∧ passes (w 6#4) sup ∧ coprocessorPresent sup 6#4 = false) ∧
    (coprocessorPresent (withCp [] sup) 6#4 = true ∧ (withCp [] sup).cpAnswers = []) ∧
    ((withCp [drive 0#2 7#32] sup).cpAnswers = [drive 0#2 7#32] ∧ (combineDrives (drive 0#2 7#32)).chs = 0b00#2) ∧
    ((withCp [[]] sup).cpAnswers = [[]] ∧ (combineDrives []).chs = 0b10#2) ∧
    (externalNumber (w 14#4) = some 14#4 ∧ (w 14#4).wellFormed = true) ∧
    externalNumber (w 15#4) = some 15#4 ∧ (w 15#4).wellFormed = true := by
  refine ⟨⟨by decide +kernel, by decide +kernel, ?_, by decide +kernel⟩, by decide +kernel⟩
  intro c h
  cases h

/-- CPBURST comes with the first answer and is kept while the instruction busy-waits, and that is no execution (R465, R467). -/
theorem test_busy_wait_keeps_burst :
    let s := { withCp [[⟨0b00#2, 0#32, 3#4⟩], [⟨0b00#2, 0#32, 0#4⟩]] sup with executed := true }
    runs 0xED910600#32 s fun t => t.cpPins.waiting && t.cpPins.burst == some 3#4 && !t.executed &&
      then_ (exec (.ldcExt .al ⟨true, true, false, false⟩ 1 0#4 6#4 0#8) t) fun u => announcedBurst u == 3#4 := by
  decide +kernel

/-- The unconditional LDC2 and STC2 transfer words, the other unconditional words nothing (R6). -/
theorem test_ldc2_size :
    (decode 0xFD910600#32).bind accessSize = some .word ∧ (decode 0xFE000600#32).bind accessSize = none := by decide +kernel

/-- The words that are Undefined by their addressing bits, and an answer of GO and LAST by two coprocessors. -/
theorem witness_ExternalCoprocessorHandshake_forms :
    (conditionPassed .al sup.cpu.cpsr = true ∧ (⟨false, false, false, false⟩ : CoprocMode).p = false) ∧
    ((0x1FF#12).extractLsb' 9 3 = 0#3 ∧ (6#4 : BitVec 4) ≠ 15#4) ∧
    (combineDrives (drive 0b01#2 1#32 ++ drive 0b10#2 0#32)).chs = 0b01#2 ∧
    (combineDrives (drive 0b11#2 1#32 ++ drive 0b10#2 0#32)).chs = 0b11#2 := by decide +kernel

theorem witness_ExternalCoprocessorTransfers :
    let s := withCp twoWords sup
    (conditionPassed .al s.cpu.cpsr = true ∧ (6#4 : BitVec 4) ≠ 14#4 ∧ coprocessorPresent s 6#4 = true ∧
      cpReply s.cpAnswers = .accepts [1#32, 2#32] []) ∧
    ((6#4 : BitVec 4) ≠ 15#4 ∧ (0#2 : BitVec 2) ≠ 3#2 ∧ (2#2 : BitVec 2) ≠ 3#2) ∧ [1#32, 2#32][0]? = some 1#32 ∧
      [1#32, 2#32][1]? = some 2#32 := by decide +kernel

theorem witness_ExternalCoprocessorMemory :
    let s := withCp twoWords sup
    let a : CoprocMode := ⟨true, true, false, true⟩
    conditionPassed .al s.cpu.cpsr = true ∧ undefinedMode a = false ∧ coprocessorPresent s 6#4 = true ∧
      cpReply s.cpAnswers = .accepts [1#32, 2#32] [] ∧ [1#32, 2#32].length ≤ 16 ∧
      s.cp15.ctrl.a = false ∧ plainWords s ((addressCoproc a 1 0#8 s).address &&& 0xFFFFFFFC#32) 2 ∧ s.ms.wf = true :=
  ⟨by decide +kernel, by decide +kernel, by decide +kernel, by decide +kernel, by decide +kernel, by decide +kernel,
    plainWords_of (by decide +kernel), by decide +kernel⟩

/-- The last address below 32MB, the first at it, and the MMU off. -/
theorem witness_FcseTranslation :
    ((ctl 1#32 sup).cp15.ctrl.m = true ∧ (0x01FFFFFF#32).toNat < 2 ^ 25) ∧ 2 ^ 25 ≤ (0x02000000#32).toNat ∧
      sup.cp15.ctrl.m = false := by decide +kernel

/-- Each of the four fields, and the access that the table leaves open. -/
theorem witness_DomainCheck :
    ((0x1B#32 >>> (2 * (3#4).toNat)) &&& 3#32 = 0#32 ∧ (0x1B#32 >>> (2 * (1#4).toNat)) &&& 3#32 = 2#32 ∧
      (0x1B#32 >>> (2 * (0#4).toNat)) &&& 3#32 = 3#32 ∧ (0x1B#32 >>> (2 * (2#4).toNat)) &&& 3#32 = 1#32) ∧
    permitted 3#2 false false false .write = some true ∧ permitted 0#2 true true true .read = none := by decide +kernel

theorem witness_AccessPermissions :
    let k := (ctl 0x300#32 (cp (fun c => { c with dacr := 1#32 }) sup)).ctx
    let e := { block4 with ap := 0#2 }
    (k.cp15.dacr >>> (2 * e.domain.toNat)) &&& 3#32 = 1#32 ∧ e.ap = 0#2 ∧ k.cp15.ctrl.s = true ∧ k.cp15.ctrl.r = true := by
  decide +kernel

/-- The descriptor at 0x10 (MVA 0x00400000, TTBR 0): absent memory, no descriptor, a section. -/
theorem witness_FirstLevelWalk :
    (∀ pick mva, descriptorUnpowered sup.ctx pick (firstLevelAddress 0#18 mva) = false) ∧
    (∀ pick pa, descriptorUnpowered (badBus sup).ctx pick pa = false) ∧
    (readDescriptor (badBus sup).ctx (badBus sup).ms false (firstLevelAddress 0#18 0#32) = none) ∧
    (readDescriptor sup.ctx sup.ms false (firstLevelAddress 0#18 0x00400000#32) = some 0#32) ∧
    readDescriptor sup.ctx (mem 0x10#32 0x0070041E#32 sup).ms false (firstLevelAddress 0#18 0x00400000#32) =
        some 0x0070041E#32 ∧
      (0x0070041E#32).extractLsb' 0 2 = 2#2 ∧ (0x0070041E#32).extractLsb' 12 8 = 0#8 ∧ (0x0070041E#32).getLsbD 9 = false ∧
      (0x0070041E#32).getLsbD 4 = true :=
  ⟨fun _ _ => rfl, fun _ _ => rfl, by decide +kernel⟩

/-- A section with a wrong fixed bit. -/
theorem witness_FirstLevelWalk_wrong :
    readDescriptor sup.ctx (mem 0x10#32 0x0070061E#32 sup).ms true (firstLevelAddress 0#18 0x00400000#32) =
        some 0x0070061E#32 ∧
      (0x0070061E#32).extractLsb' 0 2 = 2#2 ∧ (0x0070061E#32).getLsbD 9 = true := by decide +kernel

/-- Tables in a TCM without power (R585, U52): a walk that the TCM answers is refused, one that AHB answers is not. -/
theorem witness_FirstLevelWalk_unpowered :
    let s := withTcm sup
    let k : Ctx := { s.ctx with pins := { s.pins with itcmRam := false } }
    (descriptorUnpowered k true (firstLevelAddress 0#18 0x00400000#32) = true ∧
      walk k s.ms s.ms 1#32 0x00400000#32 = .stop .ramPoweredDown) ∧
    descriptorUnpowered k false (firstLevelAddress 0#18 0x00400000#32) = false ∧
    s.pins.dtcmRam = true ∧ s.pins.itcmRam = true := by decide +kernel

/-- A coarse table in a DTCM without power, reached from a first-level table outside it. -/
theorem witness_SecondLevelWalk_unpowered :
    let s := mem 0x10#32 0x00001011#32 (par (fun c => { c with itcmSize := .absent }) (withTcm sup))
    let k : Ctx := { s.ctx with pins := { s.pins with dtcmRam := false } }
    descriptorUnpowered k false (firstLevelAddress 0#18 0x00400000#32) = false ∧
      readDescriptor k s.ms false (firstLevelAddress 0#18 0x00400000#32) = some 0x00001011#32 ∧
      (0x00001011#32).extractLsb' 2 3 = 0b100#3 ∧
      descriptorUnpowered k true (secondLevelAddress false 0x00001011#32 0x00400000#32) = true := by decide +kernel

/-- A coarse table at 0x00008000 with a large page, and a fine table there with a tiny page. -/
theorem witness_SecondLevelWalk :
    let c := mem 0x10#32 0x00008031#32 (mem 0x8000#32 0x00700001#32 sup)
    let f := mem 0x10#32 0x00008033#32 (mem 0x8000#32 0x00700033#32 sup)
    let first (s : State) : Option Word := readDescriptor s.ctx s.ms true (firstLevelAddress 0#18 0x00400000#32)
    (first c = some 0x00008031#32 ∧ (0x00008031#32).extractLsb' 0 2 = 1#2 ∧ (0x00008031#32).extractLsb' 2 3 = 0b100#3 ∧
      (0x00008031#32).getLsbD 9 = false ∧
      readDescriptor c.ctx c.ms false (secondLevelAddress false 0x00008031#32 0x00400000#32) = some 0x00700001#32 ∧
      (0x00700001#32).extractLsb' 0 2 = 1#2 ∧ (0x00700001#32).extractLsb' 12 4 = 0#4) ∧
    (first f = some 0x00008033#32 ∧ (0x00008033#32).extractLsb' 0 2 = 3#2 ∧ (0x00008033#32).extractLsb' 2 3 = 0b100#3 ∧
      (0x00008033#32).extractLsb' 9 3 = 0#3 ∧
      readDescriptor f.ctx f.ms false (secondLevelAddress true 0x00008033#32 0x00400000#32) = some 0x00700033#32 ∧
      (0x00700033#32).extractLsb' 0 2 = 3#2 ∧ (0x00700033#32).extractLsb' 6 4 = 0#4) := by
  decide +kernel

/-- The other types and the wrong bits; a table whose memory answers ERROR. -/
theorem witness_SecondLevelWalk_others :
    let s := mem 0x2010#32 0x00000031#32 (cp (fun k => { k with ttbr := 0#18 }) (badBus sup))
    ((0#32).extractLsb' 0 2 = 0#2 ∧ (0x00701001#32).extractLsb' 0 2 = 1#2 ∧ (0x00701001#32).extractLsb' 12 4 ≠ 0#4 ∧
      (0x00700FF2#32).extractLsb' 0 2 = 2#2 ∧ (0x00700073#32).extractLsb' 0 2 = 3#2 ∧ (0x00700073#32).extractLsb' 6 4 ≠ 0#4) ∧
    ¬ (0x00008021#32).extractLsb' 2 3 = 0b100#3 ∧
    readDescriptor s.ctx s.ms false (firstLevelAddress 0#18 0x80400000#32) = some 0x00000031#32 ∧
    readDescriptor s.ctx s.ms false (secondLevelAddress false 0x00000031#32 0x80400000#32) = none := by decide +kernel

/-- With no TCM, a bus without errors and nothing in memory, every walk ends in a section translation fault. -/
theorem walk_unmapped {k : Ctx} {ms : MemSys} (hi : k.cfg.itcmSize = .absent) (hd : k.cfg.dtcmSize = .absent)
    (he : k.cfg.errorRegions = []) (hm : ms.mem = []) (later : MemSys) (picks mva : Word) :
    walk k ms later picks mva = .fault .translationSection none := by
  have hr (word : BitVec 30) : Memory.readWord [] word = 0#32 := by
    show wordOfLanes 0#8 0#8 0#8 0#8 = 0#32
    decide
  simp [walk, descriptorUnpowered, readDescriptor, tcmOffset, TcmSize.log2, busError, hi, hd, he, hm, hr]

/-- With nothing buffered and no line held the drains change nothing. -/
theorem drainedAt_idle {k : Ctx} {ms : MemSys} (n : Nat) (hw : ms.wbuf = []) (hi : ms.itcmWb = []) (hd : ms.dtcmWb = [])
    (hc : ms.dcache = []) (ho : ms.outside = []) : drainedAt n k ms = { ms with draws := n } :=
  MemSys.meanwhile_idle (ms := { ms with draws := n }) hw hi hd (by simp [hc]) ho

/-- A walk draws nothing. -/
theorem walk_draws (k : Ctx) (ms later : MemSys) (n m : Nat) (picks mva : Word) :
    walk k { ms with draws := n } { later with draws := m } picks mva = walk k ms later picks mva := rfl

/-- The section descriptor at 0x10. -/
theorem section_walked (picks : Word) :
    let s := mem 0x10#32 0x0040041E#32 (noTlb sup)
    let ms := { s.ms with preserve := true, victim := 7#3 }
    walk s.ctx ms ms picks 0x00400000#32 =
      .entry (makeEntry 20 0b1011#4 0x00400000#32 0x00400000#32 0#4 1#2 true true) := rfl

/-- A section walked with the preserve bit set, and an entry of the lockdown part that matches, with nothing else to be walked. -/
theorem witness_LockdownTlb :
    let s := mem 0x10#32 0x0040041E#32 (noTlb sup)
    let ms := { s.ms with preserve := true, victim := 7#3 }
    let r := noTlb sup
    let held := { r.ms with tlbLock := r.ms.tlbLock.set 2 block4 }
    (s.pins.mmuRam = true ∧ ms.preserve = true ∧ missForced s.cp15 .read = false ∧ ms.cachedFaults = [] ∧
      (∀ f ∈ ms.tlbLock.toList, f.covers 0x00400000#32 = false) ∧ (∀ f ∈ ms.tlbMain.toList, f.covers 0x00400000#32 = false)) ∧
    (∀ picks n, ∃ f, walk s.ctx ms (drainedAt n s.ctx ms) picks 0x00400000#32 = .entry f) ∧
    (∃ e, ∀ picks n m,
      walk s.ctx (drainedAt n s.ctx ms) (drainedAt m s.ctx (drainedAt n s.ctx ms)) picks 0x00400000#32 = .entry e) ∧
    ((held.tlbLock.get 2).covers 0x00400000#32 = true ∧
      (∀ j : Fin 8, j ≠ 2 → (held.tlbLock.get j).covers 0x00400000#32 = false) ∧
      ∀ f ∈ held.tlbMain.toList, f.covers 0x00400000#32 = false) ∧
    ∀ picks m j e, walk r.ctx held (drainedAt j r.ctx held) picks m = .entry e → e.covers 0x00400000#32 = true →
      e.view 0x00400000#32 = (held.tlbLock.get 2).view 0x00400000#32 :=
  ⟨by decide +kernel, fun picks n => ⟨_, by
      rw [drainedAt_idle n rfl rfl rfl rfl rfl]
      exact section_walked picks⟩, ⟨_, fun picks n m => by
      rw [drainedAt_idle n rfl rfl rfl rfl rfl, drainedAt_idle m rfl rfl rfl rfl rfl, walk_draws]
      exact section_walked picks⟩,
    by decide +kernel, fun picks m _ _ h => by cases (walk_unmapped rfl rfl rfl rfl _ picks m).symm.trans h⟩

end Sys2Proof.Tests
end

section
/-! SUPPORT. What an access can do to the lockdown part of the TLB, to its victim and to the preserve bit (R42, R192). -/

namespace Sys2Proof.Machine

/-- From one memory system to another the preserve bit is as it was, and so are the lockdown part of the TLB and its victim, unless
the preserve bit is 1. -/
def LockKept (a b : MemSys) : Prop :=
  b.preserve = a.preserve ∧ (a.preserve = false → b.victim = a.victim ∧ b.tlbLock = a.tlbLock)

theorem LockKept.refl (ms : MemSys) : LockKept ms ms := ⟨rfl, fun _ => ⟨rfl, rfl⟩⟩

theorem LockKept.trans {a b c : MemSys} (h : LockKept a b) (g : LockKept b c) : LockKept a c := by
  obtain ⟨hp, hl⟩ := h
  obtain ⟨gp, gl⟩ := g
  refine ⟨gp.trans hp, fun ha => ?_⟩
  obtain ⟨hv, ht⟩ := hl ha
  obtain ⟨gv, gt⟩ := gl (hp.trans ha)
  exact ⟨gv.trans hv, gt.trans ht⟩

theorem LockKept.drainSome (k : Ctx) {a ms : MemSys} (h : LockKept a ms) : LockKept a (ms.drainSome k) := by
  simp only [MemSys.drainSome]
  split <;> exact h

theorem LockKept.evictTimes (n : Nat) {a ms : MemSys} (h : LockKept a ms) : LockKept a (evictTimes n ms) := by
  induction n generalizing ms with
  | zero => exact h
  | succ n ih => exact ih (ms := ms.evictSome) h

theorem LockKept.unprompted (k : Ctx) {a ms : MemSys} (h : LockKept a ms) : LockKept a (ms.unprompted k) := by
  simp only [MemSys.unprompted]
  split
  · exact LockKept.evictTimes _ (h.drainSome k)
  · exact h.drainSome k

theorem LockKept.written (w : OutsideWrite) {a ms : MemSys} (h : LockKept a ms) : LockKept a (ms.written w) := by
  obtain ⟨toDtcm, _, _, _⟩ := w
  cases toDtcm <;> exact h

/-- Nothing that may come before an access touches the lockdown part of the TLB. -/
theorem LockKept.meanwhile (k : Ctx) {a ms : MemSys} (h : LockKept a ms) : LockKept a (ms.meanwhile k) := by
  simp only [MemSys.meanwhile]
  split
  · split
    · exact h
    · exact h.unprompted k
  · next now later _ =>
    split
    · exact foldl_keeps (P := LockKept a) (fun _ w hm => hm.written w) _ h
    · exact foldl_keeps (P := LockKept a) (fun _ w hm => (hm.written w).unprompted k) _
        (LockKept.unprompted k (ms := { ms with outside := later }) h)

/-- A walked entry goes into the lockdown part only with the preserve bit set (R192). -/
theorem LockKept.install (k : Ctx) (kind : AccessKind) (place : BitVec 6) (e : TlbEntry) {a ms : MemSys}
    (h : LockKept a ms) : LockKept a (install k kind place e ms) := by
  simp only [Machine.install]
  split
  · next hp => exact ⟨h.1, fun ha => absurd (h.1.symm.trans hp) (by simp [ha])⟩
  · split <;> exact h

theorem LockKept.churn (k : Ctx) {a ms : MemSys} (h : LockKept a ms) : LockKept a (churn k ms) :=
  LockKept.meanwhile k (ms := ms.dropUnlocked.spend 2) h

theorem missEntry_lockKept (k : Ctx) (kind : AccessKind) (mva : Word) {a ms : MemSys} (h : LockKept a ms) :
    (missEntry k kind mva ms).leaves (LockKept a) := by
  have hl : LockKept a ((ms.spend 1).meanwhile k) := LockKept.meanwhile k (ms := ms.spend 1) h
  simp only [missEntry]
  split
  · exact h
  · split
    · exact h
    · split
      · trivial
      · exact hl
      · exact useEntry_leaves _ _ _ _ ((hl.meanwhile k).install _ _ _ _)

theorem translate_lockKept (k : Ctx) (kind : AccessKind) (mva : Word) {a ms : MemSys} (h : LockKept a ms) :
    (translate k kind mva ms).leaves (LockKept a) := by
  simp only [translate]
  split
  · trivial
  · split
    · trivial
    · exact useEntry_leaves _ _ _ _ (h.churn k)
    · exact missEntry_lockKept _ _ _ (h.churn k)

theorem dataTranslate_lockKept (k : Ctx) (kind : AccessKind) (mva : Word) {a ms : MemSys} (h : LockKept a ms) :
    (dataTranslate k kind mva ms).leaves (LockKept a) := by
  simp only [dataTranslate]
  split
  · trivial
  · split
    · exact translate_lockKept _ _ _ h
    · exact h

theorem readDCache_lockKept (k : Ctx) (mva pa : Word) {a ms : MemSys} (h : LockKept a ms) :
    (readDCache k mva pa ms).leaves (LockKept a) := by
  simp only [readDCache]
  split
  · trivial
  · split
    · exact h
    · show LockKept a (fillDCache k mva pa ms)
      simp only [fillDCache]
      split <;> split <;> exact h

theorem writeDCache_lockKept (k : Ctx) (back : Bool) (mva pa : Word) (lanes : BitVec 4) (data : Word) {a ms : MemSys}
    (h : LockKept a ms) : (writeDCache k back mva pa lanes data ms).leaves (LockKept a) := by
  simp only [writeDCache]
  split
  · trivial
  · split
    · exact h
    · split <;> exact h

theorem LockKept.beforeBusRead (typ : RegionType) (pa : Word) {a ms : MemSys} (h : LockKept a ms) :
    LockKept a (beforeBusRead typ pa ms) := by
  simp only [Machine.beforeBusRead]
  split <;> exact h

theorem readBus_lockKept (k : Ctx) (typ : RegionType) (mva pa : Word) {a ms : MemSys} (h : LockKept a ms) :
    (readBus k typ mva pa ms).leaves (LockKept a) := by
  simp only [readBus]
  split <;> exact h.beforeBusRead typ pa

theorem writeBus_lockKept (k : Ctx) (typ : RegionType) (mva pa : Word) (lanes : BitVec 4) (data : Word) {a ms : MemSys}
    (h : LockKept a ms) : (writeBus k typ mva pa lanes data ms).leaves (LockKept a) := by
  simp only [writeBus]
  split
  · split <;> exact h
  · exact h

theorem readAt_lockKept (k : Ctx) (locked : Bool) (mva : Word) (t : Translated) {a ms : MemSys} (h : LockKept a ms) :
    (readAt k locked mva t ms).leaves (LockKept a) := by
  simp only [readAt]
  split
  · split
    · exact h
    · trivial
  · split
    · exact h
    · trivial
  · exact readDCache_lockKept _ _ _ h
  · exact readBus_lockKept _ _ _ _ h

theorem writeAt_lockKept (k : Ctx) (locked : Bool) (mva : Word) (t : Translated) (lanes : BitVec 4) (data : Word)
    {a ms : MemSys} (h : LockKept a ms) : (writeAt k locked mva t lanes data ms).leaves (LockKept a) := by
  simp only [writeAt]
  split
  · split
    · exact h
    · trivial
  · split
    · exact h
    · trivial
  · exact writeDCache_lockKept _ _ _ _ _ _ h
  · exact writeBus_lockKept _ _ _ _ _ _ h

theorem dataRead_lockKept (k : Ctx) (locked : Bool) (va : Word) {a ms : MemSys} (h : LockKept a ms) :
    (dataRead k locked va ms).leaves (LockKept a) := by
  have ht := dataTranslate_lockKept k .read (fcse k.cp15 va) (h.meanwhile k)
  simp only [dataRead]
  cases hd : dataTranslate k .read (fcse k.cp15 va) (ms.meanwhile k) <;> rw [hd] at ht
  case ok => exact readAt_lockKept _ _ _ _ ht
  case abort => exact ht
  case stop => trivial

theorem dataWrite_lockKept (k : Ctx) (locked : Bool) (va : Word) (lanes : BitVec 4) (data : Word) {a ms : MemSys}
    (h : LockKept a ms) : (dataWrite k locked va lanes data ms).leaves (LockKept a) := by
  have ht := dataTranslate_lockKept k .write (fcse k.cp15 va) (h.meanwhile k)
  simp only [dataWrite]
  cases hd : dataTranslate k .write (fcse k.cp15 va) (ms.meanwhile k) <;> rw [hd] at ht
  case ok => exact writeAt_lockKept _ _ _ _ _ _ ht
  case abort => exact ht
  case stop => trivial

theorem swapAccess_lockKept (k : Ctx) (va : Word) (lanes : BitVec 4) (data : Word) {a ms : MemSys} (h : LockKept a ms) :
    (swapAccess k va lanes data ms).leaves (LockKept a) := by
  have hr := dataRead_lockKept k true va h
  have hw {ms' : MemSys} (h' : LockKept a ms') :=
    dataWrite_lockKept { k with held := holdsBus k va ms } true va lanes data h'
  simp only [swapAccess]
  cases hd : dataRead k true va ms <;> rw [hd] at hr
  case ok _ ms' =>
    have hw := hw hr
    dsimp only
    cases hd : dataWrite { k with held := holdsBus k va ms } true va lanes data ms' <;> rw [hd] at hw <;> exact hw
  case abort _ ms' =>
    have hw := hw hr
    dsimp only
    split
    · cases hd : dataWrite { k with held := holdsBus k va ms } true va lanes data ms' <;> rw [hd] at hw <;> exact hw
    · exact hr
  case stop => trivial

theorem readWords_lockKept (k : Ctx) {as : List Word} {a ms : MemSys} {out : ReadMany} (h : LockKept a ms)
    (hr : readWords k as ms = .ok out) : LockKept a out.ms := by
  induction as generalizing ms out with
  | nil =>
    cases hr
    exact h
  | cons va as ih =>
    have hd := dataRead_lockKept k false va h
    simp only [readWords] at hr
    cases he : dataRead k false va ms <;> rw [he] at hd hr
    case ok _ ms' =>
      cases hs : readWords k as ms' with
      | error _ => simp [hs] at hr
      | ok rest =>
        simp only [hs, Except.ok.injEq] at hr
        subst hr
        exact ih (out := rest) hd hs
    case abort =>
      cases hr
      exact hd
    case stop => cases hr

theorem writeRest_lockKept (k : Ctx) {ws : List (Word × Word)} {a ms ms' : MemSys} (h : LockKept a ms)
    (hr : writeRest k ws ms = .ok ms') : LockKept a ms' := by
  induction ws generalizing ms with
  | nil =>
    cases hr
    exact h
  | cons p ws ih =>
    have hd := dataWrite_lockKept k false p.1 15#4 p.2 (ms := ms.spend 1) h
    simp only [writeRest] at hr
    split at hr
    · cases he : dataWrite k false p.1 15#4 p.2 (ms.spend 1) <;> rw [he] at hd hr
      case ok => exact ih hd hr
      case abort => exact ih hd hr
      case stop => cases hr
    · exact ih (ms := ms.spend 1) h hr

theorem writeWords_lockKept (k : Ctx) {ws : List (Word × Word)} {a ms : MemSys} {out : WriteMany} (h : LockKept a ms)
    (hr : writeWords k ws ms = .ok out) : LockKept a out.ms := by
  induction ws generalizing ms with
  | nil =>
    cases hr
    exact h
  | cons p ws ih =>
    have hd := dataWrite_lockKept k false p.1 15#4 p.2 h
    simp only [writeWords] at hr
    cases he : dataWrite k false p.1 15#4 p.2 ms <;> rw [he] at hd hr
    case ok => exact ih hd hr
    case stop => cases hr
    case abort _ ms' =>
      dsimp only at hr
      split at hr
      · cases hs : writeRest k ws ms' with
        | error _ => simp [hs] at hr
        | ok rest =>
          simp only [hs, Except.ok.injEq] at hr
          subst hr
          exact writeRest_lockKept k hd hs
      · cases hr
        exact hd

/-- What an access makes of a memory system: the memories stay in canonical form, and the lockdown part of the TLB is kept. -/
structure MemKept (a b : MemSys) : Prop where
  wf : a.Wf → b.Wf
  lock : LockKept a b

theorem MemKept.refl (ms : MemSys) : MemKept ms ms := ⟨id, .refl ms⟩

theorem MemKept.trans {a b c : MemSys} (h : MemKept a b) (g : MemKept b c) : MemKept a c :=
  ⟨fun ha => g.wf (h.wf ha), h.lock.trans g.lock⟩

theorem MemKept.spend (ms : MemSys) (n : Nat) : MemKept ms (ms.spend n) := ⟨id, .refl ms⟩

theorem Access.leaves_memKept {α : Type} {ms : MemSys} {x : Access α} (hw : ms.Wf → x.leaves MemSys.Wf)
    (hl : x.leaves (LockKept ms)) : x.leaves (MemKept ms) := by
  cases x with
  | ok _ _ => exact ⟨hw, hl⟩
  | abort _ _ => exact ⟨hw, hl⟩
  | stop _ => trivial

theorem dataRead_memKept (k : Ctx) (locked : Bool) (va : Word) (ms : MemSys) :
    (dataRead k locked va ms).leaves (MemKept ms) :=
  Access.leaves_memKept (dataRead_leaves k locked va) (dataRead_lockKept k locked va (.refl ms))

theorem dataWrite_memKept (k : Ctx) (locked : Bool) (va : Word) (lanes : BitVec 4) (data : Word) (ms : MemSys) :
    (dataWrite k locked va lanes data ms).leaves (MemKept ms) :=
  Access.leaves_memKept (dataWrite_leaves k locked va lanes data) (dataWrite_lockKept k locked va lanes data (.refl ms))

theorem swapAccess_memKept (k : Ctx) (va : Word) (lanes : BitVec 4) (data : Word) (ms : MemSys) :
    (swapAccess k va lanes data ms).leaves (MemKept ms) :=
  Access.leaves_memKept (swapAccess_leaves k va lanes data) (swapAccess_lockKept k va lanes data (.refl ms))

theorem readWords_memKept {k : Ctx} {as : List Word} {ms : MemSys} {out : ReadMany} (h : readWords k as ms = .ok out) :
    MemKept ms out.ms :=
  ⟨fun hw => readWords_wf k hw h, readWords_lockKept k (.refl ms) h⟩

theorem writeWords_memKept {k : Ctx} {ws : List (Word × Word)} {ms : MemSys} {out : WriteMany}
    (h : writeWords k ws ms = .ok out) : MemKept ms out.ms :=
  ⟨fun hw => writeWords_wf k hw h, writeWords_lockKept k (.refl ms) h⟩

end Sys2Proof.Machine
end

section
/-! SUPPORT. The invariant field by field, and what the state's operations keep: CP15, the parameters, the pins, the mode and the
interrupt masks. -/

namespace Sys2Proof.Machine

theorem State.inv_iff (s : State) :
    s.inv = true ↔ s.ms.Wf ∧ legalMode s.mode = true ∧ tcmRegionsOverlap s.cfg s.cp15.itcm s.cp15.dtcm = false := by
  simp [State.inv, MemSys.Wf, and_assoc]

/-- A state keeps the invariant of another one that has its parameters and its TCM regions. -/
theorem State.inv_of {s t : State} (h : s.inv = true) (hms : s.ms.Wf → t.ms.Wf)
    (hmode : legalMode s.mode = true → legalMode t.mode = true) (hcfg : t.cfg = s.cfg) (hi : t.cp15.itcm = s.cp15.itcm)
    (hd : t.cp15.dtcm = s.cp15.dtcm) : t.inv = true := by
  obtain ⟨hw, hl, ho⟩ := s.inv_iff.1 h
  exact t.inv_iff.2 ⟨hms hw, hmode hl, by rw [hcfg, hi, hd, ho]⟩

/-- Two status registers name the same mode and mask the same interrupts. -/
def SameControl (psr v : Word) : Prop :=
  modeOf v = modeOf psr ∧ irqMasked v = irqMasked psr ∧ fiqMasked v = fiqMasked psr

theorem SameControl.refl (psr : Word) : SameControl psr psr := ⟨rfl, rfl, rfl⟩

theorem SameControl.trans {a b c : Word} (h : SameControl a b) (g : SameControl b c) : SameControl a c :=
  ⟨g.1.trans h.1, g.2.1.trans h.2.1, g.2.2.trans h.2.2⟩

/-- The low byte but the T bit decides the mode and the masks. -/
theorem SameControl.of_bits {psr v : Word} (h : ∀ i < 8, i ≠ 5 → v.getLsbD i = psr.getLsbD i) : SameControl psr v := by
  refine ⟨?_, h 7 (by decide) (by decide), h 6 (by decide) (by decide)⟩
  ext i hi
  simp [modeOf, BitVec.getElem_extractLsb', h i (by omega) (by omega)]

theorem sameControl_withThumb (psr : Word) (t : Bool) : SameControl psr (withThumb psr t) := by
  refine .of_bits fun i hi h5 => ?_
  cases t <;> interval_cases i <;> simp [withThumb] at h5 ⊢

/-- New flags above the low 28 bits of a status register. -/
theorem SameControl.of_append (psr : Word) (flags : BitVec 4) : SameControl psr (flags ++ psr.extractLsb' 0 28) :=
  .of_bits fun i hi _ => BitVec.getLsbD_append.trans (by simp [show i < 28 by omega])

theorem sameControl_withTopFlags (psr v : Word) : SameControl psr (withTopFlags psr v) := .of_append psr _

theorem sameControl_withAluFlags (psr : Word) (out : AluOut) : SameControl psr (withAluFlags psr out) := .of_append psr _

/-- In User mode MSR writes no bit of the low byte (R510). -/
theorem sameControl_replaceBits_user (psr v : Word) (mask : BitVec 4) :
    SameControl psr (replaceBits psr v (cpsrWriteBits false mask)) := by
  refine .of_bits fun i hi _ => ?_
  have hb : (cpsrWriteBits false mask).getLsbD i = false := by
    interval_cases i <;> simp [cpsrWriteBits]
  simp only [replaceBits, BitVec.getLsbD_or, BitVec.getLsbD_and, BitVec.getLsbD_not, hb]
  simp [show i < 32 by omega]

/-- From one state to another CP15, what software has read of it, the parameters, the pins, the mode and the interrupt masks are as
they were, the memories stay in canonical form, and the lockdown part of the TLB is kept. -/
structure ControlKept (s t : State) : Prop where
  cp15 : t.cp15 = s.cp15
  lastRead : t.lastRead = s.lastRead
  cfg : t.cfg = s.cfg
  pins : t.pins = s.pins
  ms : MemKept s.ms t.ms
  control : SameControl s.cpu.cpsr t.cpu.cpsr

namespace ControlKept

theorem refl (s : State) : ControlKept s s := ⟨rfl, rfl, rfl, rfl, .refl _, .refl _⟩

theorem trans {s t u : State} (h : ControlKept s t) (g : ControlKept t u) : ControlKept s u :=
  ⟨g.cp15.trans h.cp15, g.lastRead.trans h.lastRead, g.cfg.trans h.cfg, g.pins.trans h.pins, h.ms.trans g.ms,
    h.control.trans g.control⟩

theorem inv {s t : State} (h : ControlKept s t) (hs : s.inv = true) : t.inv = true :=
  State.inv_of hs h.ms.wf (fun hl => (congrArg legalMode h.control.1).trans hl) h.cfg (by rw [h.cp15]) (by rw [h.cp15])

theorem ite {s a b : State} {c : Prop} [Decidable c] (ha : ControlKept s a) (hb : ControlKept s b) :
    ControlKept s (if c then a else b) := by
  split
  · exact ha
  · exact hb

theorem advance (s : State) : ControlKept s s.advance := ⟨rfl, rfl, rfl, rfl, .refl _, .refl _⟩

theorem branchTo (s : State) (target : Word) : ControlKept s (s.branchTo target) := ⟨rfl, rfl, rfl, rfl, .refl _, .refl _⟩

theorem setBankReg (s : State) (m : BitVec 5) (r : RegNum) (v : Word) : ControlKept s (s.setBankReg m r v) :=
  ⟨rfl, rfl, rfl, rfl, .refl _, .refl _⟩

theorem setReg (s : State) (r : RegNum) (v : Word) : ControlKept s (s.setReg r v) :=
  .ite (.branchTo s _) (.setBankReg s _ _ _)

theorem finish (s : State) (r : RegNum) (v : Word) : ControlKept s (s.finish r v) :=
  .ite (.setReg s r v) ((setReg s r v).trans (.advance _))

theorem setCpsr (s : State) {v : Word} (h : SameControl s.cpu.cpsr v) : ControlKept s (s.setCpsr v) :=
  ⟨rfl, rfl, rfl, rfl, .refl _, h⟩

theorem withMs (s : State) {ms : MemSys} (h : MemKept s.ms ms) : ControlKept s (s.withMs ms) :=
  ⟨rfl, rfl, rfl, rfl, h, .refl _⟩

theorem spend (s : State) (n : Nat) : ControlKept s (s.spend n) := .withMs s (.spend s.ms n)

theorem withAnswers (s : State) (later : List (List CpDrive)) : ControlKept s (s.withAnswers later) :=
  ⟨rfl, rfl, rfl, rfl, .refl _, .refl _⟩

theorem busyWaits (s : State) (later : List (List CpDrive)) : ControlKept s (s.busyWaits later) :=
  ⟨rfl, rfl, rfl, rfl, .refl _, .refl _⟩

theorem sendCp (s : State) (cp : BitVec 4) (instr : BitVec 28) (words : List Word) (aborted : Bool) :
    ControlKept s (s.sendCp cp instr words aborted) :=
  ⟨rfl, rfl, rfl, rfl, .refl _, .refl _⟩

theorem link (s : State) : ControlKept s s.link := .setBankReg s _ _ _

theorem exchange (s : State) (v : Word) : ControlKept s (s.exchange v) :=
  (setCpsr s (sameControl_withThumb _ _)).trans (.branchTo _ _)

theorem loadPc (s : State) (v : Word) : ControlKept s (s.loadPc v) :=
  .ite (.branchTo s _) ((setCpsr s (sameControl_withThumb _ _)).trans (.branchTo _ _))

theorem writeBase (s : State) (rn : RegNum) (wb : Option Word) : ControlKept s (s.writeBase rn wb) := by
  cases wb with
  | none => exact .refl s
  | some v => exact .setReg s rn v

theorem advanceAfter (s : State) (rn : RegNum) (wb : Option Word) : ControlKept s (s.advanceAfter rn wb) :=
  .ite (.refl s) (.advance s)

theorem loadReg (s : State) (word : Bool) (rd : RegNum) (v : Word) : ControlKept s (s.loadReg word rd v) :=
  .ite (.ite (.loadPc s v) (.setReg s 15 v)) (.setReg s rd v)

theorem finishLoad (word : Bool) (rn rd : RegNum) (wb : Option Word) (v : Word) (s : State) :
    ControlKept s (finishLoad word rn rd wb v s) := by
  have loaded (x : Word) : ControlKept s ((s.writeBase rn wb).loadReg word rd x) :=
    (writeBase s rn wb).trans (.loadReg _ word rd x)
  have spent (x : Word) (c : Bool) : ControlKept s (if c then ((s.writeBase rn wb).loadReg word rd x).spend 1
      else (s.writeBase rn wb).loadReg word rd x) :=
    .ite ((loaded x).trans (.spend _ 1)) (loaded x)
  exact .ite (spent _ _) ((spent _ _).trans (.advanceAfter _ rn wb))

theorem finishStore (rn : RegNum) (wb : Option Word) (s : State) : ControlKept s (finishStore rn wb s) :=
  (writeBase s rn wb).trans (.advanceAfter _ rn wb)

theorem finishLoadPair (rn rd : RegNum) (wb : Option Word) (lo hi : Word) (s : State) :
    ControlKept s (finishLoadPair rn rd wb lo hi s) := by
  have loaded (x y : Word) : ControlKept s ((((s.writeBase rn wb).setReg rd x).setReg (nextReg rd) y).spend 1) :=
    (((writeBase s rn wb).trans (.setReg _ rd x)).trans (.setReg _ (nextReg rd) y)).trans (.spend _ 1)
  exact .ite (loaded _ _) ((loaded _ _).trans (.advanceAfter _ rn wb))

theorem loadRegs (m : BitVec 5) (ps : List (RegNum × Word)) (s : State) : ControlKept s (loadRegs m ps s) := by
  induction ps generalizing s with
  | nil => exact .refl s
  | cons p ps ih => exact (ControlKept.ite (.refl s) (.setBankReg s m p.1 p.2)).trans (ih _)

theorem partialLoad (m : BitVec 5) (rn : RegNum) (regs : List RegNum) (words : List Word) (s : State) :
    ControlKept s (partialLoad m rn regs words s) :=
  (loadRegs m _ s).trans (.spend _ 1)

theorem mrcFinish (rd : RegNum) (v : Word) (s : State) : ControlKept s (mrcFinish rd v s) :=
  .ite ((setCpsr s (sameControl_withTopFlags _ _)).trans (.advance _)) ((setReg s rd v).trans (.advance _))

theorem mcrSpend (rd : RegNum) (s : State) : ControlKept s (mcrSpend rd s) := .ite (.spend s 1) (.refl s)

end ControlKept

/-! The operations before an abort or an exception that leave the whole status register. -/

@[simp] theorem loadRegs_cpsr (m : BitVec 5) (ps : List (RegNum × Word)) (s : State) :
    (loadRegs m ps s).cpu.cpsr = s.cpu.cpsr := by
  induction ps generalizing s with
  | nil => rfl
  | cons p ps ih =>
    refine (ih _).trans ?_
    split <;> rfl

@[simp] theorem State.setReg_cpsr (s : State) (r : RegNum) (v : Word) : (s.setReg r v).cpu.cpsr = s.cpu.cpsr := by
  simp only [State.setReg]
  split <;> rfl

@[simp] theorem State.writeBase_cpsr (s : State) (rn : RegNum) (wb : Option Word) :
    (s.writeBase rn wb).cpu.cpsr = s.cpu.cpsr := by
  cases wb <;> simp [State.writeBase]

end Sys2Proof.Machine
end

section
/-! SUPPORT. How an instruction can end, said once for every instruction (R25, R258, R510, R513, R531): it goes on, takes an
exception of its own, or in a privileged mode does what keeps the invariant. -/

namespace Sys2Proof.Machine

/-- How an instruction executed in a state can end when it answers a next state. -/
inductive Executed (s : State) : State → Prop
  /-- It goes on, or waits for a coprocessor. -/
  | goesOn {t : State} (h : ControlKept s t) : Executed s t
  /-- It takes the Undefined or the SWI exception. -/
  | exception {u : State} (e : Exception) (link : Word) (he : e = .undefined ∨ e = .swi) (h : ControlKept s u)
      (hc : u.cpu.cpsr = s.cpu.cpsr) : Executed s (takeException e link u)
  /-- It takes the Data Abort. -/
  | dataAbort {u : State} (a : AbortInfo) (h : ControlKept s u) (hc : u.cpu.cpsr = s.cpu.cpsr) :
      Executed s (takeDataAbort a u)
  /-- It does what only a privileged mode may. -/
  | privileged {t : State} (hp : s.privileged = true) (h : s.inv = true → t.inv = true) : Executed s t

namespace Executed

theorem undefined (s : State) : Executed s (takeUndefined s) := .exception .undefined _ (.inl rfl) (.refl s) rfl

theorem aborted (s : State) (a : AbortInfo) : Executed s (takeDataAbort a s) := .dataAbort a (.refl s) rfl

/-- What was kept before the instruction's end does not matter to how it ends. -/
theorem after {s u t : State} (h : ControlKept s u) (hc : u.cpu.cpsr = s.cpu.cpsr) (ht : Executed u t) : Executed s t := by
  cases ht with
  | goesOn g => exact .goesOn (h.trans g)
  | exception e link he g gc => exact .exception e link he (h.trans g) (gc.trans hc)
  | dataAbort a g gc => exact .dataAbort a (h.trans g) (gc.trans hc)
  | privileged hp g => exact .privileged (by rwa [State.privileged, hc] at hp) fun hs => g (h.inv hs)

/-- Every end keeps the invariant. -/
theorem inv {s t : State} (h : Executed s t) (hs : s.inv = true) : t.inv = true := by
  cases h with
  | goesOn g => exact g.inv hs
  | exception e link _ g _ =>
    exact State.inv_of (g.inv hs) id (fun _ => by rw [takeException_mode]; exact legalMode_exceptionMode e) rfl rfl rfl
  | dataAbort a g _ =>
    refine State.inv_of (g.inv hs) id (fun _ => ?_) rfl rfl rfl
    rw [takeDataAbort, takeException_mode]
    exact legalMode_exceptionMode .dataAbort
  | privileged _ g => exact g hs

end Executed

/-! The shared operations of the meanings. -/

theorem conditionally_executed {c : Cond} {s t : State} {body : State → Result} (h : s.conditionally c body = .next t)
    (hb : body s = .next t → Executed s t) : Executed s t := by
  rcases State.conditionally_next h with ⟨_, h⟩ | ⟨_, rfl⟩
  · exact hb h
  · exact .goesOn (.advance s)

theorem afterAccess_executed {α : Type} {s t : State} {a : Access α} {go : α → State → Result}
    (h : s.afterAccess a go = .next t) (ha : a.leaves (MemKept s.ms))
    (hg : ∀ v ms, go v (s.withMs ms) = .next t → Executed (s.withMs ms) t) : Executed s t := by
  rcases State.afterAccess_next h with ⟨v, ms, rfl, h⟩ | ⟨i, ms, rfl, rfl⟩
  · exact .after (.withMs s ha) rfl (hg v ms h)
  · exact .dataAbort i (.withMs s ha) rfl

theorem afterReads_executed {k : Ctx} {as : List Word} {s t : State} {first : Word} {count : Nat}
    {failed : List Word → State → State} {go : List Word → State → Result}
    (h : s.afterReads first count (readWords k as s.ms) failed go = .next t)
    (hf : ∀ ws u, ControlKept u (failed ws u) ∧ (failed ws u).cpu.cpsr = u.cpu.cpsr)
    (hg : ∀ ws u, go ws u = .next t → Executed u t) : Executed s t := by
  obtain ⟨out, ho, ⟨_, h⟩ | ⟨i, va, _, rfl⟩⟩ := State.afterReads_next h
  · exact .after (.withMs s (readWords_memKept ho)) rfl (hg _ _ h)
  · obtain ⟨hk, hc⟩ := hf out.words (s.withMs out.ms)
    exact .dataAbort _ (ControlKept.trans (.withMs s (readWords_memKept ho)) hk) hc

theorem afterWrites_executed {k : Ctx} {ws : List (Word × Word)} {s t : State} {first : Word} {count : Nat}
    {failed : State → State} {go : State → Result}
    (h : s.afterWrites first count (writeWords k ws s.ms) failed go = .next t)
    (hf : ∀ u, ControlKept u (failed u) ∧ (failed u).cpu.cpsr = u.cpu.cpsr)
    (hg : ∀ u, go u = .next t → Executed u t) : Executed s t := by
  obtain ⟨out, ho, ⟨_, h⟩ | ⟨i, va, _, rfl⟩⟩ := State.afterWrites_next h
  · exact .after (.withMs s (writeWords_memKept ho)) rfl (hg _ h)
  · obtain ⟨hk, hc⟩ := hf (s.withMs out.ms)
    exact .dataAbort _ (ControlKept.trans (.withMs s (writeWords_memKept ho)) hk) hc

theorem checkWord_executed {s t : State} {va : Word} {go : State → Result} (h : s.checkWord va go = .next t)
    (hg : go s = .next t → Executed s t) : Executed s t := by
  rcases State.checkWord_next h with ⟨_, _, rfl⟩ | h
  · exact .aborted s _
  · exact hg h

theorem checkStrict_executed {s t : State} {aligned : Bool} {va : Word} {go : State → Result}
    (h : s.checkStrict aligned va go = .next t) (hg : go s = .next t → Executed s t) : Executed s t := by
  rcases State.checkStrict_next h with ⟨_, h⟩ | ⟨_, _, rfl⟩
  · exact hg h
  · exact .aborted s _

/-- An answer that is given outright goes on. -/
theorem Executed.of_next {s t u : State} (h : (Host.Outcome.next u : Result) = .next t) (hu : ControlKept s u) :
    Executed s t := by
  cases h
  exact .goesOn hu

/-- Only a privileged mode has an SPSR (R24). -/
theorem privileged_of_spsrIndex {s : State} {i : Fin 5} (h : spsrIndex s.mode = some i) : s.privileged = true := by
  rw [State.privileged, isPrivileged, bne_iff_ne]
  intro hm
  rw [State.mode, hm] at h
  simp [spsrIndex] at h

theorem returnFromException_executed {v : Word} {s t : State} (h : returnFromException v s = .next t) : Executed s t := by
  obtain ⟨i, hi, hl, rfl⟩ := returnFromException_next h
  exact .privileged (privileged_of_spsrIndex hi) fun hs => State.inv_of hs id (fun _ => hl) rfl rfl rfl

/-! Data processing and branches. -/

theorem dpWrite_executed {setFlags : Bool} {rd : RegNum} {out : AluOut} {s t : State}
    (h : dpWrite setFlags rd out s = .next t) : Executed s t := by
  rcases dpWrite_next h with ⟨_, _, h⟩ | ⟨_, _, rfl⟩ | ⟨_, rfl⟩
  · exact returnFromException_executed h
  · exact .goesOn (.setReg s _ _)
  · refine .goesOn (((ControlKept.setReg s rd _).trans (.setCpsr _ ?_)).trans (.advance _))
    rw [State.setReg_cpsr]
    split
    · exact sameControl_withAluFlags _ _
    · exact .refl _

theorem dataProcess_executed {alu : Word → Shifted → Word → AluOut} {c : Cond} {setFlags : Bool} {rn rd : RegNum}
    {operand : State → Shifted} {s t : State} (h : dataProcess alu c setFlags rn rd operand s = .next t) : Executed s t :=
  conditionally_executed h dpWrite_executed

theorem dataMove_executed {alu : Word → Shifted → Word → AluOut} {c : Cond} {setFlags : Bool} {rd : RegNum}
    {operand : State → Shifted} {s t : State} (h : dataMove alu c setFlags rd operand s = .next t) : Executed s t :=
  conditionally_executed h dpWrite_executed

theorem dataCompare_executed {alu : Word → Shifted → Word → AluOut} {c : Cond} {rn : RegNum} {operand : State → Shifted}
    {s t : State} (h : dataCompare alu c rn operand s = .next t) : Executed s t :=
  conditionally_executed h fun h =>
    .of_next h ((ControlKept.setCpsr s (sameControl_withAluFlags _ _)).trans (.advance _))

theorem execB_executed {c : Cond} {imm24 : BitVec 24} {s t : State} (h : execB c imm24 s = .next t) : Executed s t :=
  conditionally_executed h fun h => .of_next h (.branchTo s _)

theorem execBl_executed {c : Cond} {imm24 : BitVec 24} {s t : State} (h : execBl c imm24 s = .next t) : Executed s t :=
  conditionally_executed h fun h => .of_next h ((ControlKept.link s).trans (.branchTo _ _))

theorem execBx_executed {c : Cond} {rm : RegNum} {s t : State} (h : execBx c rm s = .next t) : Executed s t :=
  conditionally_executed h fun h => .of_next h (.exchange s _)

theorem execBlx_executed {c : Cond} {rm : RegNum} {s t : State} (h : execBlx c rm s = .next t) : Executed s t :=
  conditionally_executed h fun h => .of_next h ((ControlKept.link s).trans (.exchange _ _))

/-! Loads, stores and swaps. -/

theorem loadWord_executed {a : AddrMode} {rn rd : RegNum} {adr : Address} {s t : State}
    (h : loadWord a rn rd adr s = .next t) : Executed s t :=
  checkWord_executed h fun h => afterAccess_executed h (dataRead_memKept _ _ _ _) fun _ _ h =>
    .of_next h (.finishLoad _ _ _ _ _ _)

theorem loadByte_executed {a : AddrMode} {rn rd : RegNum} {adr : Address} {s t : State}
    (h : loadByte a rn rd adr s = .next t) : Executed s t :=
  afterAccess_executed h (dataRead_memKept _ _ _ _) fun _ _ h => .of_next h (.finishLoad _ _ _ _ _ _)

theorem storeWord_executed {a : AddrMode} {rn rd : RegNum} {adr : Address} {s t : State}
    (h : storeWord a rn rd adr s = .next t) : Executed s t :=
  checkWord_executed h fun h => afterAccess_executed h (dataWrite_memKept _ _ _ _ _ _) fun _ _ h =>
    .of_next h (.finishStore _ _ _)

theorem storeByte_executed {a : AddrMode} {rn rd : RegNum} {adr : Address} {s t : State}
    (h : storeByte a rn rd adr s = .next t) : Executed s t :=
  afterAccess_executed h (dataWrite_memKept _ _ _ _ _ _) fun _ _ h => .of_next h (.finishStore _ _ _)

/-- A halfword, signed or doubleword transfer: its condition and its addressing form, then the transfer. -/
theorem halfTransfer_executed {c : Cond} {a : AddrMode} {s t : State} {go : State → Result}
    (h : (s.conditionally c fun s => s.checkHalfMode a go) = .next t) (hg : go s = .next t → Executed s t) :
    Executed s t :=
  conditionally_executed h fun h => hg (State.checkHalfMode_next h).2

theorem loadHalf_executed {extend : BitVec 16 → Word} {rn rd : RegNum} {adr : Address} {s t : State}
    (h : loadHalf extend rn rd adr s = .next t) : Executed s t :=
  checkStrict_executed h fun h => afterAccess_executed h (dataRead_memKept _ _ _ _) fun _ _ h =>
    .of_next h (.finishLoad _ _ _ _ _ _)

theorem loadSignedByte_executed {rn rd : RegNum} {adr : Address} {s t : State}
    (h : loadSignedByte rn rd adr s = .next t) : Executed s t :=
  afterAccess_executed h (dataRead_memKept _ _ _ _) fun _ _ h => .of_next h (.finishLoad _ _ _ _ _ _)

theorem storeHalf_executed {rn rd : RegNum} {adr : Address} {s t : State} (h : storeHalf rn rd adr s = .next t) :
    Executed s t :=
  checkStrict_executed h fun h => afterAccess_executed h (dataWrite_memKept _ _ _ _ _ _) fun _ _ h =>
    .of_next h (.finishStore _ _ _)

theorem loadDouble_executed {rn rd : RegNum} {adr : Address} {s t : State} (h : loadDouble rn rd adr s = .next t) :
    Executed s t :=
  checkStrict_executed h fun h => afterReads_executed h (fun _ u => ⟨.refl u, rfl⟩) fun _ _ h =>
    .of_next h (.finishLoadPair _ _ _ _ _ _)

theorem storeDouble_executed {rn rd : RegNum} {adr : Address} {s t : State} (h : storeDouble rn rd adr s = .next t) :
    Executed s t :=
  checkStrict_executed h fun h => afterWrites_executed h (fun u => ⟨.refl u, rfl⟩) fun _ h =>
    .of_next h (.finishStore _ _ _)

theorem execSwp_executed {c : Cond} {rn rd rm : RegNum} {s t : State} (h : execSwp c rn rd rm s = .next t) :
    Executed s t :=
  conditionally_executed h fun h => checkStrict_executed h fun h =>
    afterAccess_executed h (swapAccess_memKept _ _ _ _ _) fun _ _ h => .of_next h (.finish _ _ _)

theorem execSwpb_executed {c : Cond} {rn rd rm : RegNum} {s t : State} (h : execSwpb c rn rd rm s = .next t) :
    Executed s t :=
  conditionally_executed h fun h => afterAccess_executed h (swapAccess_memKept _ _ _ _ _) fun _ _ h =>
    .of_next h (.finish _ _ _)

theorem finishMultiple_executed {caret : Bool} {rn : RegNum} {wb : Option Word} {regs : List RegNum} {words : List Word}
    {s t : State} (h : finishMultiple caret rn wb regs words s = .next t) : Executed s t := by
  have loaded (m : BitVec 5) (ps : List (RegNum × Word)) :
      ControlKept s ((loadRegs m ps (s.writeBase rn wb)).spend 1) :=
    ((ControlKept.writeBase s rn wb).trans (.loadRegs m ps _)).trans (.spend _ 1)
  simp only [finishMultiple] at h
  split at h
  · exact .of_next h ((loaded _ _).trans (.advanceAfter _ rn wb))
  · split at h
    · exact .after (loaded _ _) (by simp) (returnFromException_executed h)
    · exact .of_next h ((loaded _ _).trans (.loadPc _ _))

theorem execLdm_executed {c : Cond} {a : AddrMode} {caret : Bool} {rn : RegNum} {list : BitVec 16} {s t : State}
    (h : execLdm c a caret rn list s = .next t) : Executed s t := by
  refine conditionally_executed h fun h => ?_
  dsimp only at h
  split at h
  · exact .of_next h (.finishStore _ _ _)
  · exact checkWord_executed h fun h =>
      afterReads_executed h (fun _ u => ⟨.partialLoad _ _ _ _ u, by simp [partialLoad]⟩) fun _ _ h =>
        finishMultiple_executed h

theorem execStm_executed {c : Cond} {a : AddrMode} {caret : Bool} {rn : RegNum} {list : BitVec 16} {s t : State}
    (h : execStm c a caret rn list s = .next t) : Executed s t := by
  refine conditionally_executed h fun h => ?_
  dsimp only at h
  split at h
  · exact .of_next h (.finishStore _ _ _)
  · exact checkWord_executed h fun h =>
      afterWrites_executed h (fun u => ⟨.refl u, rfl⟩) fun _ h => .of_next h (.finishStore _ _ _)

/-! The status registers and the exceptions that instructions ask for. -/

theorem execMrs_executed {c : Cond} {r : Bool} {rd : RegNum} {s t : State} (h : execMrs c r rd s = .next t) :
    Executed s t := by
  refine conditionally_executed h fun h => ?_
  split at h
  · split at h
    · exact .of_next h (.finish s _ _)
    · exact .of_next h ((ControlKept.finish s _ _).trans (.spend _ 1))
  · exact .of_next h (.finish s _ _)

/-- MSR in User mode leaves the mode and the masks; in a privileged mode it goes on only to a legal mode (R23, R510). -/
theorem writeCpsr_executed {mask : BitVec 4} {v : Word} {s t : State} (h : writeCpsr mask v s = .next t) :
    Executed s t := by
  obtain ⟨hl, rfl⟩ := writeCpsr_next h
  cases hp : s.privileged with
  | false => exact .goesOn ((ControlKept.setCpsr s (sameControl_replaceBits_user _ _ _)).trans (.advance _))
  | true => exact .privileged hp fun hs => State.inv_of hs id (fun _ => hp ▸ hl) rfl rfl rfl

theorem writeSpsr_executed {mask : BitVec 4} {v : Word} {s t : State} (h : writeSpsr mask v s = .next t) :
    Executed s t := by
  simp only [writeSpsr] at h
  split at h
  · cases h
  · exact .of_next h ⟨rfl, rfl, rfl, rfl, .refl _, .refl _⟩

theorem writeStatus_executed {r : Bool} {mask : BitVec 4} {v : Word} {s t : State} (h : writeStatus r mask v s = .next t) :
    Executed s t := by
  cases r with
  | false => exact writeCpsr_executed h
  | true => exact writeSpsr_executed h

theorem execSwi_executed {c : Cond} {imm24 : BitVec 24} {s t : State} (h : execSwi c imm24 s = .next t) :
    Executed s t :=
  conditionally_executed h fun h => by
    cases h
    exact .exception .swi _ (.inr rfl) (.refl s) rfl

/-- The words that are undefined in every mode. -/
theorem undefined_executed {c : Cond} {s t : State} (h : (s.conditionally c fun s => .next (takeUndefined s)) = .next t) :
    Executed s t :=
  conditionally_executed h fun h => by
    cases h
    exact .undefined s

/-! The external coprocessors. -/

theorem handshake_executed {cp : BitVec 4} {s t : State} {go : List Word → State → Result}
    (h : handshake cp s go = .next t) (hg : ∀ ws u, go ws u = .next t → Executed u t) : Executed s t := by
  obtain ⟨_, ⟨_, rfl⟩ | ⟨_, ⟨later, _, rfl⟩ | ⟨later, _, rfl⟩ | ⟨ws, later, _, h⟩⟩⟩ := handshake_next h
  · exact .undefined s
  · exact .goesOn (.busyWaits s later)
  · exact .after (.withAnswers s later) rfl (.undefined _)
  · exact .after (.withAnswers s later) rfl (hg _ _ h)

theorem extMcr_executed {cp : BitVec 4} {instr : BitVec 28} {rd : RegNum} {s t : State}
    (h : extMcr cp instr rd s = .next t) : Executed s t :=
  handshake_executed h fun _ u h =>
    .of_next h (((ControlKept.mcrSpend rd u).trans (.sendCp _ _ _ _ _)).trans (.advance _))

theorem extMrc_executed {cp : BitVec 4} {instr : BitVec 28} {rd : RegNum} {s t : State}
    (h : extMrc cp instr rd s = .next t) : Executed s t :=
  handshake_executed h fun _ u h => .of_next h ((ControlKept.sendCp u _ _ _ _).trans (.mrcFinish _ _ _))

theorem extCdp_executed {cp : BitVec 4} {instr : BitVec 28} {s t : State} (h : extCdp cp instr s = .next t) :
    Executed s t :=
  handshake_executed h fun _ u h => .of_next h ((ControlKept.sendCp u _ _ _ _).trans (.advance _))

theorem extMcrr_executed {cp : BitVec 4} {instr : BitVec 28} {rn rd : RegNum} {s t : State}
    (h : extMcrr cp instr rn rd s = .next t) : Executed s t :=
  handshake_executed h fun _ u h =>
    .of_next h (((ControlKept.spend u 2).trans (.sendCp _ _ _ _ _)).trans (.advance _))

theorem extMrrc_executed {cp : BitVec 4} {instr : BitVec 28} {rn rd : RegNum} {s t : State}
    (h : extMrrc cp instr rn rd s = .next t) : Executed s t := by
  refine handshake_executed h fun ws u h => ?_
  have told (x y : Word) : ControlKept u ((((u.setReg rd x).setReg rn y).spend 1).sendCp cp instr [] false) :=
    (((ControlKept.setReg u rd x).trans (.setReg _ rn y)).trans (.spend _ 1)).trans (.sendCp _ _ _ _ _)
  exact .of_next h (.ite (told _ _) ((told _ _).trans (.advance _)))

theorem extLdc_executed {a : CoprocMode} {rn : RegNum} {cp : BitVec 4} {instr : BitVec 28} {imm8 : BitVec 8} {s t : State}
    (h : extLdc a rn cp instr imm8 s = .next t) : Executed s t := by
  simp only [extLdc] at h
  split at h
  · cases h
    exact .undefined s
  · refine handshake_executed h fun ws u h => ?_
    split at h
    · cases h
      exact .dataAbort _ (.sendCp u _ _ _ _) rfl
    · exact afterReads_executed h (fun _ v => ⟨.sendCp v _ _ _ _, rfl⟩) fun _ v h =>
        .of_next h ((ControlKept.sendCp v _ _ _ _).trans (.finishStore _ _ _))

theorem extStc_executed {a : CoprocMode} {rn : RegNum} {cp : BitVec 4} {instr : BitVec 28} {imm8 : BitVec 8} {s t : State}
    (h : extStc a rn cp instr imm8 s = .next t) : Executed s t := by
  simp only [extStc] at h
  split at h
  · cases h
    exact .undefined s
  · refine handshake_executed h fun ws u h => ?_
    split at h
    · cases h
      exact .dataAbort _ (.sendCp u _ _ _ _) rfl
    · exact afterWrites_executed h (fun v => ⟨.sendCp v _ _ _ _, rfl⟩) fun v h =>
        .of_next h ((ControlKept.sendCp v _ _ _ _).trans (.finishStore _ _ _))

theorem execCoprocUnconditional_executed {top : BitVec 2} {mid : BitVec 12} {cp : BitVec 4} {low : BitVec 8} {s t : State}
    (h : execCoprocUnconditional top mid cp low s = .next t) : Executed s t := by
  simp only [execCoprocUnconditional] at h
  split at h
  · cases h
  · split at h
    · split at h
      · split at h
        · exact extMrc_executed h
        · exact extMcr_executed h
      · exact extCdp_executed h
    · split at h
      · split at h
        · exact extLdc_executed h
        · exact extStc_executed h
      · split at h
        · exact extMrrc_executed h
        · exact extMcrr_executed h

end Sys2Proof.Machine
end

section
/-! SUPPORT. The CP15 accesses keep the invariant, and take the Undefined exception in User mode (R258, R280). -/

namespace Sys2Proof.Machine

theorem cp15Access_executed {c : Cond} {s t : State} {body : State → Result} (h : cp15Access c s body = .next t)
    (hb : body s = .next t → s.inv = true → t.inv = true) : Executed s t := by
  rcases cp15Access_next h with ⟨_, rfl⟩ | ⟨_, _, rfl⟩ | ⟨_, hp, h⟩
  · exact .goesOn (.advance s)
  · exact .undefined s
  · exact .privileged hp (hb h)

/-- An access that the spec does not define is refused in a privileged mode (R257). -/
theorem cp15Refused_executed {c : Cond} {s t : State} {r : Refusal} (h : cp15Access c s (fun _ => .refused r) = .next t) :
    Executed s t :=
  cp15Access_executed h fun h => by cases h

/-! A CP15 access that does not write the TCM regions keeps the invariant when the memory system stays in canonical form. -/

theorem State.inv_withMs {s : State} {ms : MemSys} (h : s.inv = true) (hms : s.ms.Wf → ms.Wf) : (s.withMs ms).inv = true :=
  State.inv_of h hms id rfl rfl rfl

theorem cp15Read_executed {c : Cond} {rd : RegNum} {value : State → Word} {s t : State}
    (h : cp15Read c rd value s = .next t) : Executed s t :=
  cp15Access_executed h fun h hs => by
    cases h
    exact (ControlKept.mrcFinish rd _ s).inv hs

theorem cp15ReadFree_executed {c : Cond} {rd : RegNum} {value : State → Word → Word} {s t : State}
    (h : cp15ReadFree c rd value s = .next t) : Executed s t :=
  cp15Access_executed h fun h hs => by
    cases h
    exact ((ControlKept.spend s 1).trans (.mrcFinish rd _ _)).inv hs

theorem cp15ReadNoted_executed {c : Cond} {rd : RegNum} {value : State → Word → Word} {note : Word → LastRead → LastRead}
    {s t : State} (h : cp15ReadNoted c rd value note s = .next t) : Executed s t :=
  cp15Access_executed h fun h hs => by
    cases h
    refine (ControlKept.mrcFinish rd _ _).inv ?_
    exact State.inv_of hs id id rfl rfl rfl

theorem cp15Write_executed {c : Cond} {rd : RegNum} {r : Reserved} {read : LastRead → List Word}
    {write : Word → State → State} {s t : State} (h : cp15Write c rd r read write s = .next t)
    (hw : ∀ v u, u.inv = true → (write v u).inv = true) : Executed s t :=
  cp15Access_executed h fun h hs => by
    split at h
    · cases h
      exact (ControlKept.advance _).inv (hw _ _ ((ControlKept.mcrSpend rd s).inv hs))
    · cases h

theorem cp15WriteZeros_executed {c : Cond} {rd : RegNum} {sbz : Word} {write : Word → State → State} {s t : State}
    (h : cp15WriteZeros c rd sbz write s = .next t) (hw : ∀ v u, u.inv = true → (write v u).inv = true) : Executed s t :=
  cp15Write_executed h hw

/-- The TCM regions are written only where they do not come to overlap (R150, assumption 39). -/
theorem writeTcmRegions_executed {read : LastRead → List Word} {f : Word → Cp15 → Cp15} {c : Cond} {rd : RegNum}
    {s t : State} (h : writeTcmRegions read f c rd s = .next t) : Executed s t := by
  rcases writeTcmRegions_next h with ⟨_, rfl⟩ | ⟨_, _, rfl⟩ | ⟨_, hp, _, ho, rfl⟩
  · exact .goesOn (.advance s)
  · exact .undefined s
  · refine .privileged hp fun hs => (State.inv_iff _).2 ?_
    have hm := ControlKept.mcrSpend rd s
    obtain ⟨hw, hl, _⟩ := (State.inv_iff _).1 (hm.inv hs)
    refine ⟨hw, hl, ?_⟩
    show tcmRegionsOverlap (mcrSpend rd s).cfg _ _ = false
    rw [hm.cfg]
    exact ho

theorem cacheOperation_executed {c : Cond} {rd : RegNum} {op : Word → State → MemSys → MemSys} {s t : State}
    (h : cacheOperation c rd op s = .next t) (hop : ∀ v u ms, MemSys.Wf ms → (op v u ms).Wf) : Executed s t :=
  cp15Access_executed h fun h hs => by
    split at h
    · cases h
      exact (ControlKept.advance _).inv (State.inv_withMs ((ControlKept.mcrSpend rd s).inv hs) (hop _ _ _))
    · cases h

theorem afterTestClean_wf {s : State} (h : s.ms.Wf) : (afterTestClean s).Wf := by
  simp only [afterTestClean]
  split
  · exact cleanLines_wf _ h
  · split
    · exact h
    · exact cleanLines_wf _ h

theorem testAndClean_executed {invalidate : Bool} {c : Cond} {rd : RegNum} {s t : State}
    (h : testAndClean invalidate c rd s = .next t) : Executed s t :=
  cp15Access_executed h fun h hs => by
    split at h
    · cases h
      refine (ControlKept.mrcFinish rd _ _).inv (State.inv_of hs (fun hw => ?_) id rfl rfl rfl)
      exact MemSys.wf_ite (afterTestClean_wf hw) (afterTestClean_wf hw)
    · cases h

/-- The prefetch of a line writes of CP15 the IFSR alone (R354, D4). -/
theorem prefetchLine_inv {mva : Word} {s t : State} (h : prefetchLine mva s = .next t) (hs : s.inv = true) :
    t.inv = true := by
  have ha : (if s.ctx.cp15.ctrl.m then translate s.ctx .fetch mva s.ms
      else .ok { pa := mva, c := false, b := false } (s.ms.meanwhile s.ctx)).leaves MemSys.Wf := by
    have hw := ((State.inv_iff s).1 hs).1
    split
    · exact translate_leaves _ _ _ hw
    · exact meanwhile_wf _ hw
  simp only [prefetchLine] at h
  split at h
  · cases h
  · next ms he =>
    rw [he] at ha
    cases h
    exact State.inv_of hs (fun _ => ha) id rfl rfl rfl
  · next t' ms he =>
    rw [he] at ha
    split at h
    · cases h
      exact State.inv_of hs (fun _ => fillICache_wf _ _ _ ha) id rfl rfl rfl
    · cases h
      exact State.inv_of hs (fun _ => ha) id rfl rfl rfl

theorem execMcrPrefetchICacheLine_executed {c : Cond} {rd : RegNum} {s t : State}
    (h : execMcrPrefetchICacheLine c rd s = .next t) : Executed s t :=
  cp15Access_executed h fun h hs => by
    have hm := (ControlKept.mcrSpend rd s).inv hs
    split at h
    · dsimp only at h
      split at h
      · cases h
        exact (ControlKept.advance _).inv hm
      · exact prefetchLine_inv h hm
    · cases h

theorem drainOperation_executed {c : Cond} {rd : RegNum} {op : State → State} {s t : State}
    (h : drainOperation c rd op s = .next t) (hop : ∀ u, u.inv = true → (op u).inv = true) : Executed s t :=
  cp15Access_executed h fun h hs => by
    split at h
    · cases h
      exact (ControlKept.advance _).inv (hop _ ((ControlKept.mcrSpend rd s).inv hs))
    · cases h

theorem tlbWrite_executed {r : Reserved} {c : Cond} {rd : RegNum} {op : Word → State → State} {s t : State}
    (h : tlbWrite r c rd op s = .next t) (hop : ∀ v u, u.inv = true → (op v u).inv = true) : Executed s t :=
  cp15Access_executed h fun h hs => by
    split at h
    · cases h
    · split at h
      · cases h
        exact (ControlKept.advance _).inv (hop _ _ ((ControlKept.mcrSpend rd s).inv hs))
      · cases h

theorem tlbOperation_executed {c : Cond} {rd : RegNum} {op : Word → State → MemSys → MemSys} {s t : State}
    (h : tlbOperation c rd op s = .next t) (hop : ∀ v u ms, MemSys.Wf ms → (op v u ms).Wf) : Executed s t :=
  tlbWrite_executed h fun _ _ hu => State.inv_withMs hu (hop _ _ _)

theorem tlbInvalidateAll_executed {c : Cond} {rd : RegNum} {s t : State} (h : tlbInvalidateAll c rd s = .next t) :
    Executed s t :=
  tlbWrite_executed h fun _ _ hu => State.inv_withMs hu id

theorem tlbRead_executed {c : Cond} {rd : RegNum} {value : State → Word} {s t : State}
    (h : tlbRead c rd value s = .next t) : Executed s t :=
  cp15Access_executed h fun h hs => by
    split at h
    · cases h
      exact (ControlKept.mrcFinish rd _ s).inv hs
    · cases h

/-- How every instruction can end. -/
theorem exec_executed {i : Instr} {s t : State} (h : exec i s = .next t) : Executed s t := by
  unfold exec at h
  cases i with
  | mrcId | mrcCacheType | mrcTcmStatus | mrcIdAlias3 | mrcIdAlias4 | mrcIdAlias5 | mrcIdAlias6 | mrcIdAlias7
  | mrcDacr | mrcFar | mrcFcsePid | mrcContextId | mrcDebugTestAddress => exact cp15Read_executed h
  | mrcTtbr | mrcDebugOverride | mrcMemoryRegionRemap | mrcTraceControl | mrcCacheDebugControl
  | mrcMmuDebugControl => exact cp15ReadFree_executed h
  | mrcControl | mrcDfsr | mrcIfsr | mrcDCacheLockdown | mrcICacheLockdown | mrcDTcmRegion | mrcITcmRegion
  | mrcTlbLockdown => exact cp15ReadNoted_executed h
  | mcrControl | mcrDfsr | mcrIfsr | mcrDCacheLockdown | mcrICacheLockdown | mcrTlbLockdown =>
    exact cp15Write_executed h fun _ _ hu => hu
  | mcrTtbr | mcrDacr | mcrFar | mcrFcsePid | mcrContextId | mcrDebugOverride | mcrDebugTestAddress
  | mcrMemoryRegionRemap | mcrTraceControl | mcrCacheDebugControl | mcrMmuDebugControl =>
    exact cp15WriteZeros_executed h fun _ _ hu => hu
  | mcrDTcmRegion | mcrITcmRegion => exact writeTcmRegions_executed h
  | mcrWaitForInterrupt | mcrDrainWriteBuffer =>
    exact drainOperation_executed h fun _ hu => State.inv_of hu MemSys.wf_drainAll id rfl rfl rfl
  | mcrInvalidateICache | mcrInvalidateICacheMva | mcrInvalidateICacheSetWay | mcrInvalidateDCache
  | mcrInvalidateDCacheMva | mcrInvalidateDCacheSetWay | mcrInvalidateCaches =>
    exact cacheOperation_executed h fun _ _ _ hw => hw
  | mcrCleanDCacheMva | mcrCleanDCacheSetWay | mcrCleanInvalidateDCacheMva | mcrCleanInvalidateDCacheSetWay =>
    exact cacheOperation_executed h fun _ _ _ hw => cleanLines_wf _ hw
  | mcrPrefetchICacheLine => exact execMcrPrefetchICacheLine_executed h
  | mrcTestClean | mrcTestCleanInvalidate => exact testAndClean_executed h
  | mcrInvalidateTlb | mcrInvalidateITlb | mcrInvalidateDTlb => exact tlbInvalidateAll_executed h
  | mcrInvalidateTlbEntry | mcrInvalidateITlbEntry | mcrInvalidateDTlbEntry | mcrMainTlbTransfer4 | mcrLockTlbTransfer4
  | mcrMainTlbTransfer5 | mcrLockTlbTransfer5 => exact tlbOperation_executed h fun _ _ _ hw => hw
  | mrcMainTlbTag4 | mrcMainTlbPa4 | mrcLockTlbTag4 | mrcLockTlbPa4 | mrcMainTlbTag5 | mrcMainTlbPa5 | mrcLockTlbTag5
  | mrcLockTlbPa5 => exact tlbRead_executed h
  | mcrMainTlbTag4 | mcrMainTlbPa4 | mcrLockTlbTag4 | mcrLockTlbPa4 | mcrMainTlbTag5 | mcrMainTlbPa5 | mcrLockTlbTag5
  | mcrLockTlbPa5 => exact tlbWrite_executed h fun _ _ hu => hu
  | cp15WriteC0 | cp15AccessC4 | cp15AccessC11 | cp15AccessC12 | cp15AccessC14 | cp15ReadC8 | cp15Other =>
    exact cp15Refused_executed h
  | cdpCp15 | mcrrCp15 | mrrcCp15 | ldcCp15 | stcCp15 | udf => exact undefined_executed h
  | mcrrExt => exact conditionally_executed h extMcrr_executed
  | mrrcExt => exact conditionally_executed h extMrrc_executed
  | cdpExt => exact conditionally_executed h extCdp_executed
  | mcrExt => exact conditionally_executed h extMcr_executed
  | mrcExt => exact conditionally_executed h extMrc_executed
  | ldcExt => exact conditionally_executed h extLdc_executed
  | stcExt => exact conditionally_executed h extStc_executed
  | coprocUnconditional => exact execCoprocUnconditional_executed h
  | andImm | andReg | eorImm | eorReg | subImm | subReg | rsbImm | rsbReg | addImm | addReg | adcImm | adcReg | sbcImm
  | sbcReg | rscImm | rscReg | orrImm | orrReg | bicImm | bicReg | adrAhead | adrBehind => exact dataProcess_executed h
  | tstImm | tstReg | teqImm | teqReg | cmpImm | cmpReg | cmnImm | cmnReg => exact dataCompare_executed h
  | movImm | movReg | mvnImm | mvnReg => exact dataMove_executed h
  | b => exact execB_executed h
  | bl => exact execBl_executed h
  | bx => exact execBx_executed h
  | blx => exact execBlx_executed h
  | ldrImm | ldrReg => exact conditionally_executed h loadWord_executed
  | strImm | strReg => exact conditionally_executed h storeWord_executed
  | ldrbImm | ldrbReg => exact conditionally_executed h loadByte_executed
  | strbImm | strbReg => exact conditionally_executed h storeByte_executed
  | ldrh | ldrsh => exact halfTransfer_executed h loadHalf_executed
  | ldrsb => exact halfTransfer_executed h loadSignedByte_executed
  | strh => exact halfTransfer_executed h storeHalf_executed
  | ldrd => exact halfTransfer_executed h fun h => loadDouble_executed (State.checkPair_next h).2
  | strd => exact halfTransfer_executed h fun h => storeDouble_executed (State.checkPair_next h).2
  | ldm => exact execLdm_executed h
  | stm => exact execStm_executed h
  | swp => exact execSwp_executed h
  | swpb => exact execSwpb_executed h
  | pld => exact .of_next h (.advance s)
  | mrs => exact execMrs_executed h
  | msrReg | msrImm => exact conditionally_executed h writeStatus_executed
  | swi => exact execSwi_executed h

end Sys2Proof.Machine
end

section
/-! SUPPORT. Reset (R71) and exception entry (R531, R532). -/

namespace Sys2Proof.Machine

/-- The status register of R27: Supervisor mode, both interrupts masked, ARM state. -/
theorem resetPsr_bits :
    modeOf 0x000000D3#32 = 0b10011#5 ∧ irqMasked 0x000000D3#32 = true ∧ fiqMasked 0x000000D3#32 = true ∧
      thumbBit 0x000000D3#32 = false ∧ jazelleBit 0x000000D3#32 = false := by
  decide

/-- Settles O13: reset gives each field the value written in its definition; the status register bit by bit. -/
theorem resetValues : Obligations.ResetValues :=
  fun _ =>
    have ⟨hmode, hirq, hfiq, hthumb, hjazelle⟩ := resetPsr_bits
    ⟨rfl, rfl, rfl, rfl, rfl, rfl, rfl, rfl, rfl, rfl, rfl, rfl, rfl, rfl, rfl, rfl, rfl, rfl, rfl, rfl, rfl, rfl, rfl, rfl,
      rfl, rfl, rfl, rfl, rfl, rfl, rfl, hmode, hirq, hfiq, hthumb, hjazelle, rfl⟩

theorem takeException_get (e : Exception) (link : Word) (s : State) (p : Fin 30) :
    (takeException e link s).cpu.regs.get p =
      if p = physReg (exceptionMode e) 14 then link else s.cpu.regs.get p := by
  rw [takeException_regs]
  simp only [Vector.get_eq_getElem, Vector.getElem_set, Fin.ext_iff, eq_comm]

theorem takeException_spsr_get (e : Exception) (link : Word) (s : State) (n : Fin 5) :
    (takeException e link s).cpu.spsr.get n = if n = exceptionSpsr e then s.cpu.cpsr else s.cpu.spsr.get n := by
  rw [takeException_spsr]
  simp only [Vector.get_eq_getElem, Vector.getElem_set, Fin.ext_iff, eq_comm]

theorem irqMasked_exceptionCpsr (e : Exception) (psr : Word) : irqMasked (exceptionCpsr e psr) = true := by
  cases e <;> simp [irqMasked, exceptionCpsr, exceptionMode]

theorem fiqMasked_exceptionCpsr (e : Exception) (psr : Word) :
    fiqMasked (exceptionCpsr e psr) = (fiqMasked psr || e == .fiq) := by
  cases e <;> simp [fiqMasked, exceptionCpsr, exceptionMode]

theorem thumbBit_exceptionCpsr (e : Exception) (psr : Word) : thumbBit (exceptionCpsr e psr) = false := by
  cases e <;> simp [thumbBit, exceptionCpsr, exceptionMode]

theorem jazelleBit_exceptionCpsr (e : Exception) (psr : Word) : jazelleBit (exceptionCpsr e psr) = false := by
  cases e <;> simp [jazelleBit, exceptionCpsr, exceptionMode]

/-- The flags and every other bit above the low byte but J are kept. -/
theorem exceptionCpsr_and_high (e : Exception) (psr : Word) :
    exceptionCpsr e psr &&& 0xFEFFFF00#32 = psr &&& 0xFEFFFF00#32 := by
  have kept (x c : Word) (hc : c &&& 0xFEFFFF00#32 = 0#32) :
      ((x &&& 0xFEFFFFC0#32) ||| c) &&& 0xFEFFFF00#32 = x &&& 0xFEFFFF00#32 := by
    rw [BitVec.and_comm, BitVec.and_or_distrib_left, BitVec.and_comm _ c, hc, BitVec.or_zero, BitVec.and_comm,
      BitVec.and_assoc]
    rfl
  simp only [exceptionCpsr, BitVec.or_assoc]
  exact kept psr _ (by cases e <;> decide)

/-- Settles O14: the row of R531 is the model's own vector, mode, link register and SPSR of the exception; then each clause is what
taking an exception does to that field. -/
theorem exceptionEntry : Obligations.ExceptionEntry := by
  intro e link s t row
  have hrow : row = (exceptionOffset e, exceptionMode e, physReg (exceptionMode e) 14, exceptionSpsr e) := by
    cases e <;> rfl
  rw [hrow]
  have hmode : t.mode = exceptionMode e := takeException_mode e link s
  have hlink : t.cpu.regs.get (physReg (exceptionMode e) 14) = link := by rw [takeException_get, if_pos rfl]
  have hother : sameRegsBut [physReg (exceptionMode e) 14] s t := fun p hp => by
    rw [takeException_get, if_neg (by simpa using hp)]
  have hsaved : t.cpu.spsr.get (exceptionSpsr e) = s.cpu.cpsr := by rw [takeException_spsr_get, if_pos rfl]
  exact ⟨rfl, hmode, hlink, by rw [hmode]; exact hlink, hother, hsaved,
    fun n hn => by rw [takeException_spsr_get, if_neg hn], irqMasked_exceptionCpsr e _, fiqMasked_exceptionCpsr e _,
    thumbBit_exceptionCpsr e _, jazelleBit_exceptionCpsr e _, exceptionCpsr_and_high e _, rfl, rfl⟩

end Sys2Proof.Machine
end

section
/-! SUPPORT. What the boundary, the inputs, the debugger's turn and the fetch keep of the invariant, and the statements about the
invariant and about User mode. -/

namespace Sys2Proof.Machine

theorem inv_takeException (e : Exception) (link : Word) {s : State} (h : s.inv = true) :
    (takeException e link s).inv = true :=
  State.inv_of h id (fun _ => by rw [takeException_mode]; exact legalMode_exceptionMode e) rfl rfl rfl

theorem inv_takePrefetchAbort (a : AbortInfo) {s : State} (h : s.inv = true) : (takePrefetchAbort a s).inv = true :=
  inv_takeException _ _ (State.inv_of h id id rfl rfl rfl)

theorem State.prepared_wf {s : State} (h : s.ms.Wf) : s.prepared.ms.Wf := by
  refine fillPipe_wf _ _ _ _ ?_
  have ht := State.ticked_wf h
  have fresh : (freshSlot s.ticked).2.Wf := fetchSlot_wf _ _ (MemSys.wf_ite (a := { s.ticked.ms with prefetch := [] }) ht ht)
  simp only [currentSlot]
  split
  · exact fresh
  · split
    · next slot _ _ _ =>
      have late : (lateFetch s.ticked slot).ms.Wf := fetchAt_wf _ _ _ ht
      simp only [pipelinedSlot]
      split
      · exact ht
      · split
        · exact late
        · exact ht
    · exact fresh

theorem State.inv_prepared {s : State} (h : s.inv = true) : s.prepared.inv = true :=
  State.inv_of h State.prepared_wf id rfl rfl rfl

theorem State.inv_atLarge {s : State} (h : s.inv = true) : s.atLarge.inv = true := by
  simp only [State.atLarge]
  split
  · exact h
  · exact State.inv_of h State.ticked_wf id rfl rfl rfl

/-- The state after reset meets the invariant: it lists no memory, and the data TCM is disabled (R71, R150). -/
theorem State.inv_resetWith (cfg : Config) : (State.resetWith cfg).inv = true := by
  refine (State.inv_iff _).2 ⟨rfl, (by decide : legalMode (modeOf 0x000000D3#32) = true), ?_⟩
  simp only [tcmRegionsOverlap, State.resetWith, Cp15.reset]
  split <;> simp

/-- A reset while running leaves the memories as they were (R591). -/
theorem State.inv_resetPin {s : State} (h : s.inv = true) : s.resetPin.inv = true :=
  State.inv_of (State.inv_resetWith s.cfg) (fun _ => ((State.inv_iff s).1 h).1) id rfl rfl rfl

/-- Every input keeps the invariant. -/
theorem State.inv_receive (i : Input) {s : State} (h : s.inv = true) : (s.receive i).inv = true := by
  cases i with
  | lines | during | debugLines | scan | scanUpper | debugReset => exact h
  | write store word lanes data => exact State.inv_withMs h (MemSys.wf_writeFromOutside store word lanes data)
  | power icache dcache mmu itcm dtcm =>
    exact State.inv_of h (State.setPower_wf icache dcache mmu itcm dtcm) id rfl rfl rfl
  | reset => exact State.inv_resetPin h

theorem State.inv_absorb {s : State} (h : s.inv = true) : s.absorb.inv = true := by
  simp only [State.absorb]
  split
  · exact h
  · next now later _ =>
    have taken (is : List Input) (t : State) (ht : t.inv = true) :
        (is.foldl (fun t i => t.atLarge.receive i) t).inv = true := by
      induction is generalizing t with
      | nil => exact ht
      | cons i is ih => exact ih _ (State.inv_receive i (State.inv_atLarge ht))
    exact taken now _ h

theorem State.inv_dmaChecked {s : State} (h : s.inv = true) : s.dmaChecked.inv = true := by
  simp only [State.dmaChecked]
  split
  · exact (ControlKept.spend s 1).inv h
  · exact h

/-- A scan chain access executes a CP15 instruction in Supervisor mode and puts the core's own state back (R575). -/
theorem inv_scanAccess {r : BitVec 48} {s t : State} (h : scanAccess r s = .next t) (hs : s.inv = true) :
    t.inv = true := by
  simp only [scanAccess] at h
  split at h
  · cases h
    exact hs
  · split at h
    · next u hu =>
      cases h
      have hin : (scanState s (r.extractLsb' 0 32)).inv = true :=
        State.inv_of hs id (fun _ => (by decide : legalMode (modeOf 0x000000D3#32) = true)) rfl rfl rfl
      exact State.inv_of ((exec_executed hu).inv hin) id (fun _ => ((State.inv_iff s).1 hs).2.1) rfl rfl rfl
    · cases h
    · cases h

theorem inv_scanPhase {s t : State} (h : scanPhase s = .next t) (hs : s.inv = true) : t.inv = true := by
  simp only [scanPhase] at h
  split at h
  · split at h
    · cases h
      exact hs
    · exact inv_scanAccess h (State.inv_atLarge hs)
  · cases h
    exact hs

theorem inv_runWord {w : Word} {s t : State} (h : runWord w s = .next t) (hs : s.inv = true) : t.inv = true := by
  rcases runWord_next h with ⟨i, _, h⟩ | ⟨_, ⟨_, _, rfl⟩ | rfl⟩
  · exact (exec_executed h).inv hs
  · exact inv_takeException _ _ hs
  · exact (ControlKept.advance s).inv hs

theorem inv_runInstruction {s t : State} (h : runInstruction s = .next t) (hs : s.inv = true) : t.inv = true := by
  have hp := State.inv_prepared hs
  rcases runInstruction_next h with ⟨a, _, rfl⟩ | ⟨w, u, _, hu, ht⟩
  · exact inv_takePrefetchAbort a hp
  · have hi : u.inv = true := inv_runWord hu hp
    rcases ht with rfl | rfl
    · exact hi
    · exact hi

theorem inv_runBoundary {s t : State} (h : runBoundary s = .next t) (hs : s.inv = true) : t.inv = true := by
  rcases runBoundary_next h with ⟨_, _, rfl⟩ | ⟨_, _, rfl⟩ | ⟨_, _, h⟩
  · exact inv_takeException .fiq _ (s := s.abandoned) hs
  · exact inv_takeException .irq _ (s := s.abandoned) hs
  · exact inv_runInstruction h hs

theorem inv_step {s t : State} (h : step s = .next t) (hs : s.inv = true) : t.inv = true := by
  obtain ⟨_, h⟩ := stepAll_next h
  obtain ⟨u, hu, h⟩ := stepInside_next h
  have hi : u.inv = true := inv_scanPhase hu (State.inv_absorb (State.inv_dmaChecked hs))
  rcases stepCore_next h with rfl | rfl | h
  · exact hi
  · exact hi
  · exact inv_runBoundary h hi

/-- Settles O9: reset lists no memory, enters Supervisor mode and leaves the data TCM disabled. -/
theorem resetMeetsInvariant : Obligations.ResetMeetsInvariant :=
  ⟨State.inv_resetWith Config.default, State.inv_resetWith⟩

/-- Settles O10: each part of a step keeps the invariant, an instruction by the ways in which it can end. -/
theorem stepKeepsInvariant : Obligations.StepKeepsInvariant :=
  fun _ _ hs h => inv_step h hs

/-! User mode. -/

/-- An instruction executed in User mode goes on, or takes an exception of its own. -/
theorem Executed.user {s t : State} (h : Executed s t) (hu : s.mode = 0b10000#5) :
    ControlKept s t ∨ ∃ u, ControlKept s u ∧ u.cpu.cpsr = s.cpu.cpsr ∧
      ((∃ e link, (e = .undefined ∨ e = .swi) ∧ t = takeException e link u) ∨ ∃ a, t = takeDataAbort a u) := by
  cases h with
  | goesOn h => exact .inl h
  | @exception u e link he h hc => exact .inr ⟨u, h, hc, .inl ⟨e, link, he, rfl⟩⟩
  | @dataAbort u a h hc => exact .inr ⟨u, h, hc, .inr ⟨a, rfl⟩⟩
  | privileged hp _ => exact absurd hu (bne_iff_ne.1 hp)

/-- Of CP15, of what was read of it, of the lockdown part of the TLB, of the parameters and of the pins, what an instruction in User
mode leaves. -/
def UserKept (s t : State) : Prop :=
  t.cp15 = { s.cp15 with dfsr := t.cp15.dfsr, far := t.cp15.far } ∧ t.lastRead = s.lastRead ∧
    t.ms.preserve = s.ms.preserve ∧
    (s.ms.preserve = false → t.ms.victim = s.ms.victim ∧ t.ms.tlbLock = s.ms.tlbLock) ∧
    t.cfg = s.cfg ∧ t.pins = s.pins

theorem ControlKept.userKept {s t : State} (h : ControlKept s t) : UserKept s t :=
  ⟨by rw [h.cp15], h.lastRead, h.ms.lock.1, h.ms.lock.2, h.cfg, h.pins⟩

/-- The Data Abort writes the DFSR and the FAR (R541). -/
theorem ControlKept.userKept_dataAbort {s u : State} (a : AbortInfo) (h : ControlKept s u) :
    UserKept s (takeDataAbort a u) :=
  ⟨by rw [← h.cp15]; rfl, h.lastRead, h.ms.lock.1, h.ms.lock.2, h.cfg, h.pins⟩

/-- Settles O11: in User mode an instruction goes on or takes an exception, and of these the Data Abort alone writes CP15. -/
theorem userModeCannotWriteCp15 : Obligations.UserModeCannotWriteCp15 := by
  intro i s t hu h
  show UserKept s t
  rcases (exec_executed h).user hu with hk | ⟨u, hk, _, ⟨e, link, _, rfl⟩ | ⟨a, rfl⟩⟩
  · exact hk.userKept
  · exact hk.userKept
  · exact hk.userKept_dataAbort a

/-- What taking an exception leaves of the mode, the pc, the saved status register and the IRQ mask. -/
theorem takeException_entered (e : Exception) (link : Word) (s : State) :
    let t := takeException e link s
    t.mode = exceptionMode e ∧ t.cpu.pc = vectorBase s + exceptionOffset e ∧
      t.cpu.spsr.get (exceptionSpsr e) = s.cpu.cpsr ∧ irqMasked t.cpu.cpsr = true :=
  ⟨takeException_mode e link s, rfl, (takeException_spsr_get e link s _).trans (if_pos rfl), irqMasked_exceptionCpsr e s.cpu.cpsr⟩

/-- Settles O12: what goes on stays in User mode with its masks; each exception enters its own mode. -/
theorem userModeLeftOnlyByException : Obligations.UserModeLeftOnlyByException := by
  intro i s t hu h
  rcases (exec_executed h).user hu with hk | ⟨u, hk, hc, ht⟩
  · exact .inl ⟨hk.control.1.trans hu, hk.control.2⟩
  · have hv : vectorBase u = vectorBase s := by simp only [vectorBase, hk.cp15]
    rw [← hc, ← hv]
    rcases ht with ⟨e, link, he, rfl⟩ | ⟨a, rfl⟩
    · exact .inr ⟨e, he.imp_right .inl, takeException_entered e link u⟩
    · exact .inr ⟨.dataAbort, .inr (.inr rfl), takeException_entered .dataAbort _ _⟩

end Sys2Proof.Machine
end

section
/-! SUPPORT. The shifter operand bit by bit (R482), the addresses over the integers (R504, R506, R507, R261), and the operand
registers (R21). -/

namespace Sys2Proof.Machine

/-! The shifts. -/

theorem getLsbD_rotateRight_mod (v : Word) (n : Nat) {j : Nat} (hj : j < 32) :
    (v.rotateRight n).getLsbD j = v.getLsbD ((j + n) % 32) := by
  rw [BitVec.getLsbD_rotateRight, cond_eq_ite]
  simp only [decide_eq_true_eq]
  split
  · rw [show (j + n) % 32 = n % 32 + j by omega]
  · rw [show (j + n) % 32 = j - (32 - n % 32) by omega]
    simp [hj]

theorem getLsbD_sshiftRight_min (v : Word) (k : Nat) {j : Nat} (hj : j < 32) :
    (v.sshiftRight k).getLsbD j = v.getLsbD (min 31 (j + k)) := by
  rw [BitVec.getLsbD_sshiftRight]
  split
  · rw [Nat.min_eq_right (by omega), Nat.add_comm]
    simp [hj]
  · rw [Nat.min_eq_left (by omega), BitVec.msb_eq_getLsbD_last]
    simp [hj]

/-- RRX: the bits move down by one, and the carry comes in above (R482). -/
theorem getLsbD_rrx (v : Word) (c : Bool) :
    (∀ j < 31, (BitVec.ofBool c ++ v.extractLsb' 1 31 : Word).getLsbD j = v.getLsbD (j + 1)) ∧
      (BitVec.ofBool c ++ v.extractLsb' 1 31 : Word).getLsbD 31 = c := by
  refine ⟨fun j hj => BitVec.getLsbD_append.trans ?_, BitVec.getLsbD_append.trans ?_⟩
  · simp [hj, Nat.add_comm]
  · simp

theorem operandImm_bits (op : ImmOp) (s : State) :
    (∀ j < 32, (operandImm op s).value.getLsbD j = op.imm8.getLsbD ((j + 2 * op.rot.toNat) % 32)) ∧
      (operandImm op s).carry =
        if op.rot = 0#4 then flagC s.cpu.cpsr else (operandImm op s).value.getLsbD 31 := by
  refine ⟨fun j hj => ?_, rfl⟩
  rw [operandImm, getLsbD_rotateRight_mod _ _ hj, BitVec.getLsbD_setWidth]
  simp [Nat.mod_lt]

theorem shiftLsl_bits (v : Word) (n : Nat) (c : Bool) :
    (∀ j < 32, (shiftLsl v n c).value.getLsbD j = (decide (n ≤ j) && v.getLsbD (j - n))) ∧
      (shiftLsl v n c).carry = if n = 0 then c else v.getLsbD (32 - n) := by
  unfold shiftLsl
  split
  · next h => simp [h]
  · refine ⟨fun j hj => ?_, rfl⟩
    have hle : decide (n ≤ j) = !decide (j < n) := by rw [← decide_not, decide_eq_decide, Nat.not_lt]
    rw [BitVec.getLsbD_shiftLeft, hle]
    simp [hj]

theorem shiftLsr_bits (v : Word) (n : Nat) :
    (∀ j < 32, (shiftLsr v n).value.getLsbD j = v.getLsbD (j + if n = 0 then 32 else n)) ∧
      (shiftLsr v n).carry = v.getLsbD ((if n = 0 then 32 else n) - 1) := by
  refine ⟨fun j _ => ?_, rfl⟩
  rw [shiftLsr, BitVec.getLsbD_ushiftRight, Nat.add_comm]

theorem shiftAsr_bits (v : Word) (n : Nat) :
    (∀ j < 32, (shiftAsr v n).value.getLsbD j = v.getLsbD (min 31 (j + if n = 0 then 32 else n))) ∧
      (shiftAsr v n).carry = v.getLsbD ((if n = 0 then 32 else n) - 1) :=
  ⟨fun _ hj => getLsbD_sshiftRight_min v _ hj, rfl⟩

theorem shiftRor_zero (v : Word) (c : Bool) :
    (∀ j < 31, (shiftRor v 0 c).value.getLsbD j = v.getLsbD (j + 1)) ∧ (shiftRor v 0 c).value.getLsbD 31 = c ∧
      (shiftRor v 0 c).carry = v.getLsbD 0 :=
  ⟨(getLsbD_rrx v c).1, (getLsbD_rrx v c).2, rfl⟩

theorem shiftRor_bits (v : Word) {n : Nat} (c : Bool) (hn : n ≠ 0) :
    (∀ j < 32, (shiftRor v n c).value.getLsbD j = v.getLsbD ((j + n) % 32)) ∧
      (shiftRor v n c).carry = (shiftRor v n c).value.getLsbD 31 := by
  rw [shiftRor, if_neg hn]
  exact ⟨fun j hj => getLsbD_rotateRight_mod v n hj, rfl⟩

/-! The addresses. -/

/-- What an address is in terms of the base and an offset (R504): moved by the offset before the transfer or after it, and the base
written unless the transfer is pre-indexed without W. -/
def IsAddress (a : AddrMode) (base : Word) (adr : Address) (off : Int) : Prop :=
  let moved := BitVec.ofInt 32 (if a.u then (base.toNat : Int) + off else (base.toNat : Int) - off)
  adr.address = (if a.p then moved else base) ∧ adr.writeBack = if a.p = true ∧ a.w = false then none else some moved

/-- A word moved up by an integer, as the integer sum. -/
theorem add_ofInt (base : Word) (x : Int) : base + BitVec.ofInt 32 x = BitVec.ofInt 32 (base.toNat + x) := by
  simp [BitVec.ofInt_add]

/-- A word moved down by an integer, as the integer difference. -/
theorem sub_ofInt (base : Word) (x : Int) : base - BitVec.ofInt 32 x = BitVec.ofInt 32 (base.toNat - x) := by
  simp [sub_eq_add_neg, BitVec.ofInt_add, BitVec.ofInt_neg]

theorem offsetBase_ofInt (u : Bool) (base : Word) (off : Int) :
    offsetBase u base (BitVec.ofInt 32 off) =
      BitVec.ofInt 32 (if u then (base.toNat : Int) + off else (base.toNat : Int) - off) := by
  cases u with
  | false => exact sub_ofInt base off
  | true => exact add_ofInt base off

theorem isAddress_addressing (a : AddrMode) (base off : Word) : IsAddress a base (addressing a base off) off.toNat := by
  have hoff : BitVec.ofInt 32 (off.toNat : Int) = off := by simp
  simp only [IsAddress, ← offsetBase_ofInt, hoff, addressing]
  obtain ⟨p, u, w⟩ := a
  cases p <;> cases w <;> simp

theorem isAddress_addressImm (a : AddrMode) (rn : RegNum) (imm : BitVec 12) (s : State) :
    IsAddress a (s.reg rn) (addressImm a rn imm s) imm.toNat := by
  have h := isAddress_addressing a (s.reg rn) (imm.setWidth 32)
  rwa [BitVec.toNat_setWidth_of_le (by decide)] at h

theorem isAddress_addressHalf_imm (a : AddrMode) (rn : RegNum) (imm8 : BitVec 8) (s : State) :
    IsAddress a (s.reg rn) (addressHalf a rn (.imm imm8) s) imm8.toNat := by
  have h := isAddress_addressing a (s.reg rn) (imm8.setWidth 32)
  rwa [BitVec.toNat_setWidth_of_le (by decide)] at h

/-- The offset of LDC and STC is a number of words. -/
theorem toNat_wordOffset (imm8 : BitVec 8) : (imm8.setWidth 32 <<< 2).toNat = 4 * imm8.toNat := by
  have := imm8.isLt
  rw [BitVec.toNat_shiftLeft, BitVec.toNat_setWidth_of_le (by decide), Nat.shiftLeft_eq]
  omega

theorem isAddress_addressCoproc (a : AddrMode) (n : Bool) (rn : RegNum) (imm8 : BitVec 8) (s : State)
    (h : a.p = true ∨ a.w = true) :
    IsAddress a (s.reg rn) (addressCoproc ⟨a.p, a.u, n, a.w⟩ rn imm8 s) (4 * imm8.toNat) := by
  have ha := isAddress_addressing a (s.reg rn) (imm8.setWidth 32 <<< 2)
  rw [toNat_wordOffset] at ha
  have hindexed : (!a.p && !a.w) = false := by rcases h with h | h <;> simp [h]
  simpa [addressCoproc, hindexed] using ha

/-! Register lists and operand registers. -/

theorem listedRegs_pairwise (list : BitVec 16) : (listedRegs list).Pairwise (· < ·) :=
  (List.pairwise_lt_finRange 16).filter _

theorem mem_listedRegs (list : BitVec 16) (r : RegNum) : r ∈ listedRegs list ↔ list.getLsbD r.val = true := by
  simp [listedRegs]

theorem ofNat_words (n : Nat) : BitVec.ofNat 32 (4 * n) = BitVec.ofInt 32 (4 * n) :=
  (BitVec.ofInt_natCast 32 (4 * n)).symm

/-- The first address of a transfer of several words and the base after it (R507). -/
theorem multiple_addresses (w : Bool) (base : Word) (n : Nat) :
    multipleStart ⟨false, true, w⟩ base n = base ∧ multipleStart ⟨true, true, w⟩ base n = base + 4#32 ∧
      multipleStart ⟨false, false, w⟩ base n = BitVec.ofInt 32 ((base.toNat : Int) - 4 * n + 4) ∧
      multipleStart ⟨true, false, w⟩ base n = BitVec.ofInt 32 ((base.toNat : Int) - 4 * n) ∧
      ∀ p, multipleBase ⟨p, true, w⟩ base n = BitVec.ofInt 32 ((base.toNat : Int) + 4 * n) ∧
        multipleBase ⟨p, false, w⟩ base n = BitVec.ofInt 32 ((base.toNat : Int) - 4 * n) := by
  have hsub : base - BitVec.ofNat 32 (4 * n) = BitVec.ofInt 32 ((base.toNat : Int) - 4 * n) := by
    rw [ofNat_words, sub_ofInt]
  have hadd : base + BitVec.ofNat 32 (4 * n) = BitVec.ofInt 32 ((base.toNat : Int) + 4 * n) := by
    rw [ofNat_words, add_ofInt]
  refine ⟨rfl, rfl, ?_, hsub, fun _ => ⟨hadd, hsub⟩⟩
  rw [BitVec.ofInt_add, ← hsub]
  rfl

theorem operandRegister (r : RegNum) (s : State) :
    (r ≠ 15 → s.reg r = s.cpu.regs.get (physReg s.mode r) ∧ s.stored r = s.cpu.regs.get (physReg s.mode r)) ∧
      (r = 15 → s.reg r = s.cpu.pc + 8#32 ∧ (s.stored r = s.cpu.pc + 8#32 ∨ s.stored r = s.cpu.pc + 12#32)) := by
  constructor
  · intro h
    simp [State.reg, State.stored, State.bankReg, h]
  · intro h
    simp only [State.reg, State.stored, h, if_true, true_and]
    split
    · exact .inr rfl
    · exact .inl rfl

/-- Settles O23: the shifts bit by bit, the addresses by the one rule of R504, the lists and the operand registers. -/
theorem shifterOperand : Obligations.ShifterOperand := by
  refine ⟨operandImm_bits, ?_, fun a rn rm imm imm8 _ _ s => ?_,
    fun list => ⟨listedRegs_pairwise list, mem_listedRegs list⟩, multiple_addresses, operandRegister⟩
  · rintro ⟨amount, kind, rm⟩ s
    cases kind with
    | lsl => exact shiftLsl_bits _ _ _
    | lsr => exact shiftLsr_bits _ _
    | asr => exact shiftAsr_bits _ _
    | ror =>
      show if amount.toNat = 0 then _ else _
      split
      · next h =>
        rw [operandReg, h]
        exact shiftRor_zero _ _
      · next h => exact shiftRor_bits _ _ h
  · exact ⟨isAddress_addressImm a rn imm s, isAddress_addressing _ _ _, isAddress_addressHalf_imm a rn imm8 s,
      isAddress_addressing a (s.reg rn) (s.reg rm), fun n h => isAddress_addressCoproc a n rn imm8 s h, fun _ _ => rfl⟩

end Sys2Proof.Machine
end

section
/-! SUPPORT. The FCSE over the integers (R102), the alignment checks of the transfers (R110, R111, R506, R508), and the forms that
stop by name. -/

namespace Sys2Proof.Machine

open Sys2Proof.Claims

/-- Settles O35: the arm of PLD is the pc's advance. -/
theorem preloadIsNop : Obligations.PreloadIsNop := fun _ _ _ _ _ => rfl

/-! The FCSE. -/

/-- Bits [31:25] of an address are zero just below 32MB. -/
theorem extractLsb'_25_7_eq_zero_iff (va : Word) : va.extractLsb' 25 7 = 0#7 ↔ va.toNat < 2 ^ 25 := by
  have := va.isLt
  rw [← BitVec.toNat_inj, BitVec.extractLsb'_toNat, Nat.shiftRight_eq_div_pow]
  change va.toNat / 2 ^ 25 % 2 ^ 7 = 0 ↔ _
  omega

/-- The process identifier put above the low 25 bits of an address is the identifier's number of times 32MB more. -/
theorem toNat_pid_append (pid : BitVec 7) {va : Word} (h : va.toNat < 2 ^ 25) :
    (pid ++ va.extractLsb' 0 25 : Word).toNat = va.toNat + pid.toNat * 2 ^ 25 := by
  have hlow : (va.extractLsb' 0 25).toNat = va.toNat := by
    rw [BitVec.extractLsb'_toNat, Nat.shiftRight_zero, Nat.mod_eq_of_lt h]
  rw [BitVec.toNat_append, hlow, Nat.shiftLeft_eq, Nat.mul_comm, ← Nat.two_pow_add_eq_or_of_lt h, Nat.add_comm]

/-- With the MMU off the FCSE moves no address. -/
theorem fcse_mmuOff {k : Cp15} (va : Word) (h : k.ctrl.m = false) : fcse k va = va := by
  simp [fcse, h]

/-- Settles O55: bits [31:25] decide which addresses move, and the identifier stands above the rest. -/
theorem fcseTranslation : Obligations.FcseTranslation := by
  intro k va
  refine ⟨fun hm hlow => ?_, fun _ hhigh => ?_, fcse_mmuOff va⟩
  · rw [fcse, if_pos ⟨hm, (extractLsb'_25_7_eq_zero_iff va).2 hlow⟩, toNat_pid_append k.fcsePid hlow]
  · rw [fcse, if_neg fun h => Nat.not_lt.2 hhigh ((extractLsb'_25_7_eq_zero_iff va).1 h.2)]

/-! Alignment. -/

/-- The low bits of an address are zero just at a multiple. -/
theorem extractLsb'_zero_eq_zero_iff (a : Word) (n : Nat) : a.extractLsb' 0 n = 0#n ↔ a.toNat % 2 ^ n = 0 := by
  rw [← BitVec.toNat_inj, BitVec.extractLsb'_toNat, Nat.shiftRight_zero, BitVec.toNat_zero]

theorem halfAligned_iff (a : Word) : halfAligned a = true ↔ a.toNat % 2 = 0 := by
  simp [halfAligned, BitVec.getLsbD, Nat.testBit_zero]

theorem wordAligned_iff (a : Word) : wordAligned a = true ↔ a.toNat % 4 = 0 :=
  beq_iff_eq.trans (extractLsb'_zero_eq_zero_iff a 2)

theorem doubleAligned_iff (a : Word) : doubleAligned a = true ↔ a.toNat % 8 = 0 :=
  beq_iff_eq.trans (extractLsb'_zero_eq_zero_iff a 3)

theorem wordAligned_eq_false {a : Word} (h : a.toNat % 4 ≠ 0) : wordAligned a = false :=
  Bool.eq_false_iff.2 fun hw => h ((wordAligned_iff a).1 hw)

theorem listedRegs_ne_nil {list : BitVec 16} (h : list ≠ 0#16) : listedRegs list ≠ [] := by
  intro hnil
  refine h (BitVec.eq_of_getLsbD_eq fun j hj => ?_)
  have hmem := mem_listedRegs list ⟨j, hj⟩
  rw [hnil] at hmem
  simpa using hmem

/-- With A = 1 a misaligned word access takes the Data Abort (R110). -/
theorem State.checkWord_misaligned {s : State} {va : Word} (go : State → Result) (ha : s.cp15.ctrl.a = true)
    (hm : va.toNat % 4 ≠ 0) : s.checkWord va go = .next (takeDataAbort (alignmentAbort s.cp15 va) s) :=
  if_pos ⟨ha, wordAligned_eq_false hm⟩

/-- A misaligned access whose misaligned form is Unpredictable takes the Data Abort with A = 1, and stops with A = 0 (R110, R111). -/
theorem State.checkStrict_misaligned (s : State) (va : Word) (go : State → Result) :
    s.checkStrict false va go =
      if s.cp15.ctrl.a then .next (takeDataAbort (alignmentAbort s.cp15 va) s) else .refused .unpredictableAlignment := rfl

/-- A halfword, signed or doubleword transfer of a form that R506 gives. -/
theorem halfTransfer_passed {c : Cond} {a : AddrMode} {s : State} {go : State → Result}
    (hc : conditionPassed c s.cpu.cpsr = true) (hu : userForm a = false) :
    (s.conditionally c fun s => s.checkHalfMode a go) = go s := by
  simp [State.conditionally, State.checkHalfMode, hc, hu]

/-- One of the form that R506 does not give. -/
theorem halfTransfer_undefined {c : Cond} {a : AddrMode} {s : State} {go : State → Result}
    (hc : conditionPassed c s.cpu.cpsr = true) (hu : userForm a = true) :
    (s.conditionally c fun s => s.checkHalfMode a go) = .refused .unpredictableAddressing := by
  simp [State.conditionally, State.checkHalfMode, hc, hu]

/-- LDRD or STRD with an even register. -/
theorem pairTransfer_passed {c : Cond} {a : AddrMode} {rd : RegNum} {s : State} {go : State → Result}
    (hc : conditionPassed c s.cpu.cpsr = true) (hu : userForm a = false) (hp : ¬rd.val % 2 = 1) :
    (s.conditionally c fun s => s.checkHalfMode a fun s => s.checkPair rd go) = go s :=
  (halfTransfer_passed hc hu).trans (if_neg hp)

/-- LDRD or STRD with an odd register. -/
theorem pairTransfer_odd {c : Cond} {a : AddrMode} {rd : RegNum} {s : State} {go : State → Result}
    (hc : conditionPassed c s.cpu.cpsr = true) (hu : userForm a = false) (hp : rd.val % 2 = 1) :
    (s.conditionally c fun s => s.checkHalfMode a fun s => s.checkPair rd go) = .refused .unpredictableRegisterPair :=
  (halfTransfer_passed hc hu).trans (if_pos hp)

/-- The alignment check that a transfer begins with: one that with A = 0 lets a misaligned word access go on, or one that stops
it. -/
inductive AlignmentCheck (i : Instr) (s : State) (a : Word) : Nat → Prop
  | word {go : State → Result} (hswp : ∀ c rn rd rm, i ≠ .swp c rn rd rm) (h : exec i s = s.checkWord a go) :
      AlignmentCheck i s a 4
  | strict {n : Nat} {aligned : Bool} {go : State → Result} (hal : aligned = true ↔ a.toNat % n = 0)
      (h : exec i s = s.checkStrict aligned a go) : AlignmentCheck i s a n

/-- Every transfer that passes its condition begins with its alignment check, before anything else of the access. -/
theorem alignmentCheck_of_alignedTransfer {i : Instr} {s : State} {c : Cond} {a : Word} {n : Nat}
    (h : alignedTransfer i s = some (c, a, n)) (hc : conditionPassed c s.cpu.cpsr = true) : AlignmentCheck i s a n := by
  cases i with
  | ldrImm | ldrReg | strImm | strReg =>
    cases h
    exact .word (by simp) (State.conditionally_passed hc)
  | ldrh | ldrsh | strh =>
    obtain ⟨hu, he⟩ := Option.ite_none_left_eq_some.1 h
    cases he
    exact .strict (halfAligned_iff _) (halfTransfer_passed hc (Bool.eq_false_iff.2 hu))
  | ldrd | strd =>
    obtain ⟨hu, he⟩ := Option.ite_none_left_eq_some.1 h
    cases he
    obtain ⟨hu, hp⟩ := not_or.1 hu
    exact .strict (doubleAligned_iff _) (pairTransfer_passed hc (Bool.eq_false_iff.2 hu) hp)
  | ldm _ _ caret rn list =>
    obtain ⟨hl, he⟩ := Option.ite_none_left_eq_some.1 h
    cases he
    exact .word (by simp)
      ((State.conditionally_passed hc : execLdm _ _ caret rn list s = _).trans (if_neg (listedRegs_ne_nil hl)))
  | stm _ _ caret rn list =>
    obtain ⟨hl, he⟩ := Option.ite_none_left_eq_some.1 h
    cases he
    exact .word (by simp)
      ((State.conditionally_passed hc : execStm _ _ caret rn list s = _).trans (if_neg (listedRegs_ne_nil hl)))
  | swp _ rn rd rm =>
    cases h
    exact .strict (wordAligned_iff _) (State.conditionally_passed hc : execSwp _ rn rd rm s = _)
  | _ => cases h

/-- A misaligned LDC or STC that the coprocessor has accepted takes the Data Abort with A = 1, and CPABORT tells (R464, assumption
36). -/
theorem extTransfer_misaligned {a : CoprocMode} {rn : RegNum} {cp : BitVec 4} {imm8 : BitVec 8} {ws : List Word}
    {rest : List (List CpDrive)} {s : State} (instr : BitVec 28) (hcp : cp ≠ 14#4) (hmode : undefinedMode a = false)
    (hpresent : coprocessorPresent s cp = true) (hreply : cpReply s.cpAnswers = .accepts ws rest) (ha : s.cp15.ctrl.a = true)
    (hm : (addressCoproc a rn imm8 s).address.toNat % 4 ≠ 0) :
    extLdc a rn cp instr imm8 s = .next (takeDataAbort (alignmentAbort s.cp15 (addressCoproc a rn imm8 s).address)
        ((s.withAnswers rest).sendCp cp instr [] true)) ∧
      extStc a rn cp instr imm8 s = extLdc a rn cp instr imm8 s := by
  have accepted (go : List Word → State → Result) : handshake cp s go = go ws (s.withAnswers rest) := by
    simp only [handshake, if_neg hcp, hpresent, if_true, hreply]
  have hal : (s.withAnswers rest).cp15.ctrl.a = true ∧
      wordAligned (addressCoproc a rn imm8 (s.withAnswers rest)).address = false := ⟨ha, wordAligned_eq_false hm⟩
  have hload : extLdc a rn cp instr imm8 s = _ :=
    (if_neg (by simp [hmode])).trans ((accepted _).trans (if_pos hal))
  exact ⟨hload, ((if_neg (by simp [hmode])).trans ((accepted _).trans (if_pos hal))).trans hload.symm⟩

/-- Settles O36: each transfer begins with its check, and LDC and STC make it once they are accepted. -/
theorem misalignedTransferAborts : Obligations.MisalignedTransferAborts := by
  refine ⟨fun i s c a n h hc ha hm => ?_, ?_⟩
  · cases alignmentCheck_of_alignedTransfer h hc with
    | word _ he => exact he.trans (State.checkWord_misaligned _ ha hm)
    | @strict _ aligned go hal he =>
      rw [he, Bool.eq_false_iff.2 (mt hal.1 hm), State.checkStrict_misaligned, if_pos ha]
      rfl
  · intro c a rn crd cp imm8 ws rest s hc hcp hmode hpresent hreply adr ha hm i hi
    have misaligned (instr : BitVec 28) := extTransfer_misaligned instr hcp hmode hpresent hreply ha hm
    rcases List.mem_pair.1 hi with rfl | rfl
    · exact (State.conditionally_passed hc).trans (misaligned _).1
    · exact (State.conditionally_passed hc).trans ((misaligned _).2.trans (misaligned _).1)

/-- Settles O37: the strict alignment check, the addressing form, the register pair and the SPSR that the mode has. -/
theorem unpredictableFormsStop : Obligations.UnpredictableFormsStop := by
  refine ⟨fun i s c a n h hc ha hm hstrict => ?_, fun c u rn rd off s hc i hi => ?_, fun c a rn rd off s hc hu hodd => ?_,
    fun c mask rm op s hc hnone => ?_⟩
  · cases alignmentCheck_of_alignedTransfer h hc with
    | word hswp _ =>
      obtain hn | ⟨rn, rd, rm, hi⟩ := hstrict
      · exact absurd rfl hn
      · exact absurd hi (hswp c rn rd rm)
    | strict hal he =>
      rw [he, Bool.eq_false_iff.2 (mt hal.1 hm), State.checkStrict_misaligned, ha]
      rfl
  · simp only [List.mem_cons, List.not_mem_nil, or_false] at hi
    rcases hi with rfl | rfl | rfl | rfl | rfl | rfl <;> exact halfTransfer_undefined hc rfl
  · exact ⟨pairTransfer_odd hc hu hodd, pairTransfer_odd hc hu hodd⟩
  · have noSpsr (v : Word) : writeStatus true mask v s = .refused .unpredictableSpsrWrite := by
      simp [writeStatus, writeSpsr, hnone]
    exact ⟨(State.conditionally_passed hc).trans (noSpsr _), (State.conditionally_passed hc).trans (noSpsr _)⟩

end Sys2Proof.Machine
end

section
/-! SUPPORT. Writes of the Control Register and of the TCM regions (R150, R291, R389, R391), and the byte lanes under either value
of B (R106). -/

namespace Sys2Proof.Machine

open Sys2Proof.Claims

/-- Every mode but User is privileged (R560). -/
theorem State.privileged_of_mode {s : State} (h : s.mode ≠ 0b10000#5) : s.privileged = true :=
  bne_iff_ne.2 h

/-! The reserved bits. -/

/-- Two words agree in a field just where their difference is zero in it. -/
theorem xor_and_eq_zero_iff (v w f : Word) : (v ^^^ w) &&& f = 0#32 ↔ v &&& f = w &&& f := by
  have hd : (v ^^^ w) &&& f = (v &&& f) ^^^ (w &&& f) := by
    ext j hj
    simp only [BitVec.getElem_and, BitVec.getElem_xor]
    cases f[j] <;> simp
  rw [hd, BitVec.xor_eq_zero_iff]

/-- A word holds ones in a field just where its complement is zero in it. -/
theorem not_and_eq_zero_iff (v f : Word) : ~~~v &&& f = 0#32 ↔ v &&& f = f := by
  constructor <;> intro h <;> ext j hj <;> have hj' := congrArg (·[j]) h <;>
    simp only [BitVec.getElem_and, BitVec.getElem_not, BitVec.getElem_zero] at hj' ⊢ <;>
    revert hj' <;> cases v[j] <;> cases f[j] <;> simp

/-- The reserved bits that a write is checked against, in the words of the statements. -/
theorem Reserved.allows_iff (r : Reserved) (read : List Word) (v : Word) :
    r.allows read v = true ↔ v &&& r.sbz = 0#32 ∧ ~~~v &&& r.sbo = 0#32 ∧
      ∀ f ∈ r.sbzp, v &&& f = 0#32 ∨ ∃ w ∈ read, (v ^^^ w) &&& f = 0#32 := by
  simp only [Reserved.allows, Bool.and_eq_true, Bool.or_eq_true, beq_iff_eq, List.all_eq_true, List.any_eq_true,
    xor_and_eq_zero_iff, not_and_eq_zero_iff, and_assoc]

/-- The check of an MCR's word is the statements' own, whichever register it writes. -/
theorem keepsReserved_eq_allows (i : Instr) (l : LastRead) (v : Word) :
    keepsReserved i l v =
      Reserved.allows ⟨(reservedBits i l).zeros, (reservedBits i l).ones, (reservedBits i l).preserved⟩
        (reservedBits i l).read v := by
  rw [Bool.eq_iff_iff, Reserved.allows_iff]
  simp only [keepsReserved, Bool.and_eq_true, Bool.or_eq_true, beq_iff_eq, List.all_eq_true, List.any_eq_true, and_assoc]

theorem keepsReserved_control (c : Cond) (rd : RegNum) (l : LastRead) (v : Word) :
    keepsReserved (.mcrControl c rd) l v = reservedControl.allows l.ctrl v := keepsReserved_eq_allows _ l v

theorem keepsReserved_dtcm (c : Cond) (rd : RegNum) (l : LastRead) (v : Word) :
    keepsReserved (.mcrDTcmRegion c rd) l v = reservedTcmRegion.allows l.dtcm.toList v := keepsReserved_eq_allows _ l v

theorem keepsReserved_itcm (c : Cond) (rd : RegNum) (l : LastRead) (v : Word) :
    keepsReserved (.mcrITcmRegion c rd) l v = reservedTcmRegion.allows l.itcm.toList v := keepsReserved_eq_allows _ l v

/-- The free value of r15 is not checked (assumption 37). -/
theorem mcrAllowed_iff (r : Reserved) (read : List Word) (rd : RegNum) (s : State) :
    mcrAllowed r read rd s = true ↔ rd = 15 ∨ r.allows read (mcrValue rd s) = true := by
  simp [mcrAllowed]

theorem mcrAllowed_eq_false {r : Reserved} {read : List Word} {rd : RegNum} {s : State} (h15 : rd ≠ 15)
    (h : r.allows read (mcrValue rd s) = false) : mcrAllowed r read rd s = false := by
  simp [mcrAllowed, h15, h]

/-! The writes. -/

theorem mcrValue_of_ne {rd : RegNum} {s : State} (h : rd ≠ 15) : mcrValue rd s = s.reg rd := if_neg h

theorem mcrSpend_of_ne {rd : RegNum} {s : State} (h : rd ≠ 15) : mcrSpend rd s = s := if_neg h

/-- The value of an MCR, drawn or not, changes nothing but the count of values drawn. -/
theorem mcrSpend_eq (rd : RegNum) (s : State) :
    mcrSpend rd s = { s with ms := { s.ms with draws := (mcrSpend rd s).ms.draws } } := by
  unfold mcrSpend
  split <;> rfl

/-- In a privileged mode a word that may be written is written. -/
theorem cp15Write_allowed {c : Cond} {rd : RegNum} {r : Reserved} {read : LastRead → List Word}
    {write : Word → State → State} {s : State} (hc : conditionPassed c s.cpu.cpsr = true) (hp : s.privileged = true)
    (ha : mcrAllowed r (read s.lastRead) rd s = true) :
    cp15Write c rd r read write s = .next (write (mcrValue rd s) (mcrSpend rd s)).advance :=
  (cp15Access_privileged hc hp).trans (if_pos ha)

/-- One that breaks the reserved bits is refused (D3). -/
theorem cp15Write_reserved {c : Cond} {rd : RegNum} {r : Reserved} {read : LastRead → List Word}
    {write : Word → State → State} {s : State} (hc : conditionPassed c s.cpu.cpsr = true) (hp : s.privileged = true)
    (ha : mcrAllowed r (read s.lastRead) rd s = false) : cp15Write c rd r read write s = .refused .reservedBits :=
  (cp15Access_privileged hc hp).trans (if_neg (by simp [ha]))

/-- In a privileged mode a word that may be written gives a TCM region, unless the two would overlap (R150, U41). -/
theorem writeTcmRegions_allowed {read : LastRead → List Word} {f : Word → Cp15 → Cp15} {c : Cond} {rd : RegNum} {s : State}
    (hc : conditionPassed c s.cpu.cpsr = true) (hp : s.privileged = true)
    (ha : mcrAllowed reservedTcmRegion (read s.lastRead) rd s = true) :
    writeTcmRegions read f c rd s =
      if tcmRegionsOverlap s.cfg (f (mcrValue rd s) s.cp15).itcm (f (mcrValue rd s) s.cp15).dtcm then .refused .tcmOverlap
      else .next ((mcrSpend rd s).withCp15 (f (mcrValue rd s) s.cp15)).advance :=
  (cp15Access_privileged hc hp).trans (if_neg (by simp [ha]))

theorem writeTcmRegions_reserved {read : LastRead → List Word} {f : Word → Cp15 → Cp15} {c : Cond} {rd : RegNum} {s : State}
    (hc : conditionPassed c s.cpu.cpsr = true) (hp : s.privileged = true)
    (ha : mcrAllowed reservedTcmRegion (read s.lastRead) rd s = false) :
    writeTcmRegions read f c rd s = .refused .reservedBits :=
  (cp15Access_privileged hc hp).trans (if_pos ha)

/-! The overlap of two regions. -/

theorem sameBlock_iff (k : Nat) (x y : Word) : sameBlock k x y = true ↔ x.toNat / 2 ^ k = y.toNat / 2 ^ k := by
  rw [sameBlock, beq_iff_eq, ← BitVec.toNat_inj, BitVec.toNat_ushiftRight, BitVec.toNat_ushiftRight,
    Nat.shiftRight_eq_div_pow, Nat.shiftRight_eq_div_pow]

theorem toNat_base_append (base : BitVec 20) : (base ++ 0#12 : Word).toNat = base.toNat * 2 ^ 12 := by
  rw [BitVec.toNat_append, BitVec.toNat_zero, Nat.or_zero, Nat.shiftLeft_eq]

/-- Numbers in one block are in one larger block. -/
theorem div_two_pow_eq_of_le {x y j k : Nat} (h : x / 2 ^ j = y / 2 ^ j) (hjk : j ≤ k) : x / 2 ^ k = y / 2 ^ k := by
  obtain ⟨d, rfl⟩ := Nat.exists_eq_add_of_le hjk
  rw [Nat.pow_add, ← Nat.div_div_eq_div_mul, h, Nat.div_div_eq_div_mul]

/-- Blocks of two sizes share a number just when the larger one holds the other. -/
theorem exists_shared_iff (x y j k : Nat) :
    x / 2 ^ max j k = y / 2 ^ max j k ↔ ∃ a, a / 2 ^ j = x / 2 ^ j ∧ a / 2 ^ k = y / 2 ^ k := by
  constructor
  · intro h
    rcases Nat.le_total j k with hjk | hkj
    · rw [Nat.max_eq_right hjk] at h
      exact ⟨x, rfl, h⟩
    · rw [Nat.max_eq_left hkj] at h
      exact ⟨y, h.symm, rfl⟩
  · rintro ⟨a, hj, hk⟩
    exact (div_two_pow_eq_of_le hj (Nat.le_max_left j k)).symm.trans (div_two_pow_eq_of_le hk (Nat.le_max_right j k))

/-- Regions overlap when both exist, are enabled and share an address (R150). -/
theorem tcmRegionsOverlap_iff (cfg : Config) (i d : TcmRegion) :
    tcmRegionsOverlap cfg i d = true ↔
      i.enable = true ∧ d.enable = true ∧ ∃ j k a : Nat, cfg.itcmSize.log2 = some j ∧ cfg.dtcmSize.log2 = some k ∧
        a / 2 ^ j = i.base.toNat * 2 ^ 12 / 2 ^ j ∧ a / 2 ^ k = d.base.toNat * 2 ^ 12 / 2 ^ k := by
  simp only [tcmRegionsOverlap]
  split
  · next j k hj hk =>
    simp only [Bool.and_eq_true, sameBlock_iff, toNat_base_append, exists_shared_iff, hj, hk, Option.some.injEq, and_assoc]
    constructor
    · rintro ⟨hi, hd, a, ha⟩
      exact ⟨hi, hd, j, k, a, rfl, rfl, ha⟩
    · rintro ⟨hi, hd, _, _, a, rfl, rfl, ha⟩
      exact ⟨hi, hd, a, ha⟩
  · next hn =>
    simp only [Bool.false_eq_true, false_iff]
    rintro ⟨_, _, j, k, _, hj, hk, _⟩
    exact hn j k hj hk

/-! The byte lanes. -/

/-- Inverting the low bits of an address undoes the reversal of the lanes. -/
theorem laneOf_not (big : Bool) (a : Word) : laneOf (!big) (a ^^^ 3#32) = laneOf big a := by
  have hlow : (a ^^^ 3#32).extractLsb' 0 2 = ~~~(a.extractLsb' 0 2) := by
    ext j hj
    obtain rfl | rfl : j = 0 ∨ j = 1 := by omega
    all_goals simp
  cases big <;> simp [laneOf, hlow]

theorem halfLaneOf_not (big : Bool) (a : Word) : halfLaneOf (!big) (a ^^^ 2#32) = halfLaneOf big a := by
  have hlow : (a ^^^ 2#32).extractLsb' 1 1 = ~~~(a.extractLsb' 1 1) := by
    ext j hj
    obtain rfl : j = 0 := by omega
    simp
  cases big <;> simp [halfLaneOf, hlow]

/-- Settles O44: the reserved bits decide between the write and the refusal, two regions share an address just when the blocks of
their bases meet, and the lanes of the two values of B mirror each other. -/
theorem controlAndTcmRegionWrites : Obligations.ControlAndTcmRegionWrites := by
  refine ⟨fun c rd s hc hm => ?_, tcmRegionsOverlap_iff, fun big a x h => ?_⟩
  · have hp := State.privileged_of_mode hm
    refine ⟨mcrValue rd s, (mcrSpend rd s).ms.draws, fun h15 => ⟨mcrValue_of_ne h15, by rw [mcrSpend_of_ne h15]⟩, ?_⟩
    rw [keepsReserved_control, keepsReserved_dtcm, keepsReserved_itcm]
    refine ⟨fun hv => ?_, fun h15 hv => ?_, fun hv => ?_, fun h15 hv => ?_, fun hv => ?_, fun h15 hv => ?_⟩
    · refine (cp15Write_allowed hc hp ((mcrAllowed_iff _ _ rd s).2 hv)).trans ?_
      rw [mcrSpend_eq]
      rfl
    · exact cp15Write_reserved hc hp (mcrAllowed_eq_false h15 hv)
    · refine (writeTcmRegions_allowed hc hp ((mcrAllowed_iff _ _ rd s).2 hv) : execMcrDTcmRegion c rd s = _).trans ?_
      rw [mcrSpend_eq]
      rfl
    · exact (writeTcmRegions_reserved hc hp (mcrAllowed_eq_false h15 hv) : execMcrDTcmRegion c rd s = _)
    · refine (writeTcmRegions_allowed hc hp ((mcrAllowed_iff _ _ rd s).2 hv) : execMcrITcmRegion c rd s = _).trans ?_
      rw [mcrSpend_eq]
      rfl
    · exact (writeTcmRegions_reserved hc hp (mcrAllowed_eq_false h15 hv) : execMcrITcmRegion c rd s = _)
  · simp only [byteLanes, byteOnLane, halfLanes, halfOnLanes, laneOf_not, halfLaneOf_not, true_and]

end Sys2Proof.Machine
end

section
/-! SUPPORT. The cache maintenance operations line by line (R136, R349 to R363), and the bytes that a clean writes. -/

namespace Sys2Proof.Machine

open Sys2Proof.Claims

/-! Invalidations and cleans. -/

/-- In a privileged mode, with the cache RAMs powered, a maintenance operation acts on the memory system alone. -/
theorem cacheOperation_powered {c : Cond} {rd : RegNum} {op : Word → State → MemSys → MemSys} {s : State}
    (hc : conditionPassed c s.cpu.cpsr = true) (hp : s.privileged = true) (hi : s.pins.icacheRam = true)
    (hd : s.pins.dcacheRam = true) :
    cacheOperation c rd op s =
      .next ((mcrSpend rd s).withMs (op (mcrValue rd s) s (mcrSpend rd s).ms)).advance :=
  (cp15Access_privileged hc hp).trans (if_pos (by rw [hi, hd]; rfl))

/-- The operation matters by what it does in this state. -/
theorem cacheOperation_congr {c : Cond} {rd : RegNum} {op op' : Word → State → MemSys → MemSys} {s : State}
    (h : ∀ v ms, op v s ms = op' v s ms) : cacheOperation c rd op s = cacheOperation c rd op' s := by
  simp only [cacheOperation, cp15Access, State.conditionally, h]

theorem dropDLines_none (ms : MemSys) : dropDLines (fun _ => false) ms = ms := by
  simp [dropDLines]

theorem dropILines_none (ms : MemSys) : dropILines (fun _ => false) ms = ms := by
  simp [dropILines]

/-- The set and way of an operand, over the integers (R349). -/
theorem isAt_operand (size : CacheSize) (v : Word) (l : CacheLine) :
    l.isAt size (operandSet size v) (operandWay v) =
      (l.way == v.extractLsb' 30 2 && l.block.toNat % 2 ^ size.setBits == v.toNat / 32 % 2 ^ size.setBits) := by
  rw [CacheLine.isAt, operandSet, BitVec.toNat_ushiftRight, Nat.shiftRight_eq_div_pow]
  rfl

theorem atOperandI_eq (v : Word) (s : State) : atOperandI v s = fun l =>
    l.way == v.extractLsb' 30 2 &&
      l.block.toNat % 2 ^ s.cfg.icacheSize.setBits == v.toNat / 32 % 2 ^ s.cfg.icacheSize.setBits :=
  funext (isAt_operand _ v)

theorem atOperandD_eq (v : Word) (s : State) : atOperandD v s = fun l =>
    l.way == v.extractLsb' 30 2 &&
      l.block.toNat % 2 ^ s.cfg.dcacheSize.setBits == v.toNat / 32 % 2 ^ s.cfg.dcacheSize.setBits :=
  funext (isAt_operand _ v)

/-- Make lines of either cache invalid, those that a test of the operand picks. -/
def invalidateLines (fi fd : Word → CacheLine → Bool) (v : Word) (_s : State) (ms : MemSys) : MemSys :=
  dropILines (fi v) (dropDLines (fd v) ms)

/-- Each invalidation drops the lines that its row of the statement's table names. -/
theorem exec_cacheInvalidation {i : Instr} {s : State} {c : Cond} {rd : RegNum} {fi fd : Word → CacheLine → Bool}
    (h : cacheInvalidation i s.cfg = some (c, rd, fi, fd)) :
    exec i s = cacheOperation c rd (invalidateLines fi fd) s := by
  cases i with
  | mcrInvalidateCaches c rd =>
    cases h
    rfl
  | mcrInvalidateICache c rd =>
    cases h
    exact (cacheOperation_congr fun _ ms => congrArg _ (dropDLines_none ms).symm :
      execMcrInvalidateICache c rd s = cacheOperation c rd (invalidateLines _ _) s)
  | mcrInvalidateICacheMva c rd =>
    cases h
    exact (cacheOperation_congr fun _ ms => congrArg _ (dropDLines_none ms).symm :
      execMcrInvalidateICacheMva c rd s = cacheOperation c rd (invalidateLines _ _) s)
  | mcrInvalidateICacheSetWay c rd =>
    cases h
    exact (cacheOperation_congr fun v ms => by rw [atOperandI_eq]; exact congrArg _ (dropDLines_none ms).symm :
      execMcrInvalidateICacheSetWay c rd s = cacheOperation c rd (invalidateLines _ _) s)
  | mcrInvalidateDCache c rd =>
    cases h
    exact (cacheOperation_congr fun _ _ => (dropILines_none _).symm :
      execMcrInvalidateDCache c rd s = cacheOperation c rd (invalidateLines _ _) s)
  | mcrInvalidateDCacheMva c rd =>
    cases h
    exact (cacheOperation_congr fun _ _ => (dropILines_none _).symm :
      execMcrInvalidateDCacheMva c rd s = cacheOperation c rd (invalidateLines _ _) s)
  | mcrInvalidateDCacheSetWay c rd =>
    cases h
    exact (cacheOperation_congr fun v ms => by rw [atOperandD_eq]; exact (dropILines_none _).symm :
      execMcrInvalidateDCacheSetWay c rd s = cacheOperation c rd (invalidateLines _ _) s)
  | _ => cases h

/-- Clean lines of the DCache, and in the invalidating form make them invalid. -/
def cleanThen (inval : Bool) (f : Word → CacheLine → Bool) (v : Word) (_s : State) (ms : MemSys) : MemSys :=
  if inval then dropDLines (f v) (cleanLines (f v) ms) else cleanLines (f v) ms

/-- Each clean acts on the lines that its row of the statement's table names, and no test of a line looks at its dirty bits. -/
theorem exec_cacheClean {i : Instr} {s : State} {c : Cond} {rd : RegNum} {f : Word → CacheLine → Bool} {inval : Bool}
    (h : cacheClean i s.cfg = some (c, rd, f, inval)) :
    exec i s = cacheOperation c rd (cleanThen inval f) s ∧ ∀ v l, f v l.cleaned = f v l := by
  cases i with
  | mcrCleanDCacheMva | mcrCleanInvalidateDCacheMva =>
    cases h
    exact ⟨rfl, fun _ _ => rfl⟩
  | mcrCleanDCacheSetWay c rd =>
    cases h
    exact ⟨(cacheOperation_congr fun v ms => by rw [atOperandD_eq]; rfl : execMcrCleanDCacheSetWay c rd s = _),
      fun _ _ => rfl⟩
  | mcrCleanInvalidateDCacheSetWay c rd =>
    cases h
    exact ⟨(cacheOperation_congr fun v ms => by rw [atOperandD_eq]; rfl : execMcrCleanInvalidateDCacheSetWay c rd s = _),
      fun _ _ => rfl⟩
  | _ => cases h

/-- Dropping the lines just cleaned leaves the lines that were not named. -/
theorem filter_not_map_cleaned {pick : CacheLine → Bool} (hp : ∀ l, pick l.cleaned = pick l) (lines : List CacheLine) :
    ((lines.map fun l => if pick l then l.cleaned else l).filter fun l => !pick l) = lines.filter fun l => !pick l := by
  induction lines with
  | nil => rfl
  | cons l ls ih =>
    rw [List.map_cons]
    cases hl : pick l <;> simp [hl, hp, ih]

theorem cleanThen_dcache {inval : Bool} {f : Word → CacheLine → Bool} (hf : ∀ v l, f v l.cleaned = f v l) (v : Word)
    (s : State) (ms : MemSys) :
    (cleanThen inval f v s ms).dcache = if inval then ms.dcache.filter fun l => !f v l
      else ms.dcache.map fun l => if f v l then l.cleaned else l := by
  cases inval with
  | true => exact filter_not_map_cleaned (hf v) ms.dcache
  | false => rfl

/-- A clean sends the dirty halves of its lines to memory, through the buffers (R360). -/
theorem cleanThen_settled (inval : Bool) (f : Word → CacheLine → Bool) (v : Word) (s : State) (ms : MemSys) :
    (cleanThen inval f v s ms).settledMem =
      ms.settledMem.applyAll ((ms.dcache.filter (f v)).flatMap CacheLine.castouts) := by
  cases inval <;> exact MemSys.pushBus_settled ms _

/-- A clean leaves the rest of the memory system. -/
theorem cleanThen_eq (inval : Bool) (f : Word → CacheLine → Bool) (v : Word) (s : State) (ms : MemSys) :
    cleanThen inval f v s ms =
      { ms with
        mem := (cleanThen inval f v s ms).mem, wbuf := (cleanThen inval f v s ms).wbuf
        dcache := (cleanThen inval f v s ms).dcache } := by
  cases inval <;> rfl

theorem cleanThen_draws (inval : Bool) (f : Word → CacheLine → Bool) (v : Word) (s : State) (ms : MemSys) :
    (cleanThen inval f v s ms).draws = ms.draws := by
  rw [cleanThen_eq]

/-- What an MCR draws for its operand it draws for r15 alone (R255, assumption 37). -/
theorem mcrGives_mcrValue {rd : RegNum} {s t : State} (h : t.ms.draws = (mcrSpend rd s).ms.draws) :
    mcrGives rd (mcrValue rd s) s t := fun h15 => ⟨mcrValue_of_ne h15, by rw [h, mcrSpend_of_ne h15]⟩

theorem mcrSpend_dcache (rd : RegNum) (s : State) : (mcrSpend rd s).ms.dcache = s.ms.dcache := by
  rw [mcrSpend_eq]

theorem mcrSpend_icache (rd : RegNum) (s : State) : (mcrSpend rd s).ms.icache = s.ms.icache := by
  rw [mcrSpend_eq]

theorem mcrSpend_settled (rd : RegNum) (s : State) : (mcrSpend rd s).ms.settledMem = s.ms.settledMem := by
  rw [mcrSpend_eq]
  rfl

/-! The bytes of a cast-out. -/

theorem toNat_lineWord (pa : BitVec 27) (n : Fin 8) : (lineWord pa n).toNat = 8 * pa.toNat + n.val := by
  have hn : n.val < 2 ^ 3 := n.isLt
  rw [lineWord, BitVec.toNat_append, show (BitVec.ofFin n : BitVec 3).toNat = n.val from rfl, Nat.shiftLeft_eq, Nat.mul_comm,
    ← Nat.two_pow_add_eq_or_of_lt hn]

/-- A cast-out of a word writes its four bytes. -/
theorem read_apply_castoutWord {m : Memory} (l : CacheLine) (n : Fin 8) (cell : Nat) (h : m.wf = true) :
    (m.apply (l.castoutWord n)).read cell =
      if cell / 4 = 8 * l.pa.toNat + n.val then (l.words.get n).extractLsb' (8 * (cell % 4)) 8 else m.read cell := by
  have lane : (15#4).getLsbD (cell % 4) = true := by
    have hlane : cell % 4 < 4 := Nat.mod_lt _ (by decide)
    interval_cases cell % 4 <;> rfl
  simp only [Memory.apply, Memory.read_writeLanes _ _ _ _ h, CacheLine.castoutWord, toNat_lineWord, lane, and_true]

/-- The words of the dirty halves of a line, in the order of the write-backs (R136). -/
def CacheLine.dirtyWords (l : CacheLine) : List (Fin 8) :=
  (if l.dirtyLo then [0, 1, 2, 3] else []) ++ if l.dirtyHi then [4, 5, 6, 7] else []

theorem CacheLine.castouts_eq (l : CacheLine) : l.castouts = l.dirtyWords.map l.castoutWord := by
  rw [CacheLine.castouts, CacheLine.dirtyWords, List.map_append]
  cases l.dirtyLo <;> cases l.dirtyHi <;> rfl

theorem CacheLine.mem_dirtyWords (l : CacheLine) (n : Fin 8) :
    n ∈ l.dirtyWords ↔ (if n.val < 4 then l.dirtyLo else l.dirtyHi) = true := by
  rw [CacheLine.dirtyWords]
  cases l.dirtyLo <;> cases l.dirtyHi <;> revert n <;> decide

/-- Word by word, what cast-outs of a line leave in the line's bytes. -/
theorem read_applyAll_castoutWords {m : Memory} (l : CacheLine) (ns : List (Fin 8)) (n : Fin 8) {j : Nat} (hj : j < 4)
    (h : m.wf = true) :
    (m.applyAll (ns.map l.castoutWord)).read (32 * l.pa.toNat + 4 * n.val + j) =
      if n ∈ ns then (l.words.get n).extractLsb' (8 * j) 8 else m.read (32 * l.pa.toNat + 4 * n.val + j) := by
  induction ns generalizing m with
  | nil => rfl
  | cons k ns ih =>
    have hword : (32 * l.pa.toNat + 4 * n.val + j) / 4 = 8 * l.pa.toNat + n.val := by omega
    have hlane : (32 * l.pa.toNat + 4 * n.val + j) % 4 = j := by omega
    have hsame : 8 * l.pa.toNat + n.val = 8 * l.pa.toNat + k.val ↔ n = k := by rw [Fin.ext_iff]; omega
    rw [List.map_cons, Memory.applyAll_cons, ih (Memory.wf_apply _ h), read_apply_castoutWord l k _ h, hword, hlane]
    simp only [hsame, List.mem_cons]
    by_cases hns : n ∈ ns
    · simp [hns]
    · by_cases hk : n = k
      · simp [hk]
      · simp [hns, hk]

/-- Cast-outs of a line write no byte outside it. -/
theorem read_applyAll_castoutWords_outside {m : Memory} (l : CacheLine) (ns : List (Fin 8)) {cell : Nat}
    (hcell : cell / 32 ≠ l.pa.toNat) (h : m.wf = true) : (m.applyAll (ns.map l.castoutWord)).read cell = m.read cell := by
  induction ns generalizing m with
  | nil => rfl
  | cons k ns ih =>
    rw [List.map_cons, Memory.applyAll_cons, ih (Memory.wf_apply _ h), read_apply_castoutWord l k _ h,
      if_neg (by have := k.isLt; omega)]

/-- Settles O46: each operation acts on the lines of its row of the table, and a cast-out writes the words of the dirty halves. -/
theorem cacheMaintenance : Obligations.CacheMaintenance := by
  refine ⟨fun i s c rd hc hm hi hd => ⟨fun fi fd h => ?_, fun f inval h => ?_⟩,
    fun l m hw => ⟨fun n j hj => ?_, fun cell hcell => ?_⟩⟩
  · refine ⟨_, mcrValue rd s, (exec_cacheInvalidation h).trans
      (cacheOperation_powered hc (State.privileged_of_mode hm) hi hd), mcrGives_mcrValue rfl, fun l => ?_, fun l => ?_, ?_⟩
    · simp [invalidateLines, dropILines, dropDLines, mcrSpend_icache]
    · simp [invalidateLines, dropILines, dropDLines, mcrSpend_dcache]
    · rw [mcrSpend_eq]
      rfl
  · obtain ⟨he, hf⟩ := exec_cacheClean h
    refine ⟨_, mcrValue rd s, he.trans (cacheOperation_powered hc (State.privileged_of_mode hm) hi hd),
      mcrGives_mcrValue (cleanThen_draws inval f _ s _), ?_, ?_, ?_⟩
    · exact (cleanThen_settled inval f _ s _).trans (by rw [mcrSpend_settled, mcrSpend_dcache])
    · exact (cleanThen_dcache hf _ s _).trans (by rw [mcrSpend_dcache]; rfl)
    · rw [mcrSpend_eq, cleanThen_eq]
      rfl
  · rw [CacheLine.castouts_eq, read_applyAll_castoutWords l _ n hj hw]
    simp only [CacheLine.mem_dirtyWords]
  · rw [CacheLine.castouts_eq, read_applyAll_castoutWords_outside l _ hcell hw]

end Sys2Proof.Machine
end

section
/-! SUPPORT. A word of memory after writes, pending or done, and what a data read finds of it by each path: TCM, DCache, write buffer
and AHB (R127, R137, R141, R153). -/

namespace Sys2Proof.Machine

/-! Words of byte memory. -/

/-- A word is its four bytes, lane by lane. -/
theorem wordOfLanes_extract (v : Word) :
    wordOfLanes (v.extractLsb' 0 8) (v.extractLsb' 8 8) (v.extractLsb' 16 8) (v.extractLsb' 24 8) = v := by
  refine BitVec.eq_of_getLsbD_eq fun j hj => ?_
  show ((v.extractLsb' 24 8 ++ v.extractLsb' 16 8 ++ v.extractLsb' 8 8 ++ v.extractLsb' 0 8 :
    BitVec (8 + 8 + 8 + 8))).getLsbD j = v.getLsbD j
  simp only [BitVec.getLsbD_append, BitVec.getLsbD_extractLsb']
  split
  · next h0 => simp [h0]
  · split
    · next h1 => rw [show 8 + (j - 8) = j by omega, decide_eq_true h1, Bool.true_and]
    · split
      · next h2 => rw [show 16 + (j - 8 - 8) = j by omega, decide_eq_true h2, Bool.true_and]
      · rw [show 24 + (j - 8 - 8 - 8) = j by omega, decide_eq_true (by omega), Bool.true_and]

/-- A word written whole reads back. -/
theorem Memory.readWord_writeLanes_same {m : Memory} (word : BitVec 30) (v : Word) (h : m.wf = true) :
    (m.writeLanes word 15#4 v).readWord word = v := by
  have byte {lane : Nat} (hl : lane < 4) :
      (m.writeLanes word 15#4 v).read (cellOf word lane) = v.extractLsb' (8 * lane) 8 := by
    have hword : cellOf word lane / 4 = word.toNat := by simp only [cellOf]; omega
    have hlane : cellOf word lane % 4 = lane := by simp only [cellOf]; omega
    rw [Memory.read_writeLanes _ _ _ _ h, hword, hlane, if_pos ⟨rfl, by interval_cases lane <;> rfl⟩]
  rw [Memory.readWord, byte (by decide), byte (by decide), byte (by decide), byte (by decide)]
  exact wordOfLanes_extract v

/-- A byte of a word that is not driven reads as before. -/
theorem Memory.read_writeLanes_of_not {m : Memory} {word : BitVec 30} {lanes : BitVec 4} {data : Word} {cell : Nat}
    (h : m.wf = true) (hn : ¬(cell / 4 = word.toNat ∧ lanes.getLsbD (cell % 4))) :
    (m.writeLanes word lanes data).read cell = m.read cell := by
  rw [Memory.read_writeLanes _ _ _ _ h, if_neg hn]

/-- Memories that hold the same four bytes hold the same word. -/
theorem Memory.readWord_congr {m m' : Memory} {word : BitVec 30}
    (h : ∀ lane < 4, m.read (cellOf word lane) = m'.read (cellOf word lane)) : m.readWord word = m'.readWord word := by
  rw [Memory.readWord, h 0 (by decide), h 1 (by decide), h 2 (by decide), h 3 (by decide)]
  rfl

/-- A pending write of another word leaves a word as it is. -/
theorem Memory.readWord_apply_of_ne {m : Memory} {p : PendingWrite} {word : BitVec 30} (h : m.wf = true)
    (hp : p.word ≠ word) : (m.apply p).readWord word = m.readWord word := by
  refine Memory.readWord_congr fun lane hl => Memory.read_writeLanes_of_not h fun hw => hp (BitVec.toNat_inj.1 ?_)
  have hcell : cellOf word lane / 4 = word.toNat := by simp only [cellOf]; omega
  exact hw.1.symm.trans hcell

theorem Memory.readWord_applyAll_of_ne {m : Memory} {ps : List PendingWrite} {word : BitVec 30} (h : m.wf = true)
    (hp : ∀ p ∈ ps, p.word ≠ word) : (m.applyAll ps).readWord word = m.readWord word := by
  induction ps generalizing m with
  | nil => rfl
  | cons p ps ih =>
    obtain ⟨hp, hps⟩ := List.forall_mem_cons.1 hp
    rw [Memory.applyAll_cons, ih (Memory.wf_apply p h) hps, Memory.readWord_apply_of_ne h hp]

/-- A word to which no write is pending stands in memory as it will when all have gone. -/
theorem MemSys.readWord_of_not_pending {ms : MemSys} {word : BitVec 30} (h : ms.wf = true)
    (hp : ms.pendingWord word = false) : ms.mem.readWord word = ms.settledMem.readWord word := by
  refine (Memory.readWord_applyAll_of_ne ((MemSys.wf_iff ms).1 h).1 fun p hm he => ?_).symm
  simp only [MemSys.pendingWord, List.any_eq_false, beq_iff_eq] at hp
  exact hp p hm he

/-! Queued writes. -/

/-- A word queued for the data TCM is what the core reads of it (R153). -/
theorem MemSys.pushDtcm_readWord {ms : MemSys} (word : BitVec 30) (v : Word) (h : ms.wf = true) :
    (ms.pushDtcm { word := word, lanes := 15#4, data := v, castout := false }).settledDtcm.readWord word = v := by
  simp only [MemSys.settledDtcm, MemSys.pushDtcm, ← Memory.applyAll_append, List.take_append_drop]
  rw [Memory.applyAll_append, Memory.applyAll_cons, Memory.applyAll_nil]
  exact Memory.readWord_writeLanes_same word v (MemSys.wf_settled h).2.2

/-- A word queued for the instruction TCM is what the core reads of it (R153). -/
theorem MemSys.pushItcm_readWord {ms : MemSys} (word : BitVec 30) (v : Word) (h : ms.wf = true) :
    (ms.pushItcm { word := word, lanes := 15#4, data := v, castout := false }).settledItcm.readWord word = v := by
  simp only [MemSys.settledItcm, MemSys.pushItcm, ← Memory.applyAll_append, List.take_append_drop]
  rw [Memory.applyAll_append, Memory.applyAll_cons, Memory.applyAll_nil]
  exact Memory.readWord_writeLanes_same word v (MemSys.wf_settled h).2.1

/-- A word queued for AHB is what memory holds there once the buffers have drained (R141). -/
theorem MemSys.pushBus_readWord {ms : MemSys} (word : BitVec 30) (v : Word) (castout : Bool) (h : ms.wf = true) :
    (ms.pushBus [{ word := word, lanes := 15#4, data := v, castout := castout }]).settledMem.readWord word = v := by
  rw [MemSys.pushBus_settled, Memory.applyAll_cons, Memory.applyAll_nil]
  exact Memory.readWord_writeLanes_same word v (MemSys.wf_settled h).1

/-! Reads. -/

theorem lineWord_lineAddr (a : Word) : lineWord (lineAddr a) (wordInLine a) = wordAddr a := by
  show lineAddr a ++ a.extractLsb' 2 3 = wordAddr a
  ext j hj
  simp only [lineAddr, wordAddr, BitVec.getElem_append, BitVec.getElem_extractLsb']
  split
  · rfl
  · rw [show 5 + (j - 3) = 2 + j by omega]

/-- The line of an address's word is the address's line. -/
theorem extractLsb'_wordAddr (a : Word) : (wordAddr a).extractLsb' 3 27 = lineAddr a := by
  ext j hj
  simp only [wordAddr, lineAddr, BitVec.getElem_extractLsb', BitVec.getLsbD_extractLsb']
  rw [show 2 + (3 + j) = 5 + j by omega]
  simp [show 3 + j < 30 by omega]

/-- A noncached read finds the word that memory holds once every pending write has gone (R141, D16). -/
theorem beforeBusRead_readWord {ms : MemSys} (typ : RegionType) (pa : Word) (h : ms.wf = true) :
    (beforeBusRead typ pa ms).mem.readWord (wordAddr pa) = ms.settledMem.readWord (wordAddr pa) := by
  simp only [beforeBusRead]
  split
  · rfl
  · next hn => exact MemSys.readWord_of_not_pending h (by simpa using (not_or.1 hn).2)

/-- So does a data-side linefill, of a word that its slave answers (R135, R141). -/
theorem filledWord_eq {k : Ctx} {pa : Word} {ms : MemSys} (h : ms.wf = true) (he : busError k.cfg (wordAddr pa) = false) :
    filledWord k pa ms = ms.settledMem.readWord (wordAddr pa) := by
  have filled (m : MemSys) : (fillWords k.cfg m (lineAddr pa)).get (wordInLine pa) = m.mem.readWord (wordAddr pa) := by
    simp [fillWords, Vector.get_eq_getElem, lineWord_lineAddr, he]
  simp only [filledWord, filled]
  split
  · rfl
  · next hn =>
    refine MemSys.readWord_of_not_pending h (Bool.eq_false_iff.2 fun hp => hn ?_)
    obtain ⟨p, hm, hw⟩ := List.any_eq_true.1 hp
    exact List.any_eq_true.2 ⟨p, hm, beq_iff_eq.2 (by rw [beq_iff_eq.1 hw, extractLsb'_wordAddr])⟩

theorem readBus_ok {k : Ctx} {typ : RegionType} {mva pa w : Word} {ms ms' : MemSys} (h : ms.wf = true)
    (hr : readBus k typ mva pa ms = .ok w ms') : w = ms.settledMem.readWord (wordAddr pa) := by
  simp only [readBus] at hr
  split at hr
  · cases hr
  · cases hr
    exact beforeBusRead_readWord typ pa h

/-- A read that the DCache misses finds what memory holds once every pending write has gone. -/
theorem readDCache_miss {k : Ctx} {mva pa w : Word} {ms ms' : MemSys} (h : ms.wf = true)
    (he : busError k.cfg (wordAddr pa) = false) (hm : findLine ms.dcache (lineAddr mva) = none)
    (hr : readDCache k mva pa ms = .ok w ms') : w = ms.settledMem.readWord (wordAddr pa) := by
  simp only [readDCache, hm] at hr
  split at hr
  · cases hr
  · cases hr
    exact filledWord_eq h he

/-- One that it hits finds the line's word. -/
theorem readDCache_hit {k : Ctx} {mva pa w : Word} {ms ms' : MemSys} {l : CacheLine}
    (hl : findLine ms.dcache (lineAddr mva) = some l) (hr : readDCache k mva pa ms = .ok w ms') :
    w = l.words.get (wordInLine mva) := by
  simp only [readDCache, hl] at hr
  split at hr <;> cases hr
  rfl

/-! Writes. -/

/-- A write to AHB, buffered or not, is what memory holds once every pending write has gone (R127, R140). -/
theorem writeBus_readWord {k : Ctx} {typ : RegionType} {mva pa v : Word} {ms ms' : MemSys} (h : ms.wf = true)
    (hw : writeBus k typ mva pa 15#4 v ms = .ok () ms') : ms'.settledMem.readWord (wordAddr pa) = v := by
  simp only [writeBus] at hw
  split at hw
  · split at hw <;> cases hw
    exact Memory.readWord_writeLanes_same _ v (MemSys.wf_settled h).1
  · cases hw
    exact MemSys.pushBus_readWord _ v false h

theorem mergeLanes_all (old v : Word) : mergeLanes old v 15#4 = v := wordOfLanes_extract v

theorem CacheLine.store_get (l : CacheLine) (n : Fin 8) (v : Word) (back : Bool) :
    (l.store n 15#4 v back).words.get n = v := by
  simp [CacheLine.store, Vector.get_eq_getElem, mergeLanes_all]

/-- The line that an MVA hits is still hit once it has been changed. -/
theorem findLine_updateLine {lines : List CacheLine} {block : BitVec 27} {l : CacheLine} {f : CacheLine → CacheLine}
    (hf : ∀ l, (f l).block = l.block) (h : findLine lines block = some l) :
    findLine (updateLine block f lines) block = some (f l) := by
  induction lines with
  | nil => cases h
  | cons x xs ih =>
    by_cases hx : x.block = block
    · have hl : x = l := by simpa [findLine, hx] using h
      subst hl
      simp [findLine, updateLine, hx, hf]
    · have hl : findLine xs block = some l := by simpa [findLine, hx] using h
      simpa [findLine, updateLine, hx] using ih hl

/-- A write to the DCache writes the line that it hits, or what memory will hold (R137). -/
theorem writeDCache_ok {k : Ctx} {back : Bool} {mva pa v : Word} {ms ms' : MemSys} (h : ms.wf = true)
    (hw : writeDCache k back mva pa 15#4 v ms = .ok () ms') :
    (∃ l, findLine ms'.dcache (lineAddr mva) = some l ∧ l.words.get (wordInLine mva) = v) ∨
      (findLine ms'.dcache (lineAddr mva) = none ∧ ms'.settledMem.readWord (wordAddr pa) = v) := by
  simp only [writeDCache] at hw
  split at hw
  · cases hw
  · split at hw
    · next hm =>
      cases hw
      exact .inr ⟨hm, MemSys.pushBus_readWord _ v false h⟩
    · next l hl =>
      refine .inl ⟨l.store (wordInLine mva) 15#4 v back, ?_, CacheLine.store_get l _ v back⟩
      have hit := findLine_updateLine (f := fun l => l.store (wordInLine mva) 15#4 v back) (fun _ => rfl) hl
      split at hw <;> cases hw <;> exact hit

/-! The path. -/

/-- A read and a write of one location are cachable alike (R126). -/
theorem cachable_dataType (cp : Cp15) (kind kind' : AccessKind) (t : Translated) :
    (dataType cp kind t).cachable = (dataType cp kind' t).cachable := by
  simp only [dataType]
  split
  · split <;> split <;> rfl
  · split <;> rfl
  · rfl
  · rfl

theorem dataRoute_dataType (k : Ctx) (kind kind' : AccessKind) (t : Translated) :
    dataRoute k (dataType k.cp15 kind t) t.pa = dataRoute k (dataType k.cp15 kind' t) t.pa := by
  simp only [dataRoute, cachable_dataType k.cp15 kind kind' t]

/-- Settles O38: the read takes the path of the write, and each path holds the word written. -/
theorem loadReturnsLatestStore : Obligations.LoadReturnsLatestStore := by
  intro k l l' mva t v w ms ms' ms'' h _ he hw hr
  have h' : ms'.wf = true := by
    have hl := writeAt_leaves k l mva t 15#4 v (ms := ms) h
    rwa [hw] at hl
  simp only [writeAt] at hw
  simp only [readAt, dataRoute_dataType k .read .write] at hr
  cases hroute : dataRoute k (dataType k.cp15 .write t) t.pa with
  | dtcm off =>
    rw [hroute] at hw hr
    dsimp only at hw hr
    by_cases hram : k.pins.dtcmRam = true
    · rw [if_pos hram] at hw hr
      cases hw
      cases hr
      exact MemSys.pushDtcm_readWord off v h
    · rw [if_neg hram] at hw
      cases hw
  | itcm off =>
    rw [hroute] at hw hr
    dsimp only at hw hr
    by_cases hram : k.pins.itcmRam = true
    · rw [if_pos hram] at hw hr
      cases hw
      cases hr
      exact MemSys.pushItcm_readWord off v h
    · rw [if_neg hram] at hw
      cases hw
  | cache =>
    rw [hroute] at hw hr
    rcases writeDCache_ok h hw with ⟨line, hhit, hv⟩ | ⟨hmiss, hv⟩
    · exact (readDCache_hit hhit hr).trans hv
    · exact (readDCache_miss h' he hmiss hr).trans hv
  | bus =>
    rw [hroute] at hw hr
    exact (readBus_ok h' hr).trans (writeBus_readWord h hw)

end Sys2Proof.Machine
end

section
/-! SUPPORT. What may come before an access, as one rule for every property that each of its parts keeps (R18, R588); and the word
that a fetch brings from memory or from the instruction TCM (R100, R107, R160). -/

namespace Sys2Proof.Machine

/-! What may come before an access. -/

theorem evictTimes_keeps {P : MemSys → Prop} (he : ∀ m, P m → P m.evictSome) (n : Nat) {ms : MemSys} (h : P ms) :
    P (evictTimes n ms) := by
  induction n generalizing ms with
  | zero => exact h
  | succ n ih => exact ih (he ms h)

theorem MemSys.unprompted_keeps {P : MemSys → Prop} {k : Ctx} (hd : ∀ m, P m → P (m.drainSome k))
    (he : ∀ m, P m → P m.evictSome) {ms : MemSys} (h : P ms) : P (ms.unprompted k) := by
  simp only [MemSys.unprompted]
  split
  · exact evictTimes_keeps he _ (hd ms h)
  · exact hd ms h

/-- What draining, evicting and the writes that other agents have now to make keep is kept by all that may come before an access. -/
theorem MemSys.meanwhile_keeps {P : MemSys → Prop} {k : Ctx} {ms : MemSys} (hd : ∀ m, P m → P (m.drainSome k))
    (he : ∀ m, P m → P m.evictSome) (hw : ∀ ws ∈ ms.outside, ∀ w ∈ ws, ∀ m, P m → P (m.written w))
    (ho : ∀ m l, P m → P { m with outside := l }) (h : P ms) : P (ms.meanwhile k) := by
  have fold (f : MemSys → OutsideWrite → MemSys) (ws : List OutsideWrite) (hf : ∀ w ∈ ws, ∀ m, P m → P (f m w)) (m : MemSys)
      (hm : P m) : P (ws.foldl f m) := by
    induction ws generalizing m with
    | nil => exact hm
    | cons w ws ih =>
      obtain ⟨hw, hws⟩ := List.forall_mem_cons.1 hf
      exact ih hws _ (hw m hm)
  have own (m : MemSys) (hm : P m) : P (m.unprompted k) := MemSys.unprompted_keeps hd he hm
  simp only [MemSys.meanwhile]
  split
  · split
    · exact h
    · exact own ms h
  · next now later hout =>
    have write : ∀ w ∈ now, ∀ m, P m → P (m.written w) := hw now (by simp [hout])
    split
    · exact fold _ _ (fun w hm => write w (List.mem_of_mem_filter hm)) _ (ho ms _ h)
    · exact fold _ _ (fun w hm m hp => own _ (write w hm m hp)) _ (own _ (ho ms later h))

/-! A word of memory that nothing on its way can change. -/

/-- A word of memory holds a value and nothing that is pending or may be evicted goes to it. -/
structure HoldsWord (word : BitVec 30) (v : Word) (ms : MemSys) : Prop where
  wf : ms.mem.wf = true
  read : ms.mem.readWord word = v
  pending : ∀ p ∈ ms.wbuf, p.word ≠ word
  lines : ∀ l ∈ ms.dcache, l.dirty = true → ∀ n, lineWord l.pa n ≠ word

/-- The word depends on the memory, the buffers and the DCache alone. -/
theorem HoldsWord.congr {word : BitVec 30} {v : Word} {a b : MemSys} (h : HoldsWord word v a) (hmem : b.mem = a.mem)
    (hbuf : b.wbuf = a.wbuf) (hlines : b.dcache = a.dcache) : HoldsWord word v b :=
  ⟨hmem ▸ h.wf, hmem ▸ h.read, hbuf ▸ h.pending, hlines ▸ h.lines⟩

theorem fitBuffers_readWord {m : Memory} {ps : List PendingWrite} {word : BitVec 30} (h : m.wf = true)
    (hp : ∀ p ∈ ps, p.word ≠ word) : (fitBuffers m ps).1.readWord word = m.readWord word := by
  induction ps generalizing m with
  | nil => rfl
  | cons p ps ih =>
    obtain ⟨hp, hps⟩ := List.forall_mem_cons.1 hp
    simp only [fitBuffers]
    split
    · rfl
    · rw [ih (Memory.wf_apply p h) hps, Memory.readWord_apply_of_ne h hp]

/-- The writes that stay in the buffers were among those that waited. -/
theorem fitBuffers_subset (m : Memory) (ps : List PendingWrite) : (fitBuffers m ps).2 ⊆ ps := by
  induction ps generalizing m with
  | nil => exact List.Subset.refl _
  | cons p ps ih =>
    simp only [fitBuffers]
    split
    · exact List.Subset.refl _
    · exact List.Subset.trans (ih _) (List.subset_cons_self p ps)

theorem HoldsWord.drainSome {word : BitVec 30} {v : Word} {ms : MemSys} (k : Ctx) (h : HoldsWord word v ms) :
    HoldsWord word v (ms.drainSome k) := by
  obtain ⟨hwf, hread, hpend, hlines⟩ := h
  simp only [MemSys.drainSome]
  split
  · exact ⟨hwf, hread, hpend, hlines⟩
  · exact ⟨Memory.wf_applyAll _ hwf,
      (Memory.readWord_applyAll_of_ne hwf fun p hp => hpend p (List.mem_of_mem_take hp)).trans hread,
      fun p hp => hpend p (List.mem_of_mem_drop hp), hlines⟩

/-- The line that the hardware evicts is a dirty line of the DCache. -/
theorem evictedNow_some {ms : MemSys} {l : CacheLine} (h : evictedNow ms = some l) : l ∈ ms.dcache ∧ l.dirty = true := by
  simp only [evictedNow] at h
  split at h
  · cases h
  · split at h
    · exact List.mem_filter.1 (List.mem_of_getElem? h)
    · cases h

theorem CacheLine.mem_castouts {l : CacheLine} {p : PendingWrite} (h : p ∈ l.castouts) : ∃ n, p.word = lineWord l.pa n := by
  rw [CacheLine.castouts_eq, List.mem_map] at h
  obtain ⟨n, _, rfl⟩ := h
  exact ⟨n, rfl⟩

theorem HoldsWord.evictSome {word : BitVec 30} {v : Word} {ms : MemSys} (h : HoldsWord word v ms) :
    HoldsWord word v ms.evictSome := by
  obtain ⟨hwf, hread, hpend, hlines⟩ := h
  have hqueue : ∀ p ∈ ms.wbuf ++ (evictedNow ms).elim [] CacheLine.castouts, p.word ≠ word := by
    refine List.forall_mem_append.2 ⟨hpend, fun p hp => ?_⟩
    cases hl : evictedNow ms with
    | none => simp [hl] at hp
    | some l =>
      rw [hl] at hp
      obtain ⟨n, hn⟩ := CacheLine.mem_castouts (l := l) hp
      obtain ⟨hmem, hdirty⟩ := evictedNow_some hl
      exact hn ▸ hlines l hmem hdirty n
  exact ⟨fitBuffers_wf _ hwf, (fitBuffers_readWord hwf hqueue).trans hread,
    fun p hp => hqueue p (fitBuffers_subset _ _ hp), fun l hl => hlines l (List.mem_of_mem_filter hl)⟩

/-- Another agent's write that drives no byte of the word leaves it. -/
theorem HoldsWord.written {word : BitVec 30} {v : Word} {ms : MemSys} {w : OutsideWrite}
    (hw : ∀ lane < 4, w.drives false (cellOf word lane) = false) (h : HoldsWord word v ms) :
    HoldsWord word v (ms.written w) := by
  obtain ⟨hwf, hread, hpend, hlines⟩ := h
  obtain ⟨toDtcm, target, lanes, data⟩ := w
  cases toDtcm with
  | true => exact ⟨hwf, hread, hpend, hlines⟩
  | false =>
    refine ⟨Memory.wf_writeLanes _ _ _ hwf, (Memory.readWord_congr fun lane hl => ?_).trans hread, hpend, hlines⟩
    refine Memory.read_writeLanes_of_not hwf fun hd => ?_
    simpa [OutsideWrite.drives, hd.1, hd.2] using hw lane hl

/-- No write of another agent still to come drives a byte of a word that they leave alone. -/
theorem MemSys.alone_iff (ms : MemSys) (word : BitVec 30) :
    ms.alone word = true ↔ ∀ w ∈ ms.outside.flatten, ∀ lane < 4, w.drives false (cellOf word lane) = false := by
  simp only [MemSys.alone, MemSys.othersWrite, OutsideWrite.drives, List.all_eq_true, List.mem_range, Bool.not_eq_true',
    List.any_eq_false, List.mem_flatten, Bool.not_eq_true]
  constructor
  · rintro h w ⟨ws, hws, hw⟩ lane hl
    exact h lane hl ws hws w hw
  · intro h lane hl ws hws w hw
    exact h w ⟨ws, hws, hw⟩ lane hl

/-- Nothing that may come before an access changes such a word, where other agents leave it alone. -/
theorem HoldsWord.meanwhile {word : BitVec 30} {v : Word} {ms : MemSys} (k : Ctx) (h : HoldsWord word v ms)
    (ha : ms.alone word = true) : HoldsWord word v (ms.meanwhile k) ∧ (ms.meanwhile k).alone word = true := by
  rw [MemSys.alone_iff] at ha
  refine ⟨MemSys.meanwhile_keeps (fun _ => HoldsWord.drainSome k) (fun _ => HoldsWord.evictSome)
    (fun ws hws w hw _ => HoldsWord.written (ha w (List.mem_flatten.2 ⟨ws, hws, hw⟩)))
    (fun _ _ hm => hm.congr rfl rfl rfl) h, (MemSys.alone_iff _ word).2 fun w hw => ?_⟩
  exact ha w ((MemSys.meanwhile_outside k ms).subset hw)

/-! The instruction TCM with nothing pending, and an empty prefetch buffer. -/

/-- With no write pending for it, nothing that may come before an access changes the instruction TCM: DMA to it comes at a boundary
alone (R157, assumption 10). -/
theorem MemSys.meanwhile_itcm {k : Ctx} {ms : MemSys} (h : ms.itcmWb = []) :
    (ms.meanwhile k).itcm = ms.itcm ∧ (ms.meanwhile k).itcmWb = [] := by
  refine MemSys.meanwhile_keeps (P := fun m => m.itcm = ms.itcm ∧ m.itcmWb = []) (fun m hm => ?_) (fun _ hm => hm)
    (fun _ _ w _ m hm => ?_) (fun _ _ hm => hm) ⟨rfl, h⟩
  · obtain ⟨hi, hb⟩ := hm
    simp only [MemSys.drainSome]
    split
    · exact ⟨hi, hb⟩
    · simp [hb, hi, Memory.applyAll_nil]
  · obtain ⟨toDtcm, _, _, _⟩ := w
    cases toDtcm <;> exact hm

/-- Nothing that may come before an access touches the prefetch buffer. -/
theorem MemSys.meanwhile_prefetch (k : Ctx) (ms : MemSys) : (ms.meanwhile k).prefetch = ms.prefetch := by
  refine MemSys.meanwhile_keeps (P := fun m => m.prefetch = ms.prefetch) (fun m hm => ?_) (fun _ hm => hm)
    (fun _ _ w _ m hm => ?_) (fun _ _ hm => hm) rfl
  · simp only [MemSys.drainSome]
    split <;> exact hm
  · obtain ⟨toDtcm, _, _, _⟩ := w
    cases toDtcm <;> exact hm

/-! The fetch. -/

/-- The address of the word that holds an address has its bits from bit 2 up. -/
theorem getLsbD_wordBase (a : Word) {i : Nat} (hi : 2 ≤ i) : (wordBase a).getLsbD i = a.getLsbD i := by
  rw [wordBase, BitVec.getLsbD_and]
  by_cases h : i < 32
  · have hmask : (0xFFFFFFFC#32).getLsbD i = true := by interval_cases i <;> rfl
    rw [hmask, Bool.and_true]
  · rw [BitVec.getLsbD_of_ge a i (Nat.not_lt.1 h), Bool.false_and]

theorem wordAddr_wordBase (a : Word) : wordAddr (wordBase a) = wordAddr a := by
  ext j hj
  simp only [wordAddr, BitVec.getElem_extractLsb', getLsbD_wordBase a (Nat.le_add_right 2 j)]

theorem ushiftRight_wordBase (a : Word) {k : Nat} (hk : 2 ≤ k) : wordBase a >>> k = a >>> k := by
  refine BitVec.eq_of_getLsbD_eq fun j _ => ?_
  rw [BitVec.getLsbD_ushiftRight, BitVec.getLsbD_ushiftRight, getLsbD_wordBase a (Nat.le_add_right_of_le hk)]

theorem sameBlock_wordBase (a x : Word) {k : Nat} (hk : 2 ≤ k) : sameBlock k (wordBase a) x = sameBlock k a x := by
  rw [sameBlock, sameBlock, ushiftRight_wordBase a hk]

theorem wordBase_and (a mask : Word) : wordBase a &&& mask = wordBase (a &&& mask) := by
  rw [wordBase, wordBase, BitVec.and_assoc, BitVec.and_comm _ mask, BitVec.and_assoc]

/-- The smallest TCM is 4KB (R10). -/
theorem TcmSize.le_of_log2 {size : TcmSize} {k : Nat} (h : size.log2 = some k) : 12 ≤ k := by
  cases size <;> cases h <;> decide

/-- A word lies in a TCM as each of its bytes does. -/
theorem tcmOffset_wordBase (size : TcmSize) (r : TcmRegion) (pa : Word) :
    tcmOffset size r (wordBase pa) = tcmOffset size r pa := by
  simp only [tcmOffset]
  split
  · rfl
  · next k hk =>
    have hk : 2 ≤ k := Nat.le_trans (by decide) (TcmSize.le_of_log2 hk)
    rw [sameBlock_wordBase pa _ hk, wordBase_and, wordAddr_wordBase]

section
variable {k : Ctx} {va v : Word} {ms : MemSys} (hm : k.cp15.ctrl.m = false) (hb : k.breaks = false)
include hm hb

/-- With the MMU off and no breakpoint asked for, a fetch brings what its route gives. -/
theorem fetchSlot_routed : (fetchSlot k va ms).1.result =
    (fetchRouted k false va { pa := wordBase va, c := false, b := false } (ms.meanwhile k)).result := by
  simp [fetchSlot, hb, hm, fcse_mmuOff va hm, fetchAt]

/-- A fetch from AHB, with nothing in the prefetch buffer, brings the word that memory holds. -/
theorem fetchSlot_bus (hi : k.cp15.ctrl.i = false) (ht : tcmOffset k.cfg.itcmSize k.cp15.itcm va = none)
    (he : busError k.cfg (wordAddr va) = false) (hp : ms.prefetch = []) (h : HoldsWord (wordAddr va) v ms)
    (ha : ms.alone (wordAddr va) = true) : (fetchSlot k va ms).1.result = .word v := by
  rw [fetchSlot_routed hm hb]
  simp [fetchRouted, fetchRoute, tcmOffset_wordBase, ht, hi, fetchBus, fetchBusResult, prefetched,
    MemSys.meanwhile_prefetch, hp, wordAddr_wordBase, he, (h.meanwhile k ha).1.read]

/-- A fetch from the instruction TCM, with nothing pending for it, brings the word that it holds. -/
theorem fetchSlot_itcm {off : BitVec 30} (ht : tcmOffset k.cfg.itcmSize k.cp15.itcm va = some off)
    (hr : k.pins.itcmRam = true) (hw : ms.itcmWb = []) : (fetchSlot k va ms).1.result = .word (ms.itcm.readWord off) := by
  rw [fetchSlot_routed hm hb]
  simp [fetchRouted, fetchRoute, tcmOffset_wordBase, ht, hr, (MemSys.meanwhile_itcm hw).1]

end

/-- A nonsequential fetch flushes the prefetch buffer and takes nothing of the pipeline (R160). -/
theorem fetchedResult_nonseq {s : State} (h : s.nonseq = true) :
    fetchedResult s = (fetchSlot s.ctx s.cpu.pc { s.ticked.ms with prefetch := [] }).1.result := by
  have hn : s.ticked.nonseq = true := h
  have fresh : currentSlot s.ticked = freshSlot s.ticked := by
    simp only [currentSlot, hn]
    split
    · rfl
    · simp
  rw [fetchedResult, fresh, freshSlot, hn]
  rfl

/-- With the MMU off what comes between two instructions does not change such a word. -/
theorem HoldsWord.ticked {word : BitVec 30} {v : Word} {s : State} (hm : s.cp15.ctrl.m = false)
    (h : HoldsWord word v s.ms) (ha : s.ms.alone word = true) :
    HoldsWord word v s.ticked.ms ∧ s.ticked.ms.alone word = true := by
  obtain ⟨hk, hka⟩ := h.meanwhile s.ctx ha
  simp only [State.ticked, State.withMs_ms, tlbTick, hm]
  split
  · exact ⟨hk.congr rfl rfl rfl, hka⟩
  · exact ⟨hk, hka⟩

theorem State.ticked_itcm {s : State} (hm : s.cp15.ctrl.m = false) (h : s.ms.itcmWb = []) :
    s.ticked.ms.itcm = s.ms.itcm ∧ s.ticked.ms.itcmWb = [] := by
  have hk := MemSys.meanwhile_itcm (k := s.ctx) h
  simp only [State.ticked, State.withMs_ms, tlbTick, hm]
  split <;> exact hk

/-- A nonsequential fetch from AHB brings the word that memory holds. -/
theorem fetchedResult_bus {s : State} {v : Word} (hm : s.cp15.ctrl.m = false) (hi : s.cp15.ctrl.i = false)
    (hb : s.ctx.breaks = false) (hn : s.nonseq = true) (ht : tcmOffset s.cfg.itcmSize s.cp15.itcm s.cpu.pc = none)
    (he : busError s.cfg (wordAddr s.cpu.pc) = false) (h : HoldsWord (wordAddr s.cpu.pc) v s.ms)
    (ha : s.ms.alone (wordAddr s.cpu.pc) = true) : fetchedResult s = .word v := by
  obtain ⟨hk, hka⟩ := h.ticked hm ha
  rw [fetchedResult_nonseq hn]
  exact fetchSlot_bus hm hb hi ht he rfl (hk.congr rfl rfl rfl) hka

/-- A nonsequential fetch from the instruction TCM brings the word that it holds. -/
theorem fetchedResult_itcm {s : State} {off : BitVec 30} (hm : s.cp15.ctrl.m = false)
    (hb : s.ctx.breaks = false) (hn : s.nonseq = true)
    (ht : tcmOffset s.cfg.itcmSize s.cp15.itcm s.cpu.pc = some off) (hr : s.pins.itcmRam = true)
    (hw : s.ms.itcmWb = []) : fetchedResult s = .word (s.ms.itcm.readWord off) := by
  obtain ⟨hk, hkw⟩ := State.ticked_itcm hm hw
  rw [fetchedResult_nonseq hn, ← hk]
  exact fetchSlot_itcm (ms := { s.ticked.ms with prefetch := [] }) hm hb ht hr hkw

/-! The word loaded from outside. -/

/-- The memory system into which a fetch word is loaded: what is held of its line is written back and dropped, and nothing is pending
(assumption 8). -/
def loadingMs (s : State) (pa : Word) : MemSys :=
  dropDLines (fun l => l.pa == lineAddr pa) (cleanLines (fun l => l.pa == lineAddr pa) s.ms).drainAll

theorem loadingMs_wf {s : State} (pa : Word) (h : s.ms.wf = true) : (loadingMs s pa).wf = true :=
  MemSys.wf_drainAll (cleanLines_wf _ h)

theorem fetchAddress_mmuOff {s : State} (h : s.cp15.ctrl.m = false) : fetchAddress s = s.cpu.pc := by
  simp [fetchAddress, h, fcse_mmuOff]

/-- No line of the address's block is left in the DCache. -/
theorem loadingMs_lines (s : State) (pa : Word) {l : CacheLine} (h : l ∈ (loadingMs s pa).dcache) (n : Fin 8) :
    lineWord l.pa n ≠ wordAddr pa := by
  intro he
  have hpa : l.pa = lineAddr pa := by
    have hn := n.isLt
    have hl := congrArg BitVec.toNat he
    rw [toNat_lineWord, ← lineWord_lineAddr, toNat_lineWord] at hl
    have hw := (wordInLine pa).isLt
    exact BitVec.toNat_inj.1 (by omega)
  have hkept := (List.mem_filter.1 h).2
  simp [hpa] at hkept

theorem loadFetchWord_bus {s : State} (w : Word) (hm : s.cp15.ctrl.m = false)
    (ht : tcmOffset s.cfg.itcmSize s.cp15.itcm s.cpu.pc = none) :
    (loadFetchWord s w).ms.mem = (loadingMs s s.cpu.pc).mem.writeLanes (wordAddr s.cpu.pc) 15#4 w ∧
      (loadFetchWord s w).ms.wbuf = [] ∧ (loadFetchWord s w).ms.dcache = (loadingMs s s.cpu.pc).dcache := by
  simp only [loadFetchWord, fetchAddress_mmuOff hm, ht]
  exact ⟨rfl, rfl, rfl⟩

/-- A word loaded outside the instruction TCM stands in memory, and nothing on its way can change it. -/
theorem holdsWord_loadFetchWord {s : State} (w : Word) (hm : s.cp15.ctrl.m = false) (hwf : s.ms.wf = true)
    (ht : tcmOffset s.cfg.itcmSize s.cp15.itcm s.cpu.pc = none) :
    HoldsWord (wordAddr s.cpu.pc) w (loadFetchWord s w).ms := by
  have hmem := ((MemSys.wf_iff _).1 (loadingMs_wf s.cpu.pc hwf)).1
  obtain ⟨hloaded, hbuf, hlines⟩ := loadFetchWord_bus w hm ht
  constructor
  case wf => exact hloaded ▸ Memory.wf_writeLanes _ _ _ hmem
  case read => exact hloaded ▸ Memory.readWord_writeLanes_same _ w hmem
  case pending => simp [hbuf]
  case lines => exact fun l hl _ => loadingMs_lines s s.cpu.pc (hlines ▸ hl)

/-- A word loaded inside it stands in the instruction TCM, with nothing pending. -/
theorem itcm_loadFetchWord {s : State} (w : Word) {off : BitVec 30} (hm : s.cp15.ctrl.m = false) (hwf : s.ms.wf = true)
    (ht : tcmOffset s.cfg.itcmSize s.cp15.itcm s.cpu.pc = some off) :
    (loadFetchWord s w).ms.itcm.readWord off = w ∧ (loadFetchWord s w).ms.itcmWb = [] := by
  have hitcm := ((MemSys.wf_iff _).1 (loadingMs_wf s.cpu.pc hwf)).2.1
  simp only [loadFetchWord, fetchAddress_mmuOff hm, ht]
  exact ⟨Memory.readWord_writeLanes_same off w hitcm, rfl⟩

/-- Settles O5: on its way to the fetch nothing can change the word, which stands in memory or in the instruction TCM. -/
theorem fetchReadsMemory : Obligations.FetchReadsMemory := by
  refine ⟨fun s hm hi hn ht he hb hbuf hclean hwf ha => ?_, fun s w hm hi hwf hb he hr => ?_⟩
  · have hread : s.ms.mem.readWord (wordAddr s.cpu.pc) = s.wordAt (wordAddr s.cpu.pc) := by
      rw [State.wordAt, MemSys.settledMem, hbuf, Memory.applyAll_nil]
    exact fetchedResult_bus hm hi hb hn ht he ⟨((MemSys.wf_iff _).1 hwf).1, hread, by simp [hbuf],
      fun l hl hd => absurd hd (by simp [hclean l hl])⟩ ha
  · rw [State.withFetchWord, BitVec.ofNat_toNat, BitVec.setWidth_eq]
    cases ht : tcmOffset s.cfg.itcmSize s.cp15.itcm s.cpu.pc with
    | none =>
      exact fetchedResult_bus (s := loadFetchWord s w) hm hi hb rfl ht (he ht) (holdsWord_loadFetchWord w hm hwf ht) rfl
    | some off =>
      obtain ⟨hw, hempty⟩ := itcm_loadFetchWord w hm hwf ht
      rw [fetchedResult_itcm (s := loadFetchWord s w) hm hb rfl ht (hr (by simp [ht])) hempty, hw]

end Sys2Proof.Machine
end

section
/-! SUPPORT. The protection checks of the MMU (R213 to R215). -/

namespace Sys2Proof.Machine

/-- The four values of a two-bit field. -/
theorem two_bits_cases (x : BitVec 2) : x = 0#2 ∨ x = 1#2 ∨ x = 2#2 ∨ x = 3#2 := by
  decide +revert

/-- Bits shifted down to the bottom of a word and masked are its two-bit field there. -/
theorem shiftRight_and_three (w : Word) (n : Nat) : (w >>> n) &&& 3#32 = (w.extractLsb' n 2).setWidth 32 := by
  have hthree : (3#32).toNat = 2 ^ 2 - 1 := rfl
  apply BitVec.eq_of_toNat_eq
  rw [BitVec.toNat_and, hthree, Nat.and_two_pow_sub_one_eq_mod, BitVec.toNat_ushiftRight, BitVec.toNat_setWidth,
    BitVec.extractLsb'_toNat]
  omega

/-- The field of a domain in the DACR, read out of the bottom of the shifted register. -/
theorem domainAccess_eq_iff (dacr : Word) (d : BitVec 4) (v : BitVec 2) :
    domainAccess dacr d = v ↔ (dacr >>> (2 * d.toNat)) &&& 3#32 = v.setWidth 32 := by
  rw [shiftRight_and_three, ← domainAccess, ← BitVec.toNat_inj, ← BitVec.toNat_inj, BitVec.toNat_setWidth,
    BitVec.toNat_setWidth]
  omega

/-- A manager of the domain passes (R213). -/
theorem checkEntry_manager {k : Ctx} {e : TlbEntry} (kind : AccessKind) (h : domainAccess k.cp15.dacr e.domain = 3#2) :
    checkEntry k kind e = .pass := by
  simp [checkEntry, h]

/-- A client of the domain passes or not as the permission table answers (R213, R214). -/
theorem checkEntry_client {k : Ctx} {kind : AccessKind} {e : TlbEntry} {b : Bool}
    (h : domainAccess k.cp15.dacr e.domain = 1#2)
    (hb : permitted e.ap k.cp15.ctrl.s k.cp15.ctrl.r k.priv kind = some b) :
    checkEntry k kind e =
      if b then .pass else .fault (if e.size = 0b1011#4 then .permissionSection else .permissionPage) := by
  cases b <;> simp [checkEntry, h, hb, TlbEntry.isSection]

/-- Where the table has no answer the check of a client stops (assumption 48). -/
theorem checkEntry_client_stops {k : Ctx} {kind : AccessKind} {e : TlbEntry} (h : domainAccess k.cp15.dacr e.domain = 1#2)
    (hb : permitted e.ap k.cp15.ctrl.s k.cp15.ctrl.r k.priv kind = none) :
    checkEntry k kind e = .stop .unpredictableAp := by
  simp [checkEntry, h, hb]

/-- Any other field of the domain is a domain fault (R213). -/
theorem checkEntry_noAccess {k : Ctx} {e : TlbEntry} (kind : AccessKind)
    (h : domainAccess k.cp15.dacr e.domain = 0#2 ∨ domainAccess k.cp15.dacr e.domain = 2#2) :
    checkEntry k kind e = .fault (if e.size = 0b1011#4 then .domainSection else .domainPage) := by
  rcases h with h | h <;> simp [checkEntry, h, TlbEntry.isSection]

/-- Settles O56: the shifted and masked DACR is the domain's field, and each value of the field has its answer. -/
theorem domainCheck : Obligations.DomainCheck := by
  intro k kind e
  have field (v : BitVec 2) := (domainAccess_eq_iff k.cp15.dacr e.domain v).2
  exact ⟨fun h => checkEntry_noAccess kind (h.imp (field 0#2) (field 2#2)), fun h => checkEntry_manager kind (field 3#2 h),
    fun h _ hb => checkEntry_client (field 1#2 h) hb, fun h hb => checkEntry_client_stops (field 1#2 h) hb⟩

/-- The permission table has no answer just for AP = 00 with S = R = 1 (R215). -/
theorem permitted_ap0_sr (priv : Bool) (kind : AccessKind) : permitted 0#2 true true priv kind = none := rfl

/-- Settles O57: the rows of the table by the value of AP, and the row without an answer as a client of its domain meets it. -/
theorem accessPermissions : Obligations.AccessPermissions := by
  refine ⟨fun ap s r priv kind => ?_, fun k kind e hd hap hs hr => ?_⟩
  · rcases two_bits_cases ap with rfl | rfl | rfl | rfl
    case inl => cases s <;> cases r <;> cases priv <;> cases kind <;> rfl
    case inr.inl => cases priv <;> rfl
    case inr.inr.inl => cases priv <;> cases kind <;> rfl
    case inr.inr.inr => rfl
  · refine checkEntry_client_stops ((domainAccess_eq_iff _ _ 1#2).2 hd) ?_
    rw [hap, hs, hr, permitted_ap0_sr]

end Sys2Proof.Machine
end

section
/-! SUPPORT. The descriptors of the table walk and the entries that they make (R194 to R206). -/

namespace Sys2Proof.Machine

/-! The block of an entry. -/

/-- The size codes name blocks of 1KB to 1MB. -/
theorem blockBits_range {size : BitVec 4} {k : Nat} (h : blockBits size = some k) : 10 ≤ k ∧ k ≤ 20 := by
  simp only [blockBits] at h
  grind

theorem getLsbD_blockBase (k : Nat) (x : Word) {i : Nat} (hi : i < 32) :
    ((x >>> k) <<< k).getLsbD i = (!decide (i < k) && x.getLsbD i) := by
  rw [BitVec.getLsbD_shiftLeft, BitVec.getLsbD_ushiftRight, decide_eq_true hi, Bool.true_and]
  by_cases hk : i < k
  · simp [hk]
  · rw [Nat.add_sub_cancel' (Nat.not_lt.1 hk)]

/-- The base of a block of 1KB or more has no bits below bit 10. -/
theorem blockWord_blockBase {k : Nat} (hk : 10 ≤ k) (x : Word) :
    blockWord (((x >>> k) <<< k).extractLsb' 10 22) = (x >>> k) <<< k := by
  refine BitVec.eq_of_getLsbD_eq fun i hi => ?_
  rw [blockWord, BitVec.getLsbD_append]
  by_cases h : i < 10
  · simp [h, getLsbD_blockBase k x hi, Nat.lt_of_lt_of_le h hk]
  · rw [if_neg h, BitVec.getLsbD_extractLsb', Nat.add_sub_cancel' (Nat.not_lt.1 h),
      decide_eq_true (by omega), Bool.true_and]

/-- The base of a block lies in the block. -/
theorem sameBlock_blockBase (k : Nat) (x y : Word) : sameBlock k ((x >>> k) <<< k) y = sameBlock k x y := by
  have h : ((x >>> k) <<< k) >>> k = x >>> k := by
    refine BitVec.eq_of_getLsbD_eq fun i _ => ?_
    rw [BitVec.getLsbD_ushiftRight, BitVec.getLsbD_ushiftRight]
    by_cases hi : k + i < 32
    · simp [getLsbD_blockBase k x hi]
    · simp [BitVec.getLsbD_of_ge _ _ (Nat.not_lt.1 hi)]
  rw [sameBlock, sameBlock, h]

theorem toNat_lowMask {k : Nat} (hk : k < 32) : ((1#32 <<< k) - 1#32).toNat = 2 ^ k - 1 := by
  have hlt : 2 ^ k < 2 ^ 32 := Nat.pow_lt_pow_right (by decide) hk
  have hone : (1#32 <<< k).toNat = 2 ^ k := by
    rw [BitVec.toNat_shiftLeft, BitVec.toNat_ofNat, Nat.one_mod, Nat.one_shiftLeft, Nat.mod_eq_of_lt hlt]
  rw [BitVec.toNat_sub_of_le, hone]
  · rfl
  · rw [BitVec.le_def, hone]
    exact Nat.one_le_two_pow

/-- An address put together of the bits from bit k up of one word and the bits below of another. -/
def joinAt (k : Nat) (high low : Word) : Word := (high >>> k) <<< k ||| (low &&& ((1#32 <<< k) - 1#32))

theorem getLsbD_joinAt {k : Nat} (hk : k < 32) (high low : Word) {i : Nat} (hi : i < 32) :
    (joinAt k high low).getLsbD i = if i < k then low.getLsbD i else high.getLsbD i := by
  have hmask : ((1#32 <<< k) - 1#32).getLsbD i = decide (i < k) := by
    rw [BitVec.getLsbD, toNat_lowMask hk, Nat.testBit_two_pow_sub_one]
  rw [joinAt, BitVec.getLsbD_or, BitVec.getLsbD_and, hmask, getLsbD_blockBase k high hi]
  by_cases h : i < k <;> simp [h]

/-- Above bit k the base of a block is as good as any address of it. -/
theorem joinAt_blockBase {k : Nat} (hk : k < 32) (high low : Word) :
    joinAt k ((high >>> k) <<< k) low = joinAt k high low := by
  refine BitVec.eq_of_getLsbD_eq fun i hi => ?_
  rw [getLsbD_joinAt hk _ _ hi, getLsbD_joinAt hk _ _ hi, getLsbD_blockBase k high hi]
  by_cases h : i < k <;> simp [h]

/-- A word joined from two parts may be cut again at a lower bit. -/
theorem joinAt_joinAt {j k : Nat} (hjk : j ≤ k) (hk : k < 32) (high low : Word) :
    joinAt j (joinAt k high low) low = joinAt k high low := by
  refine BitVec.eq_of_getLsbD_eq fun i hi => ?_
  rw [getLsbD_joinAt (Nat.lt_of_le_of_lt hjk hk) _ _ hi, getLsbD_joinAt hk _ _ hi]
  split
  · next h => rw [if_pos (Nat.lt_of_lt_of_le h hjk)]
  · rfl

theorem append_eq_joinAt {k n : Nat} (h : n + k = 32) (hk : k < 32) (high low : Word) :
    (high.extractLsb' k n ++ low.extractLsb' 0 k).cast h = joinAt k high low := by
  refine BitVec.eq_of_getLsbD_eq fun i hi => ?_
  rw [getLsbD_joinAt hk _ _ hi, BitVec.getLsbD_cast, BitVec.getLsbD_append]
  by_cases hik : i < k
  · simp [hik]
  · simp [hik, Nat.add_sub_cancel' (Nat.not_lt.1 hik)]
    omega

section
variable {k : Nat} {size : BitVec 4} (mva pa : Word) (domain : BitVec 4) (ap : BitVec 2) (c b : Bool)

/-- An entry made for a block matches the addresses of its block. -/
theorem makeEntry_covers (h : blockBits size = some k) (m : Word) :
    (makeEntry k size mva pa domain ap c b).covers m = decide (m.toNat / 2 ^ k = mva.toNat / 2 ^ k) := by
  simp only [TlbEntry.covers, makeEntry, h, Bool.true_and]
  rw [blockWord_blockBase (blockBits_range h).1, sameBlock_blockBase, Bool.eq_iff_iff, sameBlock_iff, decide_eq_true_iff,
    eq_comm]

/-- It maps them to the block of its physical address. -/
theorem makeEntry_physical (h : blockBits size = some k) (m : Word) :
    (makeEntry k size mva pa domain ap c b).physical m = joinAt k pa m := by
  simp only [TlbEntry.physical, makeEntry, h]
  obtain ⟨hlow, hhigh⟩ := blockBits_range h
  rw [blockWord_blockBase hlow]
  exact joinAt_blockBase (by omega) pa m
end

/-- What a walk ends in is an entry that maps the block of an address, the address itself to pa, with these attributes. -/
def mapsBlock (r : WalkResult) (k : Nat) (isSection : Bool) (mva pa : Word) (domain : BitVec 4) (ap : BitVec 2) (c b : Bool) :
    Prop :=
  ∃ e, r = .entry e ∧ (∀ m, e.covers m = decide (m.toNat / 2 ^ k = mva.toNat / 2 ^ k)) ∧ e.isSection = isSection ∧
    e.physical mva = pa ∧ e.domain = domain ∧ e.ap = ap ∧ e.c = c ∧ e.b = b

theorem makeEntry_mapsBlock {k : Nat} {size : BitVec 4} (h : blockBits size = some k) {isSection : Bool}
    (hs : (size == 0b1011#4) = isSection) (mva pa : Word) (domain : BitVec 4) (ap : BitVec 2) (c b : Bool) :
    mapsBlock (.entry (makeEntry k size mva pa domain ap c b)) k isSection mva (joinAt k pa mva) domain ap c b :=
  ⟨_, rfl, makeEntry_covers _ _ _ _ _ _ h, hs, makeEntry_physical _ _ _ _ _ _ h mva, rfl, rfl, rfl, rfl⟩

/-! The first level. -/

/-- An appended field adds to the higher one at its place. -/
theorem toNat_append_add {n m : Nat} (x : BitVec n) (y : BitVec m) : (x ++ y).toNat = x.toNat * 2 ^ m + y.toNat := by
  rw [BitVec.toNat_append, ← Nat.shiftLeft_add_eq_or_of_lt y.isLt, Nat.shiftLeft_eq]

/-- The first-level descriptor stands at the table's base, one word for each 1MB (R194). -/
theorem toNat_firstLevelAddress (ttbr : BitVec 18) (mva : Word) :
    (firstLevelAddress ttbr mva).toNat = ttbr.toNat * 2 ^ 14 + mva.toNat / 2 ^ 20 * 4 := by
  have := mva.isLt
  rw [firstLevelAddress, toNat_append_add, toNat_append_add, BitVec.extractLsb'_toNat, Nat.shiftRight_eq_div_pow]
  change (ttbr.toNat * 2 ^ 12 + mva.toNat / 2 ^ 20 % 2 ^ 12) * 2 ^ 2 + 0 = _
  omega

/-- With both TCM RAMs powered none answers a walk without power (R585). -/
theorem descriptorUnpowered_powered {k : Ctx} (hd : k.pins.dtcmRam = true) (hi : k.pins.itcmRam = true) (pick : Bool)
    (pa : Word) : descriptorUnpowered k pick pa = false := by
  simp only [descriptorUnpowered, hd, hi, Bool.not_true, Bool.and_false]
  split <;> rfl

theorem sectionEntry_wellFormed {l1 : Word} (mva : Word) (hbase : l1.extractLsb' 12 8 = 0#8) (hbit9 : l1.getLsbD 9 = false)
    (hbit4 : l1.getLsbD 4 = true) :
    sectionEntry l1 mva =
      .entry (makeEntry 20 0b1011#4 mva l1 (l1.extractLsb' 5 4) (l1.extractLsb' 10 2) (l1.getLsbD 3) (l1.getLsbD 2)) :=
  if_pos ⟨hbase, hbit9, hbit4⟩

/-- A section descriptor with a wrong fixed bit stops the walk (R199, assumption 48). -/
theorem sectionEntry_wrong {l1 : Word} (mva : Word)
    (h : l1.extractLsb' 12 8 ≠ 0#8 ∨ l1.getLsbD 9 = true ∨ l1.getLsbD 4 = false) :
    sectionEntry l1 mva = .stop .unpredictableDescriptor := by
  refine if_neg fun ⟨hbase, hbit9, hbit4⟩ => ?_
  simp [hbase, hbit9, hbit4, -BitVec.getLsbD_eq_getElem] at h

section
variable {k : Ctx} {ms : MemSys} (later : MemSys) {picks mva : Word}

theorem walk_unpowered (h : descriptorUnpowered k (picks.getLsbD 0) (firstLevelAddress k.cp15.ttbr mva) = true) :
    walk k ms later picks mva = .stop .ramPoweredDown :=
  if_pos h

theorem walk_noDescriptor (h : descriptorUnpowered k (picks.getLsbD 0) (firstLevelAddress k.cp15.ttbr mva) = false)
    (hr : readDescriptor k ms (picks.getLsbD 0) (firstLevelAddress k.cp15.ttbr mva) = none) :
    walk k ms later picks mva = .fault .externalWalk1 none := by
  simp only [walk, h, hr, Bool.false_eq_true, if_false]

theorem walk_descriptor {l1 : Word} (h : descriptorUnpowered k (picks.getLsbD 0) (firstLevelAddress k.cp15.ttbr mva) = false)
    (hr : readDescriptor k ms (picks.getLsbD 0) (firstLevelAddress k.cp15.ttbr mva) = some l1) :
    walk k ms later picks mva =
      if l1.extractLsb' 0 2 = 0#2 then .fault .translationSection none
      else if l1.extractLsb' 0 2 = 2#2 then sectionEntry l1 mva
      else pageWalk k later (picks.getLsbD 1) (l1.extractLsb' 0 2 == 3#2) l1 mva := by
  simp only [walk, h, hr, Bool.false_eq_true, if_false]
end

/-- Settles O58: the first read decides, and a section's entry is one made for 1MB. -/
theorem firstLevelWalk : Obligations.FirstLevelWalk := by
  intro k ms later picks mva l1
  refine ⟨toNat_firstLevelAddress _ mva, descriptorUnpowered_powered, walk_unpowered later, walk_noDescriptor later,
    fun hp hr => ?_⟩
  rw [walk_descriptor later hp hr]
  refine ⟨fun ht => if_pos ht, fun ht hbase hbit9 hbit4 => ?_, fun ht hwrong => ?_⟩
  · rw [ht, if_neg (by decide), if_pos rfl, sectionEntry_wellFormed mva hbase hbit9 hbit4,
      show l1.extractLsb' 20 12 ++ mva.extractLsb' 0 20 = joinAt 20 l1 mva from append_eq_joinAt rfl (by decide) l1 mva]
    exact makeEntry_mapsBlock rfl rfl _ _ _ _ _ _
  · rw [ht, if_neg (by decide), if_pos rfl, sectionEntry_wrong mva hwrong]

end Sys2Proof.Machine
end

section
/-! SUPPORT. The second level of the table walk (R200 to R206). -/

namespace Sys2Proof.Machine

/-- The second-level descriptor stands at the table's base, one word for each 1KB of a fine table and each 4KB of a coarse one
(R200). -/
theorem toNat_secondLevelAddress (fine : Bool) (l1 mva : Word) :
    (secondLevelAddress fine l1 mva).toNat =
      if fine then l1.toNat / 2 ^ 12 * 2 ^ 12 + mva.toNat / 2 ^ 10 % 2 ^ 10 * 4
      else l1.toNat / 2 ^ 10 * 2 ^ 10 + mva.toNat / 2 ^ 12 % 2 ^ 8 * 4 := by
  have := l1.isLt
  cases fine with
  | true =>
    simp only [secondLevelAddress, if_true]
    rw [toNat_append_add, toNat_append_add, BitVec.extractLsb'_toNat, BitVec.extractLsb'_toNat, Nat.shiftRight_eq_div_pow,
      Nat.shiftRight_eq_div_pow]
    change (l1.toNat / 2 ^ 12 % 2 ^ 20 * 2 ^ 10 + mva.toNat / 2 ^ 10 % 2 ^ 10) * 2 ^ 2 + 0 = _
    omega
  | false =>
    simp only [secondLevelAddress, Bool.false_eq_true, if_false]
    rw [toNat_append_add, toNat_append_add, BitVec.extractLsb'_toNat, BitVec.extractLsb'_toNat, Nat.shiftRight_eq_div_pow,
      Nat.shiftRight_eq_div_pow]
    change (l1.toNat / 2 ^ 10 % 2 ^ 22 * 2 ^ 8 + mva.toNat / 2 ^ 12 % 2 ^ 8) * 2 ^ 2 + 0 = _
    omega

/-! The four access permission fields of a page. -/

theorem subpageAp_eq (l2 : Word) (n : BitVec 2) : subpageAp l2 n = (l2 >>> (4 + 2 * n.toNat)).extractLsb' 0 2 := by
  ext i hi
  simp [subpageAp, BitVec.getElem_extractLsb']

theorem uniformAp_iff (l2 : Word) :
    uniformAp l2 = true ↔ l2.extractLsb' 4 2 = l2.extractLsb' 6 2 ∧ l2.extractLsb' 6 2 = l2.extractLsb' 8 2 ∧
      l2.extractLsb' 8 2 = l2.extractLsb' 10 2 := by
  simp only [uniformAp, Bool.and_eq_true, beq_iff_eq, and_assoc]
  rfl

/-- Where the four fields are the same each of them is the first. -/
theorem subpageAp_of_uniform {l2 : Word} (h : uniformAp l2 = true) (n : BitVec 2) : subpageAp l2 0#2 = subpageAp l2 n := by
  simp only [uniformAp, Bool.and_eq_true, beq_iff_eq] at h
  obtain ⟨⟨h01, h12⟩, h23⟩ := h
  rcases two_bits_cases n with rfl | rfl | rfl | rfl
  · rfl
  · exact h01
  · exact h01.trans h12
  · exact (h01.trans h12).trans h23

/-- A page maps its block, or the accessed quarter where the fields differ, with the field of the subpage (R192, R204, R205). -/
theorem pageEntry_mapsBlock {k : Nat} {size quarterSize : BitVec 4} (h : blockBits size = some k)
    (hq : blockBits quarterSize = some (k - 2)) (hs : (size == 0b1011#4) = false) (hqs : (quarterSize == 0b1011#4) = false)
    (l2 mva : Word) (domain : BitVec 4) :
    mapsBlock (.entry (pageEntry k size quarterSize l2 mva domain)) (if uniformAp l2 = true then k else k - 2) false mva
      (joinAt k l2 mva) domain (subpageAp l2 (mva.extractLsb' (k - 2) 2)) (l2.getLsbD 3) (l2.getLsbD 2) := by
  have hk := (blockBits_range h).2
  by_cases hu : uniformAp l2 = true
  · rw [pageEntry, if_pos hu, if_pos hu, subpageAp_of_uniform hu (mva.extractLsb' (k - 2) 2)]
    exact makeEntry_mapsBlock h hs _ _ _ _ _ _
  · rw [pageEntry, if_neg hu, if_neg hu, ← joinAt_joinAt (Nat.sub_le k 2) (by omega) l2 mva]
    exact makeEntry_mapsBlock hq hqs _ _ _ _ _ _

/-! The second-level descriptor. -/

theorem secondLevel_fault {l2 : Word} (fine : Bool) (mva : Word) (domain : BitVec 4) (ht : l2.extractLsb' 0 2 = 0#2) :
    secondLevel fine l2 mva domain = .fault .translationPage (some domain) :=
  if_pos ht

theorem secondLevel_large {l2 : Word} (fine : Bool) (mva : Word) (domain : BitVec 4) (ht : l2.extractLsb' 0 2 = 1#2) :
    secondLevel fine l2 mva domain =
      if l2.extractLsb' 12 4 = 0#4 then .entry (pageEntry 16 0b0111#4 0b0101#4 l2 mva domain)
      else .stop .unpredictableDescriptor := by
  simp [secondLevel, ht]

theorem secondLevel_small {l2 : Word} (fine : Bool) (mva : Word) (domain : BitVec 4) (ht : l2.extractLsb' 0 2 = 2#2) :
    secondLevel fine l2 mva domain = .entry (pageEntry 12 0b0011#4 0b0001#4 l2 mva domain) := by
  simp [secondLevel, ht]

theorem secondLevel_tiny {l2 : Word} (mva : Word) (domain : BitVec 4) (ht : l2.extractLsb' 0 2 = 3#2) :
    secondLevel true l2 mva domain =
      if l2.extractLsb' 6 4 = 0#4 then
        .entry (makeEntry 10 0b0001#4 mva l2 domain (l2.extractLsb' 4 2) (l2.getLsbD 3) (l2.getLsbD 2))
      else .stop .unpredictableDescriptor := by
  simp only [secondLevel, ht, if_true]
  rfl

theorem secondLevel_tinyInCoarse {l2 : Word} (mva : Word) (domain : BitVec 4) (ht : l2.extractLsb' 0 2 = 3#2) :
    secondLevel false l2 mva domain = .stop .tinyInCoarse := by
  simp [secondLevel, ht]

/-! The walk through a table. -/

/-- The fixed bits of a page table descriptor (R197, R198), bits [4:2] together. -/
theorem tableBitsOk_iff (fine : Bool) (l1 : Word) :
    tableBitsOk fine l1 = true ↔
      l1.extractLsb' 2 3 = 0b100#3 ∧ (if fine then l1.extractLsb' 9 3 = 0#3 else l1.getLsbD 9 = false) := by
  have hbits : (l1.getLsbD 4 = true ∧ l1.extractLsb' 2 2 = 0#2) ↔ l1.extractLsb' 2 3 = 0b100#3 := by
    have hbit : l1.getLsbD 4 = (l1.extractLsb' 2 3).getLsbD 2 := by
      rw [BitVec.getLsbD_extractLsb']
      rfl
    have hlow : l1.extractLsb' 2 2 = (l1.extractLsb' 2 3).extractLsb' 0 2 := by
      ext i hi
      simp [show i < 3 by omega]
    rw [hbit, hlow]
    generalize l1.extractLsb' 2 3 = x
    decide +revert
  rw [← hbits]
  cases fine <;> simp [tableBitsOk, and_assoc]

/-- From a first-level descriptor of a table the walk goes on in that table (R195). -/
theorem walk_table {k : Ctx} {ms : MemSys} (later : MemSys) {fine : Bool} {picks mva l1 : Word}
    (hp : descriptorUnpowered k (picks.getLsbD 0) (firstLevelAddress k.cp15.ttbr mva) = false)
    (hr : readDescriptor k ms (picks.getLsbD 0) (firstLevelAddress k.cp15.ttbr mva) = some l1)
    (ht : l1.extractLsb' 0 2 = (if fine then 3#2 else 1#2)) :
    walk k ms later picks mva = pageWalk k later (picks.getLsbD 1) fine l1 mva := by
  rw [walk_descriptor later hp hr, ht]
  cases fine <;> rfl

section
variable {k : Ctx} {ms : MemSys} {pick fine : Bool} {l1 mva : Word}

theorem pageWalk_wrongBits (h : tableBitsOk fine l1 ≠ true) : pageWalk k ms pick fine l1 mva = .stop .unpredictableDescriptor :=
  if_neg h

theorem pageWalk_unpowered (h : tableBitsOk fine l1 = true)
    (hp : descriptorUnpowered k pick (secondLevelAddress fine l1 mva) = true) :
    pageWalk k ms pick fine l1 mva = .stop .ramPoweredDown := by
  simp only [pageWalk, h, hp, if_true]

theorem pageWalk_noDescriptor (h : tableBitsOk fine l1 = true)
    (hp : descriptorUnpowered k pick (secondLevelAddress fine l1 mva) = false)
    (hr : readDescriptor k ms pick (secondLevelAddress fine l1 mva) = none) :
    pageWalk k ms pick fine l1 mva = .fault .externalWalk2 (some (l1.extractLsb' 5 4)) := by
  simp only [pageWalk, h, hp, hr, if_true, Bool.false_eq_true, if_false]

theorem pageWalk_descriptor {l2 : Word} (h : tableBitsOk fine l1 = true)
    (hp : descriptorUnpowered k pick (secondLevelAddress fine l1 mva) = false)
    (hr : readDescriptor k ms pick (secondLevelAddress fine l1 mva) = some l2) :
    pageWalk k ms pick fine l1 mva = secondLevel fine l2 mva (l1.extractLsb' 5 4) := by
  simp only [pageWalk, h, hp, hr, if_true, Bool.false_eq_true, if_false]
end

/-- Settles O59: the walk goes on in the table, the second read decides, and each type of page has its entry. -/
theorem secondLevelWalk : Obligations.SecondLevelWalk := by
  intro k ms later fine picks mva l1 l2 hp hr ht
  have fixed := tableBitsOk_iff fine l1
  rw [walk_table later hp hr ht]
  refine ⟨toNat_secondLevelAddress fine l1 mva, fun hf => pageWalk_wrongBits (mt fixed.1 hf),
    fun hf => pageWalk_unpowered (fixed.2 hf), fun hf => pageWalk_noDescriptor (fixed.2 hf), fun hf hp2 hr2 => ?_⟩
  rw [pageWalk_descriptor (fixed.2 hf) hp2 hr2]
  refine ⟨secondLevel_fault fine mva _, fun h2 hbits => ?_, fun h2 hbits => ?_, fun h2 => ?_, fun h2 hfine hbits => ?_,
    fun h2 hfine hbits => ?_, fun h2 hfine => ?_⟩
  · rw [secondLevel_large fine mva _ h2, if_pos hbits, ← subpageAp_eq, if_congr (uniformAp_iff l2).symm rfl rfl,
      show l2.extractLsb' 16 16 ++ mva.extractLsb' 0 16 = joinAt 16 l2 mva from append_eq_joinAt rfl (by decide) l2 mva]
    exact pageEntry_mapsBlock rfl rfl rfl rfl l2 mva _
  · rw [secondLevel_large fine mva _ h2, if_neg hbits]
  · rw [secondLevel_small fine mva _ h2, ← subpageAp_eq, if_congr (uniformAp_iff l2).symm rfl rfl,
      show l2.extractLsb' 12 20 ++ mva.extractLsb' 0 12 = joinAt 12 l2 mva from append_eq_joinAt rfl (by decide) l2 mva]
    exact pageEntry_mapsBlock rfl rfl rfl rfl l2 mva _
  · rw [hfine, secondLevel_tiny mva _ h2, if_pos hbits,
      show l2.extractLsb' 10 22 ++ mva.extractLsb' 0 10 = joinAt 10 l2 mva from append_eq_joinAt rfl (by decide) l2 mva]
    exact makeEntry_mapsBlock rfl rfl _ _ _ _ _ _
  · rw [hfine, secondLevel_tiny mva _ h2, if_neg hbits]
  · rw [hfine, secondLevel_tinyInCoarse mva _ h2]

end Sys2Proof.Machine
end

section
/-! SUPPORT. What a translation may change beside the TLB: what drains, what is evicted, what other agents write (R18, R588). -/

namespace Sys2Proof.Machine

open Sys2Proof.Claims

/-- What the hardware by itself, and other agents by writes among those allowed, may make of a memory system: nothing but the TLB,
the memories with their buffers, and the DCache differs, and no byte is another where onlyTranslated says so. -/
structure HardwareKeeps (others : Bool → Nat → Bool) (a b : MemSys) : Prop where
  frame : b = { a with
    mem := b.mem, itcm := b.itcm, dtcm := b.dtcm, wbuf := b.wbuf, itcmWb := b.itcmWb, dtcmWb := b.dtcmWb, dcache := b.dcache
    tlbMain := b.tlbMain, tlbLock := b.tlbLock, cachedFaults := b.cachedFaults, victim := b.victim, outside := b.outside
    draws := b.draws }
  wf : a.wf = true → b.wf = true
  itcm : b.settledItcm = a.settledItcm
  dtcm : a.wf = true → ∀ cell, others true cell = false → b.settledDtcm.read cell = a.settledDtcm.read cell
  dcache : (∀ l ∈ a.dcache, l.dirty = false) → b.dcache = a.dcache
  bus : (∀ l ∈ a.dcache, l.dirty = false) → a.wf = true → ∀ cell, others false cell = false →
    b.settledMem.read cell = a.settledMem.read cell

theorem HardwareKeeps.refl (others : Bool → Nat → Bool) (ms : MemSys) : HardwareKeeps others ms ms :=
  ⟨rfl, id, rfl, fun _ _ _ => rfl, fun _ => rfl, fun _ _ _ _ => rfl⟩

theorem HardwareKeeps.trans {others : Bool → Nat → Bool} {a b c : MemSys} (h : HardwareKeeps others a b)
    (g : HardwareKeeps others b c) : HardwareKeeps others a c where
  frame := by rw [g.frame, h.frame]
  wf ha := g.wf (h.wf ha)
  itcm := g.itcm.trans h.itcm
  dtcm ha cell hc := (g.dtcm (h.wf ha) cell hc).trans (h.dtcm ha cell hc)
  dcache hl := (g.dcache (h.dcache hl ▸ hl)).trans (h.dcache hl)
  bus hl ha cell hc := (g.bus (h.dcache hl ▸ hl) (h.wf ha) cell hc).trans (h.bus hl ha cell hc)

/-- The fewer writes are allowed, the more is kept. -/
theorem HardwareKeeps.mono {others fewer : Bool → Nat → Bool} {a b : MemSys} (h : HardwareKeeps fewer a b)
    (hf : ∀ t cell, others t cell = false → fewer t cell = false) : HardwareKeeps others a b where
  frame := h.frame
  wf := h.wf
  itcm := h.itcm
  dtcm ha cell hc := h.dtcm ha cell (hf true cell hc)
  dcache := h.dcache
  bus hl ha cell hc := h.bus hl ha cell (hf false cell hc)

theorem HardwareKeeps.drainSome (others : Bool → Nat → Bool) (k : Ctx) (ms : MemSys) :
    HardwareKeeps others ms (ms.drainSome k) := by
  have hk := MemSys.drainSome_keepsBytes others k ms
  have ⟨hframe, hitcm, hdtcm, hbus⟩ := hk
  exact ⟨by rw [hframe], MemSys.wf_drainSome k, hitcm, fun _ => hdtcm, fun _ => hk.dcache, fun _ _ => hbus⟩

/-- Without a dirty line none is evicted. -/
theorem evictedNow_clean {ms : MemSys} (h : ∀ l ∈ ms.dcache, l.dirty = false) : evictedNow ms = none := by
  cases he : evictedNow ms with
  | none => rfl
  | some l =>
    obtain ⟨hl, hd⟩ := evictedNow_some he
    exact absurd hd (by simp [h l hl])

theorem HardwareKeeps.evictSome (others : Bool → Nat → Bool) (ms : MemSys) : HardwareKeeps others ms ms.evictSome where
  frame := rfl
  wf := MemSys.wf_evictSome
  itcm := rfl
  dtcm _ _ _ := rfl
  dcache h := by simp [MemSys.evictSome, evictedNow_clean h]
  bus h _ cell _ := by
    have hs : ms.evictSome.settledMem = ms.settledMem.applyAll ((evictedNow ms).elim [] CacheLine.castouts) :=
      MemSys.pushBus_settled ms _
    rw [hs, evictedNow_clean h]
    rfl

theorem HardwareKeeps.written {others : Bool → Nat → Bool} {w : OutsideWrite}
    (hw : ∀ t cell, others t cell = false → w.drives t cell = false) (ms : MemSys) :
    HardwareKeeps others ms (ms.written w) := by
  have hk (ha : ms.wf = true) := MemSys.written_keepsBytes ha hw
  have hdtcm (ha : ms.wf = true) := (hk ha).2.2.1
  have hbus (ha : ms.wf = true) := (hk ha).2.2.2
  obtain ⟨toDtcm, _, _, _⟩ := w
  cases toDtcm <;> exact ⟨rfl, MemSys.wf_written _, rfl, hdtcm, fun _ => rfl, fun _ => hbus⟩

/-- No write still to come drives a byte that others are not to write. -/
theorem MemSys.othersWrite_eq_false_iff (ms : MemSys) (t : Bool) (cell : Nat) :
    ms.othersWrite t cell = false ↔ ∀ w ∈ ms.outside.flatten, w.drives t cell = false := by
  simp only [MemSys.othersWrite, OutsideWrite.drives, List.any_eq_false, List.mem_flatten, Bool.not_eq_true]
  exact ⟨fun h w ⟨ws, hws, hw⟩ => h ws hws w hw, fun h ws hws w hw => h w ⟨ws, hws, hw⟩⟩

/-- All that may come before an access keeps what the hardware and the writes still to come keep. -/
theorem HardwareKeeps.meanwhile (k : Ctx) (ms : MemSys) : HardwareKeeps ms.othersWrite ms (ms.meanwhile k) := by
  refine MemSys.meanwhile_keeps (P := HardwareKeeps ms.othersWrite ms) (fun m h => h.trans (.drainSome _ k m))
    (fun m h => h.trans (.evictSome _ m)) (fun ws hws w hw m h => h.trans (.written (fun t cell hc => ?_) m))
    (fun m l h => ?_) (.refl _ ms)
  · exact (ms.othersWrite_eq_false_iff t cell).1 hc w (List.mem_flatten.2 ⟨ws, hws, hw⟩)
  · exact { h with frame := by rw [h.frame] }

/-- A part of a translation: it keeps what the hardware keeps, and adds nothing to what other agents are still to write. -/
def TranslationStep (a b : MemSys) : Prop :=
  HardwareKeeps a.othersWrite a b ∧ b.outside.flatten.Sublist a.outside.flatten

theorem TranslationStep.trans {a b c : MemSys} (h : TranslationStep a b) (g : TranslationStep b c) : TranslationStep a c := by
  obtain ⟨hk, ho⟩ := h
  obtain ⟨gk, go⟩ := g
  refine ⟨hk.trans (gk.mono fun t cell hc => ?_), go.trans ho⟩
  rw [MemSys.othersWrite_eq_false_iff] at hc ⊢
  exact fun w hw => hc w (ho.subset hw)

theorem TranslationStep.meanwhile (k : Ctx) (ms : MemSys) : TranslationStep ms (ms.meanwhile k) :=
  ⟨.meanwhile k ms, MemSys.meanwhile_outside k ms⟩

/-- Steps of a translation change what a translation may change. -/
theorem TranslationStep.onlyTranslated {a b : MemSys} (h : TranslationStep a b) : onlyTranslated a b :=
  have ⟨hk, ho⟩ := h
  ⟨hk.frame, ho, hk.itcm, hk.dtcm, fun hl => ⟨hk.dcache hl, hk.bus hl⟩⟩

end Sys2Proof.Machine
end

section
/-! SUPPORT. What the hardware does by itself with the TLB (R227): the entries it brings and the faults it remembers. -/

namespace Sys2Proof.Machine

open Sys2Proof.Claims

/-! What may come before an access, and a walk, do not look at the TLB. -/

/-- A memory system with the TLB of another: both parts, the remembered faults, the victim and the preserve bit. -/
def MemSys.withTlb (ms tlb : MemSys) : MemSys :=
  { ms with tlbMain := tlb.tlbMain, tlbLock := tlb.tlbLock, cachedFaults := tlb.cachedFaults, victim := tlb.victim
            preserve := tlb.preserve }

theorem MemSys.drainSome_withTlb (k : Ctx) (ms tlb : MemSys) : (ms.withTlb tlb).drainSome k = (ms.drainSome k).withTlb tlb := by
  by_cases h : ms.wbuf = [] ∧ ms.itcmWb = [] ∧ ms.dtcmWb = []
  · rw [drainSome, drainSome, if_pos h, if_pos (by exact h)]
  · rw [drainSome, drainSome, if_neg h, if_neg (by exact h)]
    rfl

theorem evictTimes_withTlb (n : Nat) (ms tlb : MemSys) : evictTimes n (ms.withTlb tlb) = (evictTimes n ms).withTlb tlb := by
  induction n generalizing ms with
  | zero => rfl
  | succ n ih => exact ih ms.evictSome

theorem MemSys.unprompted_withTlb (k : Ctx) (ms tlb : MemSys) :
    (ms.withTlb tlb).unprompted k = (ms.unprompted k).withTlb tlb := by
  simp only [unprompted, evictAny, drainSome_withTlb]
  split
  · exact evictTimes_withTlb _ _ tlb
  · rfl

theorem MemSys.written_withTlb (w : OutsideWrite) (ms tlb : MemSys) :
    (ms.withTlb tlb).written w = (ms.written w).withTlb tlb := by
  obtain ⟨toDtcm, _, _, _⟩ := w
  cases toDtcm <;> rfl

theorem MemSys.meanwhile_withTlb (k : Ctx) (ms tlb : MemSys) : (ms.withTlb tlb).meanwhile k = (ms.meanwhile k).withTlb tlb := by
  have fold {f : MemSys → OutsideWrite → MemSys} (hf : ∀ ms w, f (ms.withTlb tlb) w = (f ms w).withTlb tlb)
      (ws : List OutsideWrite) (ms : MemSys) : ws.foldl f (ms.withTlb tlb) = (ws.foldl f ms).withTlb tlb := by
    induction ws generalizing ms with
    | nil => rfl
    | cons w ws ih => rw [List.foldl_cons, List.foldl_cons, hf, ih]
  cases ho : ms.outside with
  | nil =>
    have ho' : (ms.withTlb tlb).outside = [] := ho
    simp only [meanwhile, ho, ho', unprompted_withTlb]
    split <;> rfl
  | cons now later =>
    have ho' : (ms.withTlb tlb).outside = now :: later := ho
    simp only [meanwhile, ho, ho']
    split
    · exact fold (fun ms w => written_withTlb w ms tlb) _ { ms with outside := _ }
    · rw [← fold fun ms w => by rw [written_withTlb, unprompted_withTlb], ← unprompted_withTlb]
      rfl

/-- Nothing that may come before an access touches the TLB. -/
theorem MemSys.meanwhile_tlb (k : Ctx) (ms : MemSys) : ms.meanwhile k = (ms.meanwhile k).withTlb ms :=
  meanwhile_withTlb k ms ms

@[simp] theorem MemSys.meanwhile_tlbMain (k : Ctx) (ms : MemSys) : (ms.meanwhile k).tlbMain = ms.tlbMain :=
  (congrArg MemSys.tlbMain (ms.meanwhile_tlb k) :)

@[simp] theorem MemSys.meanwhile_tlbLock (k : Ctx) (ms : MemSys) : (ms.meanwhile k).tlbLock = ms.tlbLock :=
  (congrArg MemSys.tlbLock (ms.meanwhile_tlb k) :)

@[simp] theorem MemSys.meanwhile_cachedFaults (k : Ctx) (ms : MemSys) : (ms.meanwhile k).cachedFaults = ms.cachedFaults :=
  (congrArg MemSys.cachedFaults (ms.meanwhile_tlb k) :)

@[simp] theorem MemSys.meanwhile_victim (k : Ctx) (ms : MemSys) : (ms.meanwhile k).victim = ms.victim :=
  (congrArg MemSys.victim (ms.meanwhile_tlb k) :)

@[simp] theorem MemSys.meanwhile_preserve (k : Ctx) (ms : MemSys) : (ms.meanwhile k).preserve = ms.preserve :=
  (congrArg MemSys.preserve (ms.meanwhile_tlb k) :)

theorem walk_withTlb (k : Ctx) (ms later tlb tlb' : MemSys) (picks mva : Word) :
    walk k (ms.withTlb tlb) (later.withTlb tlb') picks mva = walk k ms later picks mva := rfl

/-! What the hardware does by itself with the TLB. -/

/-- How many values have been drawn when the drains and evictions of a walk ahead begin. -/
def churnDraws (ms : MemSys) : Nat := ms.draws + 2 + ms.cachedFaults.length + 2

/-- Beside the TLB the hardware makes of a memory system what comes before the second read of its walk. -/
theorem churn_eq (k : Ctx) (ms : MemSys) : churn k ms = (drainedAt (churnDraws ms) k ms).withTlb (churn k ms) := by
  have h := MemSys.meanwhile_withTlb k { ms with draws := churnDraws ms } ms.dropUnlocked
  have h' : (ms.dropUnlocked.spend 2).meanwhile k = (drainedAt (churnDraws ms) k ms).withTlb ms.dropUnlocked := h
  simp only [churn, speculate, h']
  rfl

@[simp] theorem churn_tlbLock (k : Ctx) (ms : MemSys) : (churn k ms).tlbLock = ms.tlbLock :=
  (ms.dropUnlocked.spend 2).meanwhile_tlbLock k

@[simp] theorem churn_victim (k : Ctx) (ms : MemSys) : (churn k ms).victim = ms.victim :=
  (ms.dropUnlocked.spend 2).meanwhile_victim k

@[simp] theorem churn_preserve (k : Ctx) (ms : MemSys) : (churn k ms).preserve = ms.preserve :=
  (ms.dropUnlocked.spend 2).meanwhile_preserve k

/-- The address that the hardware walks by itself. -/
def aheadMva (ms : MemSys) : Word := ms.dropUnlocked.drawn 0

/-- What that walk finds, when it is made. -/
def foundAhead (k : Ctx) (ms : MemSys) : Option WalkResult :=
  walkedAhead k (ms.dropUnlocked.spend 2) ((ms.dropUnlocked.spend 2).meanwhile k) (aheadMva ms) (ms.dropUnlocked.drawn 1)

theorem foundAhead_some {k : Ctx} {ms : MemSys} {r : WalkResult} (h : foundAhead k ms = some r) :
    walk k ms (drainedAt (churnDraws ms) k ms) (ms.dropUnlocked.drawn 1 >>> 1) (aheadMva ms) = r := by
  have hd : (ms.dropUnlocked.spend 2).meanwhile k = (drainedAt (churnDraws ms) k ms).withTlb ms.dropUnlocked :=
    MemSys.meanwhile_withTlb k { ms with draws := churnDraws ms } ms.dropUnlocked
  simp only [foundAhead, walkedAhead, hd, Option.ite_none_right_eq_some, Option.some.injEq] at h
  exact h.2

/-- A matching entry is valid. -/
theorem TlbEntry.valid_of_covers {e : TlbEntry} {mva : Word} (h : e.covers mva = true) : e.valid = true := by
  simp only [covers] at h
  split at h
  · cases h
  · exact (Bool.and_eq_true_iff.1 h).1

/-- The valid entries that are left were there. -/
theorem mem_of_mem_dropMain {mask : BitVec 64} {v : Vector TlbEntry 64} {f : TlbEntry} (h : f ∈ (dropMain mask v).toList)
    (hv : f.valid = true) : f ∈ v.toList := by
  rw [Vector.mem_toList_iff, dropMain, Vector.mem_mapFinIdx] at h
  obtain ⟨i, hi, rfl⟩ := h
  split at hv
  · cases hv
  · next hkeep =>
    rw [if_neg hkeep]
    simp

/-- The valid entries after one is put in are that one and some of those that were there. -/
theorem mem_of_mem_replaceMain {place : BitVec 6} {e f : TlbEntry} {v : Vector TlbEntry 64}
    (h : f ∈ (replaceMain place e v).toList) (hv : f.valid = true) : f ∈ v.toList ∨ f = e := by
  rw [Vector.mem_toList_iff, replaceMain] at h
  refine (Vector.mem_or_eq_of_mem_set h).imp_left fun hm => ?_
  obtain ⟨g, hg, rfl⟩ := Vector.mem_map.1 hm
  split at hv
  · cases hv
  · next hkeep =>
    rw [if_neg hkeep]
    exact Vector.mem_toList_iff.2 hg

/-- A valid entry of the main part was there, or it is what a walk ahead with P = 0 found (R227, assumption 13). -/
theorem mem_of_mem_churn_tlbMain {k : Ctx} {ms : MemSys} {f : TlbEntry} (h : f ∈ (churn k ms).tlbMain.toList)
    (hv : f.valid = true) : f ∈ ms.tlbMain.toList ∨ ms.preserve = false ∧ foundAhead k ms = some (.entry f) := by
  have hdrop : ((ms.dropUnlocked.spend 2).meanwhile k).tlbMain = ms.dropUnlocked.tlbMain := MemSys.meanwhile_tlbMain ..
  have hp : (ms.dropUnlocked.spend 2).preserve = ms.preserve := rfl
  simp only [churn, speculate, hdrop, hp] at h
  split at h
  · next e hfound =>
    split at h
    · exact .inl (mem_of_mem_dropMain h hv)
    · next hp0 =>
      rcases mem_of_mem_replaceMain h hv with hm | rfl
      · exact .inl (mem_of_mem_dropMain hm hv)
      · exact .inr ⟨Bool.eq_false_iff.2 hp0, hfound⟩
  · exact .inl (mem_of_mem_dropMain h hv)

/-! The faults that the hardware remembers. -/

theorem dropFaults_subset (n : Nat) (fs : List CachedFault) : dropFaults n fs ⊆ fs := by
  induction fs generalizing n with
  | nil => exact List.Subset.refl _
  | cons f fs ih =>
    simp only [dropFaults]
    split
    · exact List.subset_cons_of_subset f (ih _)
    · exact List.cons_subset_cons f (ih _)

/-- A remembered fault is an old one, or the translation fault of the walk for the block of its descriptor. -/
theorem mem_rememberFault {bits : Nat} {mva : Word} {r : Option WalkResult} {f : CachedFault} {fs : List CachedFault}
    (h : f ∈ rememberFault bits mva r fs) :
    f ∈ fs ∨ (∃ d, r = some (.fault .translationSection d) ∧ f = ⟨mva.extractLsb' 10 22, 20, d⟩) ∨
      ∃ d, r = some (.fault .translationPage d) ∧ f = ⟨mva.extractLsb' 10 22, bits, d⟩ := by
  simp only [rememberFault] at h
  split at h
  · next d => exact (List.mem_cons.1 h).elim (fun e => .inr (.inl ⟨d, rfl, e⟩)) .inl
  · next d => exact (List.mem_cons.1 h).elim (fun e => .inr (.inr ⟨d, rfl, e⟩)) .inl
  · exact .inl h

/-- An address without its bits [9:0] lies in the same block of 1KB or more. -/
theorem sameBlock_blockWord {k : Nat} (hk : 10 ≤ k) (x y : Word) :
    sameBlock k (blockWord (x.extractLsb' 10 22)) y = sameBlock k x y := by
  have hbase : (blockWord (x.extractLsb' 10 22)).toNat = x.toNat / 2 ^ 10 * 2 ^ 10 := by
    have := x.isLt
    rw [blockWord, toNat_append_add, BitVec.extractLsb'_toNat, Nat.shiftRight_eq_div_pow]
    change x.toNat / 2 ^ 10 % 2 ^ 22 * 2 ^ 10 + 0 = _
    omega
  have hblock : x.toNat / 2 ^ 10 * 2 ^ 10 / 2 ^ 10 = x.toNat / 2 ^ 10 := Nat.mul_div_cancel _ (by decide)
  rw [Bool.eq_iff_iff, sameBlock_iff, sameBlock_iff, hbase, div_two_pow_eq_of_le hblock hk]

theorem firstLevelAddress_congr (ttbr : BitVec 18) {x y : Word} (h : x.toNat / 2 ^ 20 = y.toNat / 2 ^ 20) :
    firstLevelAddress ttbr x = firstLevelAddress ttbr y := by
  rw [← BitVec.toNat_inj, toNat_firstLevelAddress, toNat_firstLevelAddress, h]

theorem secondLevelAddress_congr (fine : Bool) (l1 : Word) {x y : Word}
    (h : x.toNat / 2 ^ (if fine then 10 else 12) = y.toNat / 2 ^ (if fine then 10 else 12)) :
    secondLevelAddress fine l1 x = secondLevelAddress fine l1 y := by
  rw [← BitVec.toNat_inj, toNat_secondLevelAddress, toNat_secondLevelAddress]
  cases fine <;> simp_all

section
variable {k : Ctx} {ms later : MemSys} {picks x y : Word} {s : FaultStatus} {d : Option (BitVec 4)}

theorem sectionEntry_ne_fault (l1 : Word) : sectionEntry l1 x ≠ .fault s d := by
  simp only [sectionEntry]
  split <;> simp

/-- The second-level descriptors that fault are those of type 00 (R201). -/
theorem secondLevel_eq_fault {fine : Bool} {l2 : Word} {domain : BitVec 4} (h : secondLevel fine l2 x domain = .fault s d) :
    s = .translationPage ∧ l2.extractLsb' 0 2 = 0#2 := by
  rcases two_bits_cases (l2.extractLsb' 0 2) with ht | ht | ht | ht
  · rw [secondLevel_fault fine x domain ht] at h
    cases h
    exact ⟨rfl, ht⟩
  · rw [secondLevel_large fine x domain ht] at h
    split at h <;> cases h
  · rw [secondLevel_small fine x domain ht] at h
    cases h
  · cases fine with
    | true =>
      rw [secondLevel_tiny x domain ht] at h
      split at h <;> cases h
    | false =>
      rw [secondLevel_tinyInCoarse x domain ht] at h
      cases h

/-- The faults of the second level: an external abort, or a descriptor of type 00. -/
theorem pageWalk_eq_fault {pick fine : Bool} {l1 : Word} (h : pageWalk k ms pick fine l1 x = .fault s d) :
    s = .externalWalk2 ∨ s = .translationPage ∧ tableBitsOk fine l1 = true ∧
      descriptorUnpowered k pick (secondLevelAddress fine l1 x) = false ∧
        ∃ l2, readDescriptor k ms pick (secondLevelAddress fine l1 x) = some l2 ∧ l2.extractLsb' 0 2 = 0#2 := by
  by_cases hok : tableBitsOk fine l1 = true
  · cases hp : descriptorUnpowered k pick (secondLevelAddress fine l1 x) with
    | true =>
      rw [pageWalk_unpowered hok hp] at h
      cases h
    | false =>
      cases hr : readDescriptor k ms pick (secondLevelAddress fine l1 x) with
      | none =>
        rw [pageWalk_noDescriptor hok hp hr] at h
        cases h
        exact .inl rfl
      | some l2 =>
        rw [pageWalk_descriptor hok hp hr] at h
        obtain ⟨hs, ht⟩ := secondLevel_eq_fault h
        exact .inr ⟨hs, hok, rfl, l2, rfl, ht⟩
  · rw [pageWalk_wrongBits hok] at h
    cases h

/-- The faults of a walk: an external abort on the first descriptor, one of type 00, or a fault in the table it names. -/
theorem walk_eq_fault (h : walk k ms later picks x = .fault s d) :
    s = .externalWalk1 ∨ descriptorUnpowered k (picks.getLsbD 0) (firstLevelAddress k.cp15.ttbr x) = false ∧
      ∃ l1, readDescriptor k ms (picks.getLsbD 0) (firstLevelAddress k.cp15.ttbr x) = some l1 ∧
        (s = .translationSection ∧ l1.extractLsb' 0 2 = 0#2 ∨
          ∃ fine, l1.extractLsb' 0 2 = (if fine then 3#2 else 1#2) ∧
            pageWalk k later (picks.getLsbD 1) fine l1 x = .fault s d) := by
  cases hp : descriptorUnpowered k (picks.getLsbD 0) (firstLevelAddress k.cp15.ttbr x) with
  | true =>
    rw [walk_unpowered later hp] at h
    cases h
  | false =>
    cases hr : readDescriptor k ms (picks.getLsbD 0) (firstLevelAddress k.cp15.ttbr x) with
    | none =>
      rw [walk_noDescriptor later hp hr] at h
      cases h
      exact .inl rfl
    | some l1 =>
      refine .inr ⟨rfl, l1, rfl, ?_⟩
      rcases two_bits_cases (l1.extractLsb' 0 2) with ht | ht | ht | ht
      · rw [walk_descriptor later hp hr, if_pos ht] at h
        cases h
        exact .inl ⟨rfl, ht⟩
      · exact .inr ⟨false, ht, walk_table (fine := false) later hp hr ht ▸ h⟩
      · rw [walk_descriptor later hp hr, ht] at h
        exact absurd h (sectionEntry_ne_fault l1)
      · exact .inr ⟨true, ht, walk_table (fine := true) later hp hr ht ▸ h⟩

/-- An address in the section of one that finds a section translation fault finds one too. -/
theorem walk_translationSection_congr (h : walk k ms later picks x = .fault .translationSection d)
    (hxy : x.toNat / 2 ^ 20 = y.toNat / 2 ^ 20) : walk k ms later picks y = .fault .translationSection none := by
  obtain hs | ⟨hp, l1, hr, ⟨_, ht⟩ | ⟨fine, _, hpage⟩⟩ := walk_eq_fault h
  · cases hs
  · rw [firstLevelAddress_congr _ hxy] at hp hr
    rw [walk_descriptor later hp hr, if_pos ht]
  · obtain hs | ⟨hs, _⟩ := pageWalk_eq_fault hpage <;> cases hs

/-- A second-level descriptor maps 1KB or more. -/
theorem ten_le_descriptorBits (k : Ctx) (ms : MemSys) (picks mva : Word) : 10 ≤ descriptorBits k ms picks mva := by
  unfold descriptorBits
  split
  · split <;> decide
  · decide

theorem descriptorBits_table {l1 : Word} {fine : Bool}
    (hr : readDescriptor k ms (picks.getLsbD 0) (firstLevelAddress k.cp15.ttbr x) = some l1)
    (ht : l1.extractLsb' 0 2 = (if fine then 3#2 else 1#2)) : descriptorBits k ms picks x = if fine then 10 else 12 := by
  simp only [descriptorBits, hr, ht]
  cases fine <;> rfl

/-- An address that shares the page descriptor of one that finds a page translation fault finds one too. -/
theorem walk_translationPage_congr (h : walk k ms later picks x = .fault .translationPage d)
    (hxy : x.toNat / 2 ^ descriptorBits k ms picks x = y.toNat / 2 ^ descriptorBits k ms picks x) :
    ∃ domain, walk k ms later picks y = .fault .translationPage domain := by
  obtain hs | ⟨hp, l1, hr, ⟨hs, _⟩ | ⟨fine, ht, hpage⟩⟩ := walk_eq_fault h
  · cases hs
  · cases hs
  · obtain hs | ⟨_, hok, hp2, l2, hr2, ht2⟩ := pageWalk_eq_fault hpage
    · cases hs
    · rw [descriptorBits_table hr ht] at hxy
      have hfine : (if fine then 10 else 12) ≤ 20 := by cases fine <;> decide
      rw [firstLevelAddress_congr _ (div_two_pow_eq_of_le hxy hfine)] at hp hr
      rw [secondLevelAddress_congr fine l1 hxy] at hp2 hr2
      rw [walk_table later hp hr ht, pageWalk_descriptor hok hp2 hr2]
      exact ⟨_, secondLevel_fault fine y _ ht2⟩

/-- A fault that a walk leaves remembered answers only for addresses of which the same walk finds a fault (R227). -/
theorem walk_fault_of_remembered {f : CachedFault} {fs : List CachedFault}
    (h : f ∈ rememberFault (descriptorBits k ms picks x) x (some (walk k ms later picks x)) fs) (hc : f.covers y = true) :
    f ∈ fs ∨ ∃ s d, walk k ms later picks y = .fault s d := by
  obtain hf | ⟨d, hwalk, rfl⟩ | ⟨d, hwalk, rfl⟩ := mem_rememberFault h
  · exact .inl hf
  · rw [CachedFault.covers, sameBlock_blockWord (show 10 ≤ 20 by decide), sameBlock_iff] at hc
    exact .inr ⟨_, _, walk_translationSection_congr (Option.some.inj hwalk) hc⟩
  · rw [CachedFault.covers, sameBlock_blockWord (ten_le_descriptorBits k ms picks x), sameBlock_iff] at hc
    exact .inr ⟨_, walk_translationPage_congr (Option.some.inj hwalk) hc⟩
end

/-- What answers for an address of the faults remembered was so before, or a walk of that address faults. -/
theorem covers_of_mem_churn_cachedFaults {k : Ctx} {ms : MemSys} {f : CachedFault} {mva : Word}
    (h : f ∈ (churn k ms).cachedFaults) (hc : f.covers mva = true) :
    f ∈ ms.cachedFaults ∨ ∃ picks n s d, walk k ms (drainedAt n k ms) picks mva = .fault s d := by
  have hold : ((ms.dropUnlocked.spend 2).meanwhile k).cachedFaults = dropFaults (ms.draws + 2) ms.cachedFaults :=
    MemSys.meanwhile_cachedFaults ..
  have hbits : descriptorBits k (ms.dropUnlocked.spend 2) = descriptorBits k ms := rfl
  have hmem : f ∈ rememberFault (descriptorBits k ms (ms.dropUnlocked.drawn 1 >>> 1) (aheadMva ms)) (aheadMva ms)
      (foundAhead k ms) (dropFaults (ms.draws + 2) ms.cachedFaults) := by
    rw [← hold, ← hbits]
    exact h
  cases hfound : foundAhead k ms with
  | none =>
    rw [hfound] at hmem
    exact .inl (dropFaults_subset _ _ hmem)
  | some r =>
    rw [hfound, ← foundAhead_some hfound] at hmem
    obtain hf | ⟨s, d, hwalk⟩ := walk_fault_of_remembered hmem hc
    · exact .inl (dropFaults_subset _ _ hf)
    · exact .inr ⟨_, _, s, d, hwalk⟩

end Sys2Proof.Machine
end

section
/-! SUPPORT. The search of the TLB (R191), a miss (R192), and the lockdown part. -/

namespace Sys2Proof.Machine

open Sys2Proof.Claims

/-! The search, and a miss. -/

theorem lookup_miss {k : Cp15} {kind : AccessKind} {mva : Word} {ms : MemSys}
    (hlock : ∀ f ∈ ms.tlbLock.toList, f.covers mva = false) (hmain : ∀ f ∈ ms.tlbMain.toList, f.covers mva = false) :
    lookup k kind mva ms = .miss := by
  have hl : ms.tlbLock.toList.filter (fun f => f.covers mva) = [] :=
    List.filter_eq_nil_iff.2 fun f hf => Bool.eq_false_iff.1 (hlock f hf)
  have hm : ms.tlbMain.toList.filter (fun f => f.covers mva) = [] :=
    List.filter_eq_nil_iff.2 fun f hf => Bool.eq_false_iff.1 (hmain f hf)
  simp only [lookup, hl, hm, ite_self, List.append_nil]

/-- An entry that alone matches in the lockdown part is hit, where no match in the main part says otherwise (R191, D20). -/
theorem lookup_lock {k : Cp15} {kind : AccessKind} {mva : Word} {ms : MemSys} {e : TlbEntry} (he : e ∈ ms.tlbLock.toList)
    (hc : e.covers mva = true) (hlock : ∀ f ∈ ms.tlbLock.toList, f.covers mva = true → f = e)
    (hmain : ∀ f ∈ ms.tlbMain.toList, f.covers mva = true → f.view mva = e.view mva) : lookup k kind mva ms = .hit e := by
  have hmem : e ∈ ms.tlbLock.toList.filter fun f => f.covers mva := List.mem_filter.2 ⟨he, hc⟩
  have hall : ∀ f ∈ ms.tlbLock.toList.filter (fun f => f.covers mva), f = e := fun f hf =>
    hlock f (List.mem_filter.1 hf).1 (List.mem_filter.1 hf).2
  simp only [lookup]
  generalize ms.tlbLock.toList.filter (fun f => f.covers mva) = lock at hmem hall
  cases lock with
  | nil => cases hmem
  | cons x xs =>
    obtain rfl : x = e := hall x (by simp)
    refine if_pos (List.all_eq_true.2 fun f hf => beq_iff_eq.2 ?_)
    rcases List.mem_append.1 hf with hf | hf
    · rw [hall f (by simp [hf])]
    · split at hf
      · cases hf
      · exact hmain f (List.mem_filter.1 hf).1 (List.mem_filter.1 hf).2

theorem translate_of_hit {k : Ctx} {kind : AccessKind} {mva : Word} {ms : MemSys} {e : TlbEntry} (hp : k.pins.mmuRam = true)
    (h : lookup k.cp15 kind mva (churn k ms) = .hit e) : translate k kind mva ms = useEntry k kind mva e (churn k ms) := by
  simp only [translate, hp, h, Bool.true_eq_false, if_false]

theorem translate_of_miss {k : Ctx} {kind : AccessKind} {mva : Word} {ms : MemSys} (hp : k.pins.mmuRam = true)
    (h : lookup k.cp15 kind mva (churn k ms) = .miss) : translate k kind mva ms = missEntry k kind mva (churn k ms) := by
  simp only [translate, hp, h, Bool.true_eq_false, if_false]

theorem missEntry_walk {k : Ctx} {kind : AccessKind} {mva : Word} {ms : MemSys} {e : TlbEntry}
    (hforced : missForced k.cp15 kind = false) (hfaults : ∀ f ∈ ms.cachedFaults, f.covers mva = false)
    (hwalk : walk k ms ((ms.spend 1).meanwhile k) (ms.drawn 0) mva = .entry e) :
    missEntry k kind mva ms =
      useEntry k kind mva e
        (install k kind ((ms.drawn 0).extractLsb' 2 6) e (((ms.spend 1).meanwhile k).meanwhile k)) := by
  have hnone : ms.cachedFaults.find? (fun f => f.covers mva) = none :=
    List.find?_eq_none.2 fun f hf => Bool.eq_false_iff.1 (hfaults f hf)
  simp only [missEntry, hforced, hnone, hwalk, ite_self, Bool.false_eq_true, if_false]

/-- With the preserve bit set a walked entry goes into the lockdown part at the victim, which moves on (R192). -/
theorem install_preserve {k : Ctx} {kind : AccessKind} {place : BitVec 6} {e : TlbEntry} {ms : MemSys}
    (h : ms.preserve = true) :
    install k kind place e ms =
      { ms with tlbLock := ms.tlbLock.set ms.victim.toNat e ms.victim.isLt, victim := ms.victim + 1#3 } :=
  if_pos h

/-- The walk of a miss reads the tables as the drains before each of its reads leave them. -/
theorem walk_churn (k : Ctx) (ms : MemSys) (picks mva : Word) :
    ∃ n m, walk k (churn k ms) (((churn k ms).spend 1).meanwhile k) picks mva =
      walk k (drainedAt n k ms) (drainedAt m k (drainedAt n k ms)) picks mva := by
  have hlater := MemSys.meanwhile_withTlb k ((drainedAt (churnDraws ms) k ms).spend 1) (churn k ms)
  have hspend : (churn k ms).spend 1 = ((drainedAt (churnDraws ms) k ms).spend 1).withTlb (churn k ms) :=
    congrArg (MemSys.spend · 1) (churn_eq k ms)
  refine ⟨churnDraws ms, (drainedAt (churnDraws ms) k ms).draws + 1, ?_⟩
  rw [hspend, hlater, churn_eq]
  exact walk_withTlb ..

/-! The steps of a translation. -/

theorem TranslationStep.refl (ms : MemSys) : TranslationStep ms ms := ⟨.refl _ ms, List.Sublist.refl _⟩

/-- The TLB is a translation's own, but for the preserve bit. -/
theorem TranslationStep.withTlb {a b : MemSys} (h : TranslationStep a b) {tlb : MemSys} (hp : tlb.preserve = a.preserve) :
    TranslationStep a (b.withTlb tlb) := by
  obtain ⟨hk, ho⟩ := h
  refine ⟨⟨?_, hk.wf, hk.itcm, hk.dtcm, hk.dcache, hk.bus⟩, ho⟩
  rw [MemSys.withTlb, hp, hk.frame]

theorem TranslationStep.drainedAt (n : Nat) (k : Ctx) (ms : MemSys) : TranslationStep ms (drainedAt n k ms) :=
  have ⟨hk, ho⟩ := TranslationStep.meanwhile k { ms with draws := n }
  ⟨⟨hk.frame, hk.wf, hk.itcm, hk.dtcm, hk.dcache, hk.bus⟩, ho⟩

theorem TranslationStep.churn (k : Ctx) (ms : MemSys) : TranslationStep ms (churn k ms) := by
  rw [churn_eq]
  exact (drainedAt _ k ms).withTlb (churn_preserve k ms)

theorem TranslationStep.spend (n : Nat) (ms : MemSys) : TranslationStep ms (ms.spend n) :=
  have ⟨hk, ho⟩ := refl ms
  ⟨⟨rfl, hk.wf, hk.itcm, hk.dtcm, hk.dcache, hk.bus⟩, ho⟩

/-- An entry put into the TLB changes nothing beside it, nor the preserve bit. -/
theorem install_eq_withTlb (k : Ctx) (kind : AccessKind) (place : BitVec 6) (e : TlbEntry) (ms : MemSys) :
    install k kind place e ms = ms.withTlb (install k kind place e ms) ∧
      (install k kind place e ms).preserve = ms.preserve := by
  unfold install
  split
  · exact ⟨rfl, rfl⟩
  · split <;> exact ⟨rfl, rfl⟩

theorem TranslationStep.install (k : Ctx) (kind : AccessKind) (place : BitVec 6) (e : TlbEntry) (ms : MemSys) :
    TranslationStep ms (install k kind place e ms) := by
  obtain ⟨heq, hp⟩ := install_eq_withTlb k kind place e ms
  rw [heq]
  exact (refl ms).withTlb hp

/-- With the preserve bit set a miss whose walk succeeds writes the lockdown part at the victim. -/
theorem missEntry_preserve {k : Ctx} {kind : AccessKind} {mva : Word} {ms : MemSys} {e : TlbEntry} (hpre : ms.preserve = true)
    (hforced : missForced k.cp15 kind = false) (hfaults : ∀ f ∈ ms.cachedFaults, f.covers mva = false)
    (hwalk : walk k ms ((ms.spend 1).meanwhile k) (ms.drawn 0) mva = .entry e) :
    ∃ ms', missEntry k kind mva ms = useEntry k kind mva e ms' ∧
      ms'.tlbLock = ms.tlbLock.set ms.victim.toNat e ms.victim.isLt ∧ ms'.victim = ms.victim + 1#3 ∧ ms'.preserve = true ∧
      TranslationStep ms ms' := by
  have hp : (((ms.spend 1).meanwhile k).meanwhile k).preserve = true := by simpa using hpre
  have hstep := (((TranslationStep.spend 1 ms).trans (.meanwhile k _)).trans (.meanwhile k _)).trans
    (.install k kind ((ms.drawn 0).extractLsb' 2 6) e _)
  rw [missEntry_walk hforced hfaults hwalk]
  rw [install_preserve hp] at hstep ⊢
  exact ⟨_, rfl, by simp, by simp, hp, hstep⟩

/-! What the search finds once the hardware has done by itself what it does. -/

/-- With the preserve bit set the hardware by itself brings no entry, so an address that no entry matches misses. -/
theorem lookup_churn_miss {k : Ctx} {kind : AccessKind} {mva : Word} {ms : MemSys} (hpre : ms.preserve = true)
    (hlock : ∀ f ∈ ms.tlbLock.toList, f.covers mva = false) (hmain : ∀ f ∈ ms.tlbMain.toList, f.covers mva = false) :
    lookup k.cp15 kind mva (churn k ms) = .miss := by
  refine lookup_miss (by simpa using hlock) fun f hf => Bool.eq_false_iff.2 fun hc => ?_
  obtain hold | ⟨hp0, _⟩ := mem_of_mem_churn_tlbMain hf (TlbEntry.valid_of_covers hc)
  · simp [hmain f hold] at hc
  · simp [hpre] at hp0

/-- Where the walks of an address find entries, the hardware by itself comes to remember no fault that answers for it. -/
theorem churn_noFault {k : Ctx} {mva : Word} {ms : MemSys} (hfaults : ms.cachedFaults = [])
    (hahead : ∀ picks n, ∃ f, walk k ms (drainedAt n k ms) picks mva = .entry f) :
    ∀ f ∈ (churn k ms).cachedFaults, f.covers mva = false := by
  refine fun f hf => Bool.eq_false_iff.2 fun hc => ?_
  obtain hold | ⟨picks, n, s, d, hfault⟩ := covers_of_mem_churn_cachedFaults hf hc
  · simp [hfaults] at hold
  · obtain ⟨g, hentry⟩ := hahead picks n
    cases hentry.symm.trans hfault

/-- An entry alone in matching, in the lockdown part, is hit, where the entries that a walk can bring agree with it. -/
theorem lookup_churn_lock {k : Ctx} {kind : AccessKind} {mva : Word} {n : Fin 8} {ms : MemSys}
    (hcovers : (ms.tlbLock.get n).covers mva = true) (halone : ∀ j, j ≠ n → (ms.tlbLock.get j).covers mva = false)
    (hmain : ∀ f ∈ ms.tlbMain.toList, f.covers mva = false)
    (hagree : ∀ picks m j e, walk k ms (drainedAt j k ms) picks m = .entry e → e.covers mva = true →
      e.view mva = (ms.tlbLock.get n).view mva) :
    lookup k.cp15 kind mva (churn k ms) = .hit (ms.tlbLock.get n) := by
  refine lookup_lock (by simp [Vector.get]) hcovers (fun f hf hc => ?_) fun f hf hc => ?_
  · rw [churn_tlbLock, Vector.mem_toList_iff] at hf
    obtain ⟨j, hj, rfl⟩ := Vector.mem_iff_getElem.1 hf
    by_contra hne
    have hother : (ms.tlbLock.get ⟨j, hj⟩).covers mva = false := halone ⟨j, hj⟩ fun h => hne (h ▸ rfl)
    exact absurd (hother.symm.trans hc) Bool.false_ne_true
  · obtain hold | ⟨_, hfound⟩ := mem_of_mem_churn_tlbMain hf (TlbEntry.valid_of_covers hc)
    · simp [hmain f hold] at hc
    · exact hagree _ _ _ _ (foundAhead_some hfound) hc

/-- Settles O60. With P = 1 what the hardware does by itself brings no entry and no fault for the address, so it misses and is
walked. A lockdown entry can meet in the main part only what a walk ahead brought, which agrees with it. -/
theorem lockdownTlb : Obligations.LockdownTlb := by
  refine ⟨fun k kind mva e ms hram hpre hforced hfaults hlock hmain hahead hwalk => ?_,
    fun k kind mva n ms hram hcovers halone hmain hagree => ?_⟩
  · obtain ⟨n, m, htables⟩ := walk_churn k ms ((churn k ms).drawn 0) mva
    obtain ⟨ms', hmiss, hl, hv, hp, hstep⟩ := missEntry_preserve (kind := kind) (by simpa using hpre) hforced
      (churn_noFault hfaults hahead) (htables.trans (hwalk _ n m))
    exact ⟨ms', (translate_of_miss hram (lookup_churn_miss hpre hlock hmain)).trans hmiss, by simpa using hl, by simpa using hv,
      hp, ((TranslationStep.churn k ms).trans hstep).onlyTranslated⟩
  · exact ⟨churn k ms, translate_of_hit hram (lookup_churn_lock hcovers halone hmain hagree), churn_tlbLock k ms,
      churn_victim k ms, (TranslationStep.churn k ms).onlyTranslated⟩

end Sys2Proof.Machine
end

section
/-! SUPPORT. The instructions that take the Undefined exception in every mode, and the CP15 transfers that take it in User mode (R257,
R258, R514). -/

namespace Sys2Proof.Machine

open Sys2Proof.Claims

theorem takeUndefined_link (s : State) : (takeUndefined s).bankReg 0b11011#5 14 = s.cpu.pc + 4#32 :=
  (takeException_get .undefined _ s (physReg 0b11011#5 14)).trans (if_pos rfl)

theorem takeUndefined_spsr (s : State) : (takeUndefined s).cpu.spsr.get 4 = s.cpu.cpsr :=
  (takeException_spsr_get .undefined _ s 4).trans (if_pos rfl)

/-- The meaning of each of these words is the exception, under the condition. -/
theorem exec_undefinedEverywhere {i : Instr} {s : State} (h : undefinedEverywhere i = true) (hp : passes i s) :
    exec i s = .next (takeUndefined s) := by
  unfold exec
  cases i with
  | cdpCp15 | mcrrCp15 | mrrcCp15 | ldcCp15 | stcCp15 | udf => exact State.conditionally_passed (hp _ rfl)
  | _ => cases h

/-- Settles O18: each clause is what the exception does to that field. -/
theorem undefinedInstructionsTrap : Obligations.UndefinedInstructionsTrap := fun _ s h hp =>
  ⟨takeUndefined s, exec_undefinedEverywhere h hp, rfl, takeUndefined_link s, takeUndefined_spsr s, rfl, rfl, rfl⟩

/-! In User mode no shape of transfer with CP15 gets further than the test of the mode (R258). -/

section
variable {c : Cond} {rd : RegNum} {s : State} (hc : conditionPassed c s.cpu.cpsr = true) (hm : s.privileged = false)
include hc hm

theorem cp15Read_user {value : State → Word} : cp15Read c rd value s = .next (takeUndefined s) :=
  cp15Access_user hc hm

theorem cp15ReadFree_user {value : State → Word → Word} : cp15ReadFree c rd value s = .next (takeUndefined s) :=
  cp15Access_user hc hm

theorem cp15ReadNoted_user {value : State → Word → Word} {note : Word → LastRead → LastRead} :
    cp15ReadNoted c rd value note s = .next (takeUndefined s) :=
  cp15Access_user hc hm

theorem cp15Write_user {r : Reserved} {read : LastRead → List Word} {write : Word → State → State} :
    cp15Write c rd r read write s = .next (takeUndefined s) :=
  cp15Access_user hc hm

theorem cp15WriteZeros_user {sbz : Word} {write : Word → State → State} :
    cp15WriteZeros c rd sbz write s = .next (takeUndefined s) :=
  cp15Write_user hc hm

theorem writeTcmRegions_user {read : LastRead → List Word} {f : Word → Cp15 → Cp15} :
    writeTcmRegions read f c rd s = .next (takeUndefined s) :=
  cp15Access_user hc hm

theorem cacheOperation_user {op : Word → State → MemSys → MemSys} : cacheOperation c rd op s = .next (takeUndefined s) :=
  cp15Access_user hc hm

theorem testAndClean_user {invalidate : Bool} : testAndClean invalidate c rd s = .next (takeUndefined s) :=
  cp15Access_user hc hm

theorem execMcrPrefetchICacheLine_user : execMcrPrefetchICacheLine c rd s = .next (takeUndefined s) :=
  cp15Access_user hc hm

theorem drainOperation_user {op : State → State} : drainOperation c rd op s = .next (takeUndefined s) :=
  cp15Access_user hc hm

theorem tlbWrite_user {r : Reserved} {op : Word → State → State} : tlbWrite r c rd op s = .next (takeUndefined s) :=
  cp15Access_user hc hm

theorem tlbOperation_user {op : Word → State → MemSys → MemSys} : tlbOperation c rd op s = .next (takeUndefined s) :=
  tlbWrite_user hc hm

theorem tlbInvalidateAll_user : tlbInvalidateAll c rd s = .next (takeUndefined s) :=
  tlbWrite_user hc hm

theorem tlbRead_user {value : State → Word} : tlbRead c rd value s = .next (takeUndefined s) :=
  cp15Access_user hc hm

end

/-- In User mode every transfer with CP15 is Undefined (R258). -/
theorem exec_cp15Transfer_user {i : Instr} {s : State} (h : isCp15Transfer i = true) (hp : passes i s)
    (hm : s.privileged = false) : exec i s = .next (takeUndefined s) := by
  unfold exec
  cases i with
  | mrcId | mrcCacheType | mrcTcmStatus | mrcIdAlias3 | mrcIdAlias4 | mrcIdAlias5 | mrcIdAlias6 | mrcIdAlias7
  | mrcDacr | mrcFar | mrcFcsePid | mrcContextId | mrcDebugTestAddress =>
    exact cp15Read_user (hp _ rfl) hm
  | mrcTtbr | mrcDebugOverride | mrcMemoryRegionRemap | mrcTraceControl | mrcCacheDebugControl
  | mrcMmuDebugControl => exact cp15ReadFree_user (hp _ rfl) hm
  | mrcControl | mrcDfsr | mrcIfsr | mrcDCacheLockdown | mrcICacheLockdown | mrcDTcmRegion | mrcITcmRegion
  | mrcTlbLockdown => exact cp15ReadNoted_user (hp _ rfl) hm
  | mcrControl | mcrDfsr | mcrIfsr | mcrDCacheLockdown | mcrICacheLockdown | mcrTlbLockdown =>
    exact cp15Write_user (hp _ rfl) hm
  | mcrTtbr | mcrDacr | mcrFar | mcrFcsePid | mcrContextId | mcrDebugOverride | mcrDebugTestAddress
  | mcrMemoryRegionRemap | mcrTraceControl | mcrCacheDebugControl | mcrMmuDebugControl =>
    exact cp15WriteZeros_user (hp _ rfl) hm
  | mcrDTcmRegion | mcrITcmRegion => exact writeTcmRegions_user (hp _ rfl) hm
  | mcrWaitForInterrupt | mcrDrainWriteBuffer => exact drainOperation_user (hp _ rfl) hm
  | mcrInvalidateICache | mcrInvalidateICacheMva | mcrInvalidateICacheSetWay | mcrInvalidateDCache
  | mcrInvalidateDCacheMva | mcrInvalidateDCacheSetWay | mcrInvalidateCaches | mcrCleanDCacheMva | mcrCleanDCacheSetWay
  | mcrCleanInvalidateDCacheMva | mcrCleanInvalidateDCacheSetWay =>
    exact cacheOperation_user (hp _ rfl) hm
  | mrcTestClean | mrcTestCleanInvalidate => exact testAndClean_user (hp _ rfl) hm
  | mcrInvalidateTlb | mcrInvalidateITlb | mcrInvalidateDTlb =>
    exact tlbInvalidateAll_user (hp _ rfl) hm
  | mcrInvalidateTlbEntry | mcrInvalidateITlbEntry | mcrInvalidateDTlbEntry | mcrMainTlbTransfer4 | mcrLockTlbTransfer4
  | mcrMainTlbTransfer5 | mcrLockTlbTransfer5 => exact tlbOperation_user (hp _ rfl) hm
  | mrcMainTlbTag4 | mrcMainTlbPa4 | mrcLockTlbTag4 | mrcLockTlbPa4 | mrcMainTlbTag5 | mrcMainTlbPa5 | mrcLockTlbTag5
  | mrcLockTlbPa5 => exact tlbRead_user (hp _ rfl) hm
  | mcrMainTlbTag4 | mcrMainTlbPa4 | mcrLockTlbTag4 | mcrLockTlbPa4 | mcrMainTlbTag5 | mcrMainTlbPa5 | mcrLockTlbTag5
  | mcrLockTlbPa5 => exact tlbWrite_user (hp _ rfl) hm
  | mcrPrefetchICacheLine => exact execMcrPrefetchICacheLine_user (hp _ rfl) hm
  | cp15WriteC0 | cp15AccessC4 | cp15AccessC11 | cp15AccessC12 | cp15AccessC14 | cp15ReadC8
  | cp15Other => exact cp15Access_user (hp _ rfl) hm
  | _ => cases h

/-- What an access that the spec does not define does in a privileged mode is to stop. -/
theorem exec_undefinedCp15Access {i : Instr} {s : State} (h : undefinedCp15Access i = true) (hp : passes i s)
    (hm : s.privileged = true) : exec i s = .refused .unpredictableCp15 := by
  unfold exec
  cases i with
  | cp15WriteC0 | cp15AccessC4 | cp15AccessC11 | cp15AccessC12 | cp15AccessC14 | cp15ReadC8 | cp15Other =>
    exact cp15Access_privileged (hp _ rfl) hm
  | _ => cases h

/-- Settles O41: the test of the mode that every CP15 transfer begins with. -/
theorem cp15TransfersTrapInUserMode : Obligations.Cp15TransfersTrapInUserMode := by
  refine ⟨fun i s h hp hm => ?_, fun i s h hp hm => exec_undefinedCp15Access h hp (State.privileged_of_mode hm)⟩
  have hu : s.privileged = false := bne_eq_false_iff_eq.2 hm
  exact ⟨takeUndefined s, exec_cp15Transfer_user h hp hu, rfl, rfl, rfl, takeUndefined_link s⟩

end Sys2Proof.Machine
end

section
/-! SUPPORT. The handshake with the external coprocessors (R451, R452, R458, R459, R465, R468). -/

namespace Sys2Proof.Machine

open Sys2Proof.Claims

/-! The answers to a handshake. -/

/-- With nobody to answer the instruction is Undefined. -/
theorem handshake_nobody {cp : BitVec 4} {s : State} (go : List Word → State → Result) (h14 : cp ≠ 14#4)
    (hp : coprocessorPresent s cp = false) : handshake cp s go = .next (takeUndefined s) := by
  simp [handshake, h14, hp]

theorem handshake_waits {cp : BitVec 4} {s : State} {later : List (List CpDrive)} (go : List Word → State → Result)
    (h14 : cp ≠ 14#4) (hp : coprocessorPresent s cp = true) (hr : cpReply s.cpAnswers = .waits later) :
    handshake cp s go = .next (s.busyWaits later) := by
  simp [handshake, h14, hp, hr]

theorem handshake_absent {cp : BitVec 4} {s : State} {later : List (List CpDrive)} (go : List Word → State → Result)
    (h14 : cp ≠ 14#4) (hp : coprocessorPresent s cp = true) (hr : cpReply s.cpAnswers = .absent later) :
    handshake cp s go = .next (takeUndefined (s.withAnswers later)) := by
  simp [handshake, h14, hp, hr]

theorem cpReply_wait {ds : List CpDrive} (rest : List (List CpDrive)) (h : (combineDrives ds).chs = 0b00#2) :
    cpReply (ds :: rest) = .waits rest := by
  simp [cpReply, cpState, h]

theorem cpReply_absent {ds : List CpDrive} (rest : List (List CpDrive)) (h : (combineDrives ds).chs = 0b10#2) :
    cpReply (ds :: rest) = .absent rest := by
  simp [cpReply, cpState, h]

/-- A busy-wait before any answer leaves CPBURST as it was. -/
theorem State.busyWaits_nothing {s : State} (h : s.cpAnswers = []) :
    s.busyWaits [] = { s with cpAnswers := [], executed := false, cpPins := { s.cpPins with waiting := true } } := by
  simp [State.busyWaits, State.cpburst, h]

/-- CPBURST of the first answer is kept while the instruction busy-waits. -/
theorem State.cpburst_cons {s : State} {ds : List CpDrive} {rest : List (List CpDrive)} (h : s.cpAnswers = ds :: rest) :
    s.cpburst = some (s.cpPins.burst.getD (combineDrives ds).cpburst) := by
  cases hb : s.cpPins.burst <;> simp [State.cpburst, h, hb]

/-! The instructions for external coprocessors. -/

/-- P = U = N = W = 0 is not the mode of a two-register word. -/
theorem notTwoRegister_of_undefinedMode {a : CoprocMode} (h : undefinedMode a = true) : a.notTwoRegister = true := by
  revert h
  obtain ⟨p, u, n, w⟩ := a
  revert p u n w
  decide

theorem extLdc_undefined {a : CoprocMode} {rn : RegNum} {cp : BitVec 4} {instr : BitVec 28} {imm8 : BitVec 8} {s : State}
    (h : undefinedMode a = true) : extLdc a rn cp instr imm8 s = .next (takeUndefined s) := if_pos h

theorem extStc_undefined {a : CoprocMode} {rn : RegNum} {cp : BitVec 4} {instr : BitVec 28} {imm8 : BitVec 8} {s : State}
    (h : undefinedMode a = true) : extStc a rn cp instr imm8 s = .next (takeUndefined s) := if_pos h

/-- Outside CP15 an unconditional word is Undefined or a handshake. -/
theorem execCoprocUnconditional_handshake {top : BitVec 2} {mid : BitVec 12} {cp : BitVec 4} (low : BitVec 8) (s : State)
    (h15 : cp ≠ 15#4) (hmode : ¬(top.getLsbD 1 = false ∧ undefinedMode (unconditionalMode top mid) = true)) :
    ∃ go, execCoprocUnconditional top mid cp low s = handshake cp s go := by
  have hdef (ht : ¬top.getLsbD 1 = true) : ¬undefinedMode (unconditionalMode top mid) = true :=
    fun hm => hmode ⟨Bool.eq_false_iff.2 ht, hm⟩
  simp only [execCoprocUnconditional, if_neg h15]
  split
  · split
    · split
      · exact ⟨_, rfl⟩
      · exact ⟨_, rfl⟩
    · exact ⟨_, rfl⟩
  · next ht =>
    split
    · split
      · exact ⟨_, if_neg (hdef ht)⟩
      · exact ⟨_, if_neg (hdef ht)⟩
    · split
      · exact ⟨_, rfl⟩
      · exact ⟨_, rfl⟩

/-- Every instruction for an external coprocessor is a handshake with it. -/
theorem exec_external {i : Instr} {cp : BitVec 4} {s : State} (h : externalNumber i = some cp) (hp : passes i s)
    (h15 : cp ≠ 15#4) : ∃ go, exec i s = handshake cp s go := by
  unfold exec
  cases i with
  | mcrrExt | mrrcExt | cdpExt | mcrExt | mrcExt =>
    cases h
    exact ⟨_, State.conditionally_passed (hp _ rfl)⟩
  | ldcExt | stcExt =>
    obtain ⟨hu, he⟩ := Option.ite_none_left_eq_some.1 h
    cases he
    exact ⟨_, (State.conditionally_passed (hp _ rfl)).trans (if_neg hu)⟩
  | coprocUnconditional top mid cp low =>
    obtain ⟨hu, he⟩ := Option.ite_none_left_eq_some.1 h
    cases he
    exact execCoprocUnconditional_handshake low s h15 hu
  | _ => cases h

theorem execCoprocUnconditional_cp15 {top : BitVec 2} {mid : BitVec 12} {low : BitVec 8} (s : State) :
    execCoprocUnconditional top mid 15#4 low s = .refused .cp15Unconditional := by
  simp only [execCoprocUnconditional, if_true]

/-- Of the instructions with coprocessor number 15 only the unconditional words count as external ones, and they stop (D2). -/
theorem exec_external_cp15 {i : Instr} (s : State) (h : externalNumber i = some 15#4) (hw : i.wellFormed = true) :
    exec i s = .refused .cp15Unconditional := by
  unfold exec
  cases i with
  | mcrrExt | mrrcExt | cdpExt | mcrExt | mrcExt =>
    cases h
    cases hw
  | ldcExt | stcExt =>
    cases (Option.ite_none_left_eq_some.1 h).2
    cases hw
  | coprocUnconditional =>
    cases (Option.ite_none_left_eq_some.1 h).2
    exact execCoprocUnconditional_cp15 s
  | _ => cases h

/-- An unconditional LDC or STC word with P = U = N = W = 0 is Undefined (R261). -/
theorem execCoprocUnconditional_undefined {mid : BitVec 12} {cp : BitVec 4} (low : BitVec 8) (s : State)
    (hm : mid.extractLsb' 9 3 = 0#3) (h15 : cp ≠ 15#4) :
    execCoprocUnconditional 0#2 mid cp low s = .next (takeUndefined s) := by
  have bit (j : Nat) (hj : j < 3) : mid.getLsbD (9 + j) = false := by
    simpa [hj] using congrArg (fun x : BitVec 3 => x.getLsbD j) hm
  have hmode : undefinedMode (unconditionalMode 0#2 mid) = true := by
    simp only [undefinedMode, unconditionalMode, bit 0 (by omega), bit 1 (by omega), bit 2 (by omega)]
    rfl
  simp only [execCoprocUnconditional, if_neg h15, notTwoRegister_of_undefinedMode hmode, if_true, extLdc_undefined hmode,
    extStc_undefined hmode, ite_self]
  rfl

/-! Several coprocessors. -/

theorem getLsbD_foldr_or {w : Nat} (f : CpDrive → BitVec w) (ds : List CpDrive) (j : Nat) :
    (ds.foldr (fun d v => f d ||| v) 0#w).getLsbD j = ds.any fun d => (f d).getLsbD j := by
  induction ds with
  | nil => simp
  | cons d ds ih => simp [ih]

theorem combineDrives_chs_top (ds : List CpDrive) :
    (combineDrives ds).chs.getLsbD 1 = ds.all fun d => d.chs.getLsbD 1 := by
  rw [combineDrives, combineHandshakes, BitVec.getLsbD_append]
  simp [Function.comp_def]

theorem combineDrives_chs_bottom (ds : List CpDrive) :
    (combineDrives ds).chs.getLsbD 0 = ds.any fun d => d.chs.getLsbD 0 := by
  rw [combineDrives, combineHandshakes, BitVec.getLsbD_append]
  simp [Function.comp_def]

/-- GO to LAST transfers one word in each cycle (R459). -/
theorem cpTransfers_go_last {gos rest : List (List CpDrive)} {last : List CpDrive}
    (hgo : ∀ ds ∈ gos, (combineDrives ds).chs = 0b01#2) (hlast : (combineDrives last).chs = 0b11#2) :
    cpTransfers (gos ++ last :: rest) = some ((gos ++ [last]).map fun ds => (combineDrives ds).cpdin, rest) := by
  induction gos with
  | nil => simp [cpTransfers, cpState, hlast]
  | cons ds gos ih =>
    obtain ⟨hds, hgos⟩ := List.forall_mem_cons.1 hgo
    simp [cpTransfers, cpState, hds, ih hgos]

theorem cpReply_go_last {gos rest : List (List CpDrive)} {last : List CpDrive}
    (hgo : ∀ ds ∈ gos, (combineDrives ds).chs = 0b01#2) (hlast : (combineDrives last).chs = 0b11#2) :
    cpReply (gos ++ last :: rest) = .accepts ((gos ++ [last]).map fun ds => (combineDrives ds).cpdin) rest := by
  have ht := cpTransfers_go_last (rest := rest) hgo hlast
  cases gos with
  | nil =>
    rw [List.nil_append] at ht ⊢
    simp [cpReply, cpState, hlast, ht]
  | cons ds gos =>
    rw [List.cons_append] at ht ⊢
    simp [cpReply, cpState, hgo ds List.mem_cons_self, ht]

/-- Settles O52: each instruction is the handshake with its coprocessor, the handshake goes by the answer, and the answers combine bit
by bit. -/
theorem externalCoprocessorHandshake : Obligations.ExternalCoprocessorHandshake := by
  refine ⟨fun i cp s h hp hw => ⟨fun h14 h15 hn => ?_, fun h15 h14 hy => ?_, fun h14 => ?_, fun h15 => ?_⟩,
    fun c a rn crd cp imm8 s hc hap hau han haw i hi => ?_,
    fun mid cp low s hm h15 => execCoprocUnconditional_undefined low s hm h15,
    fun ds => ⟨combineDrives_chs_top ds, combineDrives_chs_bottom ds, getLsbD_foldr_or _ ds, getLsbD_foldr_or _ ds⟩,
    fun gos rest last => cpReply_go_last⟩
  · obtain ⟨go, he⟩ := exec_external h hp h15
    exact he.trans (handshake_nobody go h14 hn)
  · obtain ⟨go, he⟩ := exec_external h hp h15
    rw [he]
    refine ⟨fun ha => ?_, fun ds rest ha hc => ?_, fun ds rest ha hc => ?_⟩
    · rw [handshake_waits go h14 hy (by rw [ha]; rfl), State.busyWaits_nothing ha]
    · rw [handshake_waits go h14 hy (ha ▸ cpReply_wait rest hc), State.busyWaits, State.cpburst_cons ha]
    · exact handshake_absent go h14 hy (ha ▸ cpReply_absent rest hc)
  · subst h14
    obtain ⟨go, he⟩ := exec_external h hp (by decide)
    exact he.trans (if_pos rfl)
  · subst h15
    exact exec_external_cp15 s h hw
  · have hmode : undefinedMode a = true := by simp [undefinedMode, hap, hau, han, haw]
    rcases List.mem_pair.1 hi with rfl | rfl
    · exact (State.conditionally_passed hc).trans (extLdc_undefined hmode)
    · exact (State.conditionally_passed hc).trans (extStc_undefined hmode)

end Sys2Proof.Machine
end


section
/-! SUPPORT. The codes of the fields, and the fields of the words that the encoder builds (R252, R253, R482, R504, R506, R507). -/

namespace Sys2Proof

/-! The codes. -/

@[simp] theorem condOf_bits (c : Cond) : condOf c.bits = some c := by cases c <;> rfl

theorem bits_of_condOf {b : BitVec 4} {c : Cond} (h : condOf b = some c) : c.bits = b := by
  simpa using List.find?_some h

theorem eq_of_condOf_none {b : BitVec 4} (h : condOf b = none) : b = 15#4 := by
  revert b
  decide

@[simp] theorem shiftKindOf_bits (k : ShiftKind) : shiftKindOf k.bits = k := by cases k <;> rfl

@[simp] theorem bits_shiftKindOf (b : BitVec 2) : (shiftKindOf b).bits = b := by
  revert b
  decide

@[simp] theorem regOf_regBits (r : RegNum) : regOf (regBits r) = r := rfl

@[simp] theorem regBits_regOf (b : BitVec 4) : regBits (regOf b) = b := rfl

@[simp] theorem regBits_rnOf (w : Word) : regBits (rnOf w) = field w 16 4 := rfl

@[simp] theorem regBits_rdOf (w : Word) : regBits (rdOf w) = field w 12 4 := rfl

@[simp] theorem regBits_rmOf (w : Word) : regBits (rmOf w) = field w 0 4 := rfl

/-! Neighbouring fields. -/

theorem ofBool_flag (w : Word) (i : Nat) : BitVec.ofBool (flag w i) = field w i 1 := by
  refine BitVec.eq_of_getLsbD_eq fun j hj => ?_
  obtain rfl : j = 0 := by omega
  simp [flag, field]

theorem field_append {w : Word} {a b n k : Nat} (h : b = a + k) : field w b n ++ field w a k = field w a (n + k) :=
  BitVec.extractLsb'_append_extractLsb'_eq_extractLsb' h

theorem field_all (w : Word) : field w 0 32 = w := BitVec.extractLsb'_eq_self

/-! A word with a condition, Rn, Rd and twelve low bits. -/

section
variable (c : Cond) (hi : BitVec 8) (rn rd : BitVec 4) (lo : BitVec 12)

@[simp] theorem field_encodeStandard_cond : field (encodeStandard c hi rn rd lo) 28 4 = c.bits := by
  simp (disch := decide) only [field, encodeStandard, BitVec.extractLsb'_append_eq_of_le, Nat.reduceSub,
    BitVec.extractLsb'_eq_self]

@[simp] theorem field_encodeStandard_rn : field (encodeStandard c hi rn rd lo) 16 4 = rn := by
  simp (disch := decide) only [field, encodeStandard, BitVec.extractLsb'_append_eq_of_le,
    BitVec.extractLsb'_append_eq_of_add_le, Nat.reduceSub, BitVec.extractLsb'_eq_self]

@[simp] theorem field_encodeStandard_rd : field (encodeStandard c hi rn rd lo) 12 4 = rd := by
  simp (disch := decide) only [field, encodeStandard, BitVec.extractLsb'_append_eq_of_le,
    BitVec.extractLsb'_append_eq_of_add_le, Nat.reduceSub, BitVec.extractLsb'_eq_self]

@[simp] theorem field_encodeStandard_hi {a k : Nat} (h : 20 ≤ a) (h' : a + k ≤ 28) :
    field (encodeStandard c hi rn rd lo) a k = hi.extractLsb' (a - 20) k := by
  rw [field, encodeStandard, BitVec.extractLsb'_append_eq_of_le (by omega), BitVec.extractLsb'_append_eq_of_le (by omega),
    BitVec.extractLsb'_append_eq_of_le (by omega), BitVec.extractLsb'_append_eq_of_add_le (by omega), Nat.sub_sub,
    Nat.sub_sub]

@[simp] theorem field_encodeStandard_lo {a k : Nat} (h : a + k ≤ 12) :
    field (encodeStandard c hi rn rd lo) a k = lo.extractLsb' a k :=
  BitVec.extractLsb'_append_eq_of_add_le h

@[simp] theorem flag_encodeStandard_hi {a : Nat} (h : 20 ≤ a) (h' : a < 28) :
    flag (encodeStandard c hi rn rd lo) a = hi.getLsbD (a - 20) := by
  rw [flag, encodeStandard, BitVec.getLsbD_append, BitVec.getLsbD_append, BitVec.getLsbD_append, BitVec.getLsbD_append,
    if_neg (by omega), if_neg (by omega), if_neg (by omega), if_pos (by omega), Nat.sub_sub, Nat.sub_sub]

@[simp] theorem flag_encodeStandard_lo {a : Nat} (h : a < 12) :
    flag (encodeStandard c hi rn rd lo) a = lo.getLsbD a := by
  rw [flag, encodeStandard, BitVec.getLsbD_append, if_pos h]

@[simp] theorem rnOf_encodeStandard : rnOf (encodeStandard c hi rn rd lo) = regOf rn :=
  congrArg regOf (field_encodeStandard_rn c hi rn rd lo)

@[simp] theorem rdOf_encodeStandard : rdOf (encodeStandard c hi rn rd lo) = regOf rd :=
  congrArg regOf (field_encodeStandard_rd c hi rn rd lo)

@[simp] theorem rmOf_encodeStandard : rmOf (encodeStandard c hi rn rd lo) = regOf (lo.extractLsb' 0 4) :=
  congrArg regOf (field_encodeStandard_lo c hi rn rd lo (by decide))

end

/-- A word with a condition is put together from its fields. -/
theorem encodeStandard_fields {w : Word} {c : Cond} (hc : field w 28 4 = c.bits) :
    encodeStandard c (field w 20 8) (field w 16 4) (field w 12 4) (field w 0 12) = w := by
  simp (disch := decide) only [encodeStandard, ← hc, field_append]
  exact field_all w

/-! Bits [27:20]. -/

@[simp] theorem dpHi_class (i : Bool) (k : BitVec 4) (s : Bool) : (dpHi i k s).extractLsb' 5 3 = if i then 1#3 else 0#3 := by
  cases i <;> cases s <;> decide +revert

@[simp] theorem dpHi_opcode (i : Bool) (k : BitVec 4) (s : Bool) : (dpHi i k s).extractLsb' 1 4 = k := by
  cases i <;> cases s <;> decide +revert

@[simp] theorem dpHi_s (i : Bool) (k : BitVec 4) (s : Bool) : (dpHi i k s)[0] = s := by
  cases i <;> cases s <;> decide +revert

@[simp] theorem dpHi_opcode_high (i : Bool) (k : BitVec 4) (s : Bool) : (dpHi i k s).extractLsb' 3 2 = k.extractLsb' 2 2 := by
  cases i <;> cases s <;> decide +revert

theorem dpHi_fields {w : Word} {i : Bool} (h : field w 25 3 = 0#2 ++ BitVec.ofBool i) :
    dpHi i (field w 21 4) (flag w 20) = field w 20 8 := by
  simp (disch := decide) only [dpHi, ← h, ofBool_flag, field_append]

@[simp] theorem transferHi8_class (i : Bool) (a : AddrMode) (b l : Bool) :
    (transferHi8 i a b l).extractLsb' 5 3 = if i then 3#3 else 2#3 := by
  obtain ⟨p, u, w⟩ := a
  decide +revert

@[simp] theorem transferHi8_l (i : Bool) (a : AddrMode) (b l : Bool) : (transferHi8 i a b l)[0] = l := by
  obtain ⟨p, u, w⟩ := a
  decide +revert

@[simp] theorem transferHi8_b (i : Bool) (a : AddrMode) (b l : Bool) : (transferHi8 i a b l)[2] = b := by
  obtain ⟨p, u, w⟩ := a
  decide +revert

theorem transferHi8_fields {w : Word} {i : Bool} (h : field w 25 3 = 1#2 ++ BitVec.ofBool i) :
    transferHi8 i (addrModeOf w) (flag w 22) (flag w 20) = field w 20 8 := by
  simp (disch := decide) only [transferHi8, addrModeOf, ← h, ofBool_flag, field_append]

@[simp] theorem addrModeOf_transferHi8 (c : Cond) (i : Bool) (a : AddrMode) (b l : Bool) (rn rd : BitVec 4) (lo : BitVec 12) :
    addrModeOf (encodeStandard c (transferHi8 i a b l) rn rd lo) = a := by
  obtain ⟨p, u, w⟩ := a
  simp only [addrModeOf, AddrMode.mk.injEq]
  rw [flag_encodeStandard_hi _ _ _ _ _ (by decide) (by decide), flag_encodeStandard_hi _ _ _ _ _ (by decide) (by decide),
    flag_encodeStandard_hi _ _ _ _ _ (by decide) (by decide)]
  decide +revert

/-! The operands in bits [11:0]. -/

@[simp] theorem immOpOf_encodeStandard (c : Cond) (hi : BitVec 8) (rn rd : BitVec 4) (op : ImmOp) :
    immOpOf (encodeStandard c hi rn rd op.bits) = op := by
  obtain ⟨rot, imm8⟩ := op
  simp (disch := decide) only [immOpOf, ImmOp.bits, field_encodeStandard_lo, BitVec.extractLsb'_append_eq_of_le,
    BitVec.extractLsb'_append_eq_of_add_le, Nat.reduceSub, BitVec.extractLsb'_eq_self]

@[simp] theorem shiftOpOf_encodeStandard (c : Cond) (hi : BitVec 8) (rn rd : BitVec 4) (op : ShiftOp) :
    shiftOpOf (encodeStandard c hi rn rd op.bits) = op := by
  obtain ⟨amount, kind, rm⟩ := op
  simp (disch := decide) only [shiftOpOf, ShiftOp.bits, field_encodeStandard_lo, BitVec.extractLsb'_append_eq_of_le,
    BitVec.extractLsb'_append_eq_of_add_le, Nat.reduceSub, BitVec.extractLsb'_eq_self, shiftKindOf_bits, regOf_regBits]

@[simp] theorem getElem_bits_shiftOp (op : ShiftOp) : op.bits[4] = false := by
  rw [← BitVec.getLsbD_eq_getElem, ShiftOp.bits, BitVec.getLsbD_append, BitVec.getLsbD_append]
  rfl

@[simp] theorem bits_immOpOf (w : Word) : (immOpOf w).bits = field w 0 12 := field_append rfl

theorem bits_shiftOpOf {w : Word} (h : flag w 4 = false) : (shiftOpOf w).bits = field w 0 12 := by
  have h4 : field w 4 1 = 0#1 := by rw [← ofBool_flag, h]; rfl
  simp (disch := decide) only [ShiftOp.bits, shiftOpOf, bits_shiftKindOf, regBits_regOf, ← h4, field_append]

end Sys2Proof
end


section
/-! SUPPORT. Decoding and encoding of the data-processing words, the status register words and the other words of their two classes
(R482 to R503, R506, R508, R510). -/

namespace Sys2Proof

open Sys2Proof.Claims

/-- A word is the encoding of a well-formed instruction. -/
def Instr.StandsFor (i : Instr) (w : Word) : Prop := i.wellFormed = true ∧ encode i = w

/-! The decoder by class. -/

/-- The decoder of each class of words with a condition. -/
def classDecoder (k : BitVec 3) : Cond → Word → Option Instr :=
  if k = 0#3 then decodeClass0
  else if k = 1#3 then decodeClass1
  else if k = 2#3 then decodeTransferImm
  else if k = 3#3 then decodeTransferReg
  else if k = 4#3 then decodeMultiple
  else if k = 5#3 then decodeBranch
  else if k = 6#3 then decodeCoprocMemory
  else decodeClass7

theorem decode_conditional {w : Word} {c : Cond} {k : BitVec 3} (hc : field w 28 4 = c.bits) (hk : field w 25 3 = k) :
    decode w = classDecoder k c w := by
  delta decode classDecoder
  simp only [hc, hk, condOf_bits]
  split_ifs <;> rfl

@[simp] theorem classDecoder_zero : classDecoder 0#3 = decodeClass0 := rfl

@[simp] theorem classDecoder_one : classDecoder 1#3 = decodeClass1 := rfl

@[simp] theorem classDecoder_two : classDecoder 2#3 = decodeTransferImm := rfl

@[simp] theorem classDecoder_three : classDecoder 3#3 = decodeTransferReg := rfl

@[simp] theorem classDecoder_four : classDecoder 4#3 = decodeMultiple := rfl

@[simp] theorem classDecoder_five : classDecoder 5#3 = decodeBranch := rfl

@[simp] theorem classDecoder_six : classDecoder 6#3 = decodeCoprocMemory := rfl

@[simp] theorem classDecoder_seven : classDecoder 7#3 = decodeClass7 := rfl

theorem decode_encodeStandard (c : Cond) (hi : BitVec 8) (rn rd : BitVec 4) (lo : BitVec 12) :
    decode (encodeStandard c hi rn rd lo) = classDecoder (hi.extractLsb' 5 3) c (encodeStandard c hi rn rd lo) :=
  decode_conditional (field_encodeStandard_cond ..) (field_encodeStandard_hi _ _ _ _ _ (by decide) (by decide))

theorem decode_unconditional {w : Word} (h : field w 28 4 = 15#4) : decode w = decodeUnconditional w := by
  delta decode
  rw [h]
  rfl

/-! The opcodes of data processing. -/

/-- Bit 25 of a data-processing word: whether its operand is an immediate. -/
def Claims.Operand.isImm : Operand → Bool
  | .imm _ => true
  | .reg _ => false

/-- Bits [11:0] of a data-processing word. -/
def Claims.Operand.bits : Operand → BitVec 12
  | .imm op => op.bits
  | .reg op => op.bits

/-- The operand that a data-processing word holds. -/
def operandOf (w : Word) : Operand := if flag w 25 then .imm (immOpOf w) else .reg (shiftOpOf w)

/-- The decoder of the data-processing words with either operand. -/
def decodeDp (c : Cond) (w : Word) : Option Instr := if flag w 25 then decodeDpImm c w else decodeDpReg c w

/-- Each of the sixteen opcodes writes a result or compares. -/
theorem opcode_cases (k : BitVec 4) : (∃ o : ResultOp, k = o.code) ∨ ∃ o : CompareOp, k = o.code := by
  have h : k = 0#4 ∨ k = 1#4 ∨ k = 2#4 ∨ k = 3#4 ∨ k = 4#4 ∨ k = 5#4 ∨ k = 6#4 ∨ k = 7#4 ∨ k = 8#4 ∨ k = 9#4 ∨ k = 10#4 ∨
      k = 11#4 ∨ k = 12#4 ∨ k = 13#4 ∨ k = 14#4 ∨ k = 15#4 := by
    revert k
    decide
  rcases h with h | h | h | h | h | h | h | h | h | h | h | h | h | h | h | h
  exacts [.inl ⟨.and, h⟩, .inl ⟨.eor, h⟩, .inl ⟨.sub, h⟩, .inl ⟨.rsb, h⟩, .inl ⟨.add, h⟩, .inl ⟨.adc, h⟩, .inl ⟨.sbc, h⟩,
    .inl ⟨.rsc, h⟩, .inr ⟨.tst, h⟩, .inr ⟨.teq, h⟩, .inr ⟨.cmp, h⟩, .inr ⟨.cmn, h⟩, .inl ⟨.orr, h⟩, .inl ⟨.mov, h⟩,
    .inl ⟨.bic, h⟩, .inl ⟨.mvn, h⟩]

theorem Claims.ResultOp.code_high (o : ResultOp) : o.code.extractLsb' 2 2 ≠ 2#2 := by cases o <;> decide

theorem encode_resultOp (o : ResultOp) (c : Cond) (s : Bool) (rn rd : RegNum) (op : Operand) :
    encode (o.instr c s rn rd op) = encodeStandard c (dpHi op.isImm o.code s) (regBits rn) (regBits rd) op.bits := by
  cases o <;> cases op <;> rfl

theorem encode_compareOp (o : CompareOp) (c : Cond) (rn : RegNum) (sbz : BitVec 4) (op : Operand) :
    encode (o.instr c rn sbz op) = encodeStandard c (dpHi op.isImm o.code true) (regBits rn) sbz op.bits := by
  cases o <;> cases op <;> rfl

/-- The words that ADR assembles to are not those of ADD and SUB (R487). -/
def Claims.ResultOp.isAdr (o : ResultOp) (s : Bool) (rn : RegNum) (op : Operand) : Bool :=
  (o == .add || o == .sub) && op.isImm && !notAdr s rn

theorem wellFormed_resultOp (o : ResultOp) (c : Cond) (s : Bool) (rn rd : RegNum) (op : Operand) :
    (o.instr c s rn rd op).wellFormed = !o.isAdr s rn op := by
  cases o <;> cases op <;> simp [ResultOp.instr, Instr.wellFormed, ResultOp.isAdr, Operand.isImm]

theorem wellFormed_compareOp (o : CompareOp) (c : Cond) (rn : RegNum) (sbz : BitVec 4) (op : Operand) :
    (o.instr c rn sbz op).wellFormed = true := by
  cases o <;> cases op <;> rfl

theorem decodeDp_result {o : ResultOp} {w : Word} (c : Cond) (ho : field w 21 4 = o.code)
    (ha : o.isAdr (flag w 20) (rnOf w) (operandOf w) = false) :
    decodeDp c w = some (o.instr c (flag w 20) (rnOf w) (rdOf w) (operandOf w)) := by
  simp only [decodeDp, operandOf] at ha ⊢
  split at ha
  · next hi =>
    simp only [hi, if_true]
    cases o <;> simp_all [decodeDpImm, ResultOp.code, ResultOp.instr, ResultOp.isAdr, Operand.isImm]
  · next hi =>
    simp only [hi]
    cases o <;> simp_all [decodeDpReg, ResultOp.code, ResultOp.instr]

theorem decodeDp_compare {o : CompareOp} {w : Word} (c : Cond) (ho : field w 21 4 = o.code) (hs : flag w 20 = true) :
    decodeDp c w = some (o.instr c (rnOf w) (field w 12 4) (operandOf w)) := by
  simp only [decodeDp, operandOf]
  split
  · cases o <;> simp [decodeDpImm, CompareOp.instr, ho, hs, CompareOp.code]
  · cases o <;> simp [decodeDpReg, CompareOp.instr, ho, hs, CompareOp.code]

theorem decodeDp_compare_none {o : CompareOp} {w : Word} (c : Cond) (ho : field w 21 4 = o.code) (hs : flag w 20 = false) :
    decodeDp c w = none := by
  simp only [decodeDp]
  split
  · cases o <;> simp [decodeDpImm, ho, hs, CompareOp.code]
  · cases o <;> simp [decodeDpReg, ho, hs, CompareOp.code]

/-! The data-processing words. -/

@[simp] theorem operandOf_dp (c : Cond) (k : BitVec 4) (s : Bool) (rn rd : BitVec 4) (op : Operand) :
    operandOf (encodeStandard c (dpHi op.isImm k s) rn rd op.bits) = op := by
  have hi : flag (encodeStandard c (dpHi op.isImm k s) rn rd op.bits) 25 = op.isImm := by
    rw [flag_encodeStandard_hi _ _ _ _ _ (by decide) (by decide)]
    generalize op.isImm = i
    decide +revert
  rw [operandOf, hi]
  cases op with
  | imm op => exact congrArg Operand.imm (immOpOf_encodeStandard _ _ _ _ op)
  | reg op => exact congrArg Operand.reg (shiftOpOf_encodeStandard _ _ _ _ op)

/-- The words of the first two classes that are data processing. -/
theorem decode_dp {w : Word} {c : Cond} {i : Bool} (hc : field w 28 4 = c.bits) (hk : field w 25 3 = 0#2 ++ BitVec.ofBool i)
    (hi : flag w 25 = i) (h4 : i = false → flag w 4 = false) (hs : ¬(field w 23 2 = 2#2 ∧ flag w 20 = false)) :
    decode w = decodeDp c w := by
  cases i with
  | true =>
    have hd : decode w = decodeClass1 c w := decode_conditional hc hk
    rw [hd, decodeClass1, if_neg hs, decodeDp, if_pos hi]
  | false =>
    have hd : decode w = decodeClass0 c w := decode_conditional hc hk
    rw [hd, decodeClass0, if_neg (by simp [h4]), if_neg hs, decodeDp, if_neg (by simp [hi])]

theorem decode_encode_dp {c : Cond} {k : BitVec 4} {s : Bool} (rn rd : BitVec 4) (op : Operand)
    (hs : ¬(k.extractLsb' 2 2 = 2#2 ∧ s = false)) :
    decode (encodeStandard c (dpHi op.isImm k s) rn rd op.bits) =
      decodeDp c (encodeStandard c (dpHi op.isImm k s) rn rd op.bits) := by
  refine decode_dp (i := op.isImm) (by simp) ?_ ?_ ?_ (by simpa using hs)
  · cases op <;> simp [Operand.isImm]
  · cases op <;> cases s <;> simp [Operand.isImm] <;> decide +revert
  · cases op <;> simp [Operand.isImm, Operand.bits]

theorem decode_encode_resultOp {o : ResultOp} {c : Cond} {s : Bool} {rn rd : RegNum} {op : Operand}
    (h : (o.instr c s rn rd op).wellFormed = true) : decode (encode (o.instr c s rn rd op)) = some (o.instr c s rn rd op) := by
  rw [wellFormed_resultOp, Bool.not_eq_true'] at h
  rw [encode_resultOp, decode_encode_dp _ _ _ (fun hs => o.code_high hs.1), decodeDp_result (o := o) c (by simp)]
  · simp
  · simpa using h

theorem decode_encode_compareOp (o : CompareOp) (c : Cond) (rn : RegNum) (sbz : BitVec 4) (op : Operand) :
    decode (encode (o.instr c rn sbz op)) = some (o.instr c rn sbz op) := by
  rw [encode_compareOp, decode_encode_dp _ _ _ (by simp), decodeDp_compare (o := o) c (by simp) (by simp)]
  simp

/-- ADR ahead is ADD from r15 (R487). -/
theorem decode_encode_adrAhead (c : Cond) (rd : RegNum) (op : ImmOp) :
    decode (encode (.adrAhead c rd op)) = some (.adrAhead c rd op) := by
  have hadr : notAdr false (regOf 15#4) = false := rfl
  change decode (encodeStandard c 0x28#8 15#4 (regBits rd) op.bits) = _
  simp [decode_encodeStandard, decodeClass1, decodeDpImm, hadr]

/-- ADR behind is SUB from r15 (R487). -/
theorem decode_encode_adrBehind (c : Cond) (rd : RegNum) (op : ImmOp) :
    decode (encode (.adrBehind c rd op)) = some (.adrBehind c rd op) := by
  have hadr : notAdr false (regOf 15#4) = false := rfl
  change decode (encodeStandard c 0x24#8 15#4 (regBits rd) op.bits) = _
  simp [decode_encodeStandard, decodeClass1, decodeDpImm, hadr]

theorem bits_operandOf {w : Word} (h4 : flag w 25 = false → flag w 4 = false) : (operandOf w).bits = field w 0 12 := by
  rw [operandOf]
  split
  · exact bits_immOpOf w
  · next hi => exact bits_shiftOpOf (h4 (by simpa using hi))

theorem isImm_operandOf (w : Word) : (operandOf w).isImm = flag w 25 := by
  rw [operandOf]
  split
  · next hi => exact hi.symm
  · next hi => simpa [Operand.isImm] using hi

/-- A data-processing word is put together from its fields. -/
theorem encodeDp_fields {w : Word} {c : Cond} {k : BitVec 4} {s : Bool} (hc : field w 28 4 = c.bits)
    (hk : field w 25 3 = 0#2 ++ BitVec.ofBool (flag w 25)) (h4 : flag w 25 = false → flag w 4 = false)
    (ho : field w 21 4 = k) (hs : flag w 20 = s) :
    encodeStandard c (dpHi (operandOf w).isImm k s) (field w 16 4) (field w 12 4) (operandOf w).bits = w := by
  rw [← ho, ← hs, isImm_operandOf, bits_operandOf h4, dpHi_fields hk, encodeStandard_fields hc]

theorem notAdr_eq_false_iff (s : Bool) (rn : RegNum) : notAdr s rn = false ↔ s = false ∧ rn = 15 := by
  simp [notAdr]

/-- The words that ADR assembles to decode as ADR (R487). -/
theorem standsFor_adr {o : ResultOp} {w : Word} {c : Cond} {i : Instr} (hc : field w 28 4 = c.bits)
    (hk : field w 25 3 = 0#2 ++ BitVec.ofBool (flag w 25)) (ho : field w 21 4 = o.code)
    (ha : o.isAdr (flag w 20) (rnOf w) (operandOf w) = true) (h : decodeDp c w = some i) : i.StandsFor w := by
  simp only [ResultOp.isAdr, Bool.and_eq_true, Bool.or_eq_true, beq_iff_eq, Bool.not_eq_true', isImm_operandOf] at ha
  obtain ⟨⟨hop, hi⟩, hadr⟩ := ha
  obtain ⟨hs, hrn⟩ := (notAdr_eq_false_iff _ _).1 hadr
  have hw := encodeDp_fields hc hk (by simp [hi]) ho hs
  have hrn' : field w 16 4 = 15#4 := congrArg regBits hrn
  rw [isImm_operandOf, operandOf, if_pos hi, hrn', hi] at hw
  rw [decodeDp, if_pos hi] at h
  rcases hop with rfl | rfl
  · obtain rfl : i = .adrAhead c (rdOf w) (immOpOf w) := by
      simpa [decodeDpImm, ho, hadr, ResultOp.code, eq_comm] using h
    exact ⟨rfl, hw⟩
  · obtain rfl : i = .adrBehind c (rdOf w) (immOpOf w) := by
      simpa [decodeDpImm, ho, hadr, ResultOp.code, eq_comm] using h
    exact ⟨rfl, hw⟩

theorem standsFor_dp {w : Word} {c : Cond} {i : Instr} (hc : field w 28 4 = c.bits)
    (hk : field w 25 3 = 0#2 ++ BitVec.ofBool (flag w 25)) (h4 : flag w 25 = false → flag w 4 = false)
    (h : decodeDp c w = some i) : i.StandsFor w := by
  rcases opcode_cases (field w 21 4) with ⟨o, ho⟩ | ⟨o, ho⟩
  · cases ha : o.isAdr (flag w 20) (rnOf w) (operandOf w) with
    | true => exact standsFor_adr hc hk ho ha h
    | false =>
      rw [decodeDp_result c ho ha] at h
      cases h
      exact ⟨by rw [wellFormed_resultOp, ha]; rfl, (encode_resultOp ..).trans (encodeDp_fields hc hk h4 ho rfl)⟩
  · cases hs : flag w 20 with
    | true =>
      rw [decodeDp_compare c ho hs] at h
      cases h
      exact ⟨wellFormed_compareOp .., (encode_compareOp ..).trans (encodeDp_fields hc hk h4 ho hs)⟩
    | false =>
      rw [decodeDp_compare_none c ho hs] at h
      cases h

end Sys2Proof
end


section
/-! SUPPORT. Decoding and encoding of the status register words, the branches with exchange, the swaps and the halfword, signed and
doubleword transfers (R503, R506, R508, R510). -/

namespace Sys2Proof

open Sys2Proof.Claims

/-! The status registers. -/

theorem decode_encode_mrs (c : Cond) (r : Bool) (rd : RegNum) : decode (encode (.mrs c r rd)) = some (.mrs c r rd) := by
  change decode (encodeStandard c (2#5 ++ BitVec.ofBool r ++ 0#2) 15#4 (regBits rd) 0#12) = _
  cases r <;> simp [decode_encodeStandard, decodeClass0, decodeStatus]

/-- Bits [11:0] of a word that ends in a register: eight bits and the register. -/
theorem low_register (b : BitVec 8) (m : BitVec 4) :
    (b ++ m : BitVec 12).extractLsb' 0 4 = m ∧ (b ++ m : BitVec 12).extractLsb' 4 8 = b ∧
      (b ++ m : BitVec 12).extractLsb' 5 2 = b.extractLsb' 1 2 ∧ (b ++ m : BitVec 12)[4] = b[0] ∧
      (b ++ m : BitVec 12)[7] = b[3] := by
  refine ⟨?_, ?_, ?_, ?_, ?_⟩
  · rw [BitVec.extractLsb'_append_eq_of_add_le (by decide), BitVec.extractLsb'_eq_self]
  · rw [BitVec.extractLsb'_append_eq_of_le (by decide), BitVec.extractLsb'_eq_self]
  · rw [BitVec.extractLsb'_append_eq_of_le (by decide)]
  · rw [BitVec.getElem_append]
    rfl
  · rw [BitVec.getElem_append]
    rfl

theorem decode_encode_msrReg (c : Cond) (r : Bool) (mask : BitVec 4) (rm : RegNum) :
    decode (encode (.msrReg c r mask rm)) = some (.msrReg c r mask rm) := by
  change decode (encodeStandard c (2#5 ++ BitVec.ofBool r ++ 2#2) mask 15#4 (0#8 ++ regBits rm)) = _
  cases r <;> simp [decode_encodeStandard, decodeClass0, decodeStatus, low_register]

theorem decode_encode_msrImm (c : Cond) (r : Bool) (mask : BitVec 4) (op : ImmOp) :
    decode (encode (.msrImm c r mask op)) = some (.msrImm c r mask op) := by
  change decode (encodeStandard c (6#5 ++ BitVec.ofBool r ++ 2#2) mask 15#4 op.bits) = _
  cases r <;> simp [decode_encodeStandard, decodeClass1, decodeMsrImm]

theorem standsFor_status {w : Word} {c : Cond} {i : Instr} (hc : field w 28 4 = c.bits) (hk : field w 25 3 = 0#3)
    (h23 : field w 23 2 = 2#2) (h : decodeStatus c w = some i) : i.StandsFor w := by
  have h5 : field w 23 5 = 2#5 := by
    rw [← field_append (w := w) (b := 25) (a := 23) (n := 3) (k := 2) rfl, hk, h23]
    rfl
  have hi (low : BitVec 2) (hlow : field w 20 2 = low) : 2#5 ++ BitVec.ofBool (flag w 22) ++ low = field w 20 8 := by
    simp (disch := decide) only [← h5, ← hlow, ofBool_flag, field_append]
  rw [decodeStatus] at h
  split at h
  · next hm =>
    obtain ⟨h20, h16, h0⟩ := hm
    cases h
    refine ⟨rfl, ?_⟩
    change encodeStandard c (2#5 ++ BitVec.ofBool (flag w 22) ++ 0#2) 15#4 (field w 12 4) 0#12 = w
    rw [hi _ h20, ← h16, ← h0, encodeStandard_fields hc]
  · split at h
    · next hm =>
      obtain ⟨h20, h12, h4⟩ := hm
      cases h
      refine ⟨rfl, ?_⟩
      change encodeStandard c (2#5 ++ BitVec.ofBool (flag w 22) ++ 2#2) (field w 16 4) 15#4 (0#8 ++ field w 0 4) = w
      rw [hi _ h20, ← h12, ← h4, field_append (k := 4) rfl]
      exact encodeStandard_fields hc
    · cases h

theorem standsFor_msrImm {w : Word} {c : Cond} {i : Instr} (hc : field w 28 4 = c.bits) (hk : field w 25 3 = 1#3)
    (h23 : field w 23 2 = 2#2) (h : decodeMsrImm c w = some i) : i.StandsFor w := by
  have h5 : field w 23 5 = 6#5 := by
    rw [← field_append (w := w) (b := 25) (a := 23) (n := 3) (k := 2) rfl, hk, h23]
    rfl
  obtain ⟨⟨h20, h12⟩, he⟩ := Option.ite_none_right_eq_some.1 h
  cases he
  have hi : 6#5 ++ BitVec.ofBool (flag w 22) ++ 2#2 = field w 20 8 := by
    simp (disch := decide) only [← h5, ← h20, ofBool_flag, field_append]
  refine ⟨rfl, ?_⟩
  change encodeStandard c (6#5 ++ BitVec.ofBool (flag w 22) ++ 2#2) (field w 16 4) 15#4 (immOpOf w).bits = w
  rw [hi, bits_immOpOf, ← h12, encodeStandard_fields hc]

/-! The branches with exchange. -/

/-- The fields of a word of a condition, 24 bits and a register. -/
theorem branchExchange_fields (c : Cond) (x : BitVec 24) (rm : RegNum) :
    field (c.bits ++ x ++ regBits rm) 28 4 = c.bits ∧ field (c.bits ++ x ++ regBits rm) 25 3 = x.extractLsb' 21 3 ∧
      field (c.bits ++ x ++ regBits rm) 4 24 = x ∧ rmOf (c.bits ++ x ++ regBits rm) = rm := by
  simp (disch := decide) only [field, rmOf, BitVec.extractLsb'_append_eq_of_le, BitVec.extractLsb'_append_eq_of_add_le,
    Nat.reduceSub, BitVec.extractLsb'_eq_self, regOf_regBits, and_self]

theorem extract_field {w : Word} {a i n k : Nat} (h : i + k ≤ n) : (field w a n).extractLsb' i k = field w (a + i) k := by
  refine BitVec.eq_of_getLsbD_eq fun j hj => ?_
  have hn : i + j < n := by omega
  simp [field, hj, hn, Nat.add_assoc]

theorem flag_eq_field (w : Word) {a n : Nat} (i : Nat) (h : i < n) : flag w (a + i) = (field w a n).getLsbD i := by
  simp [flag, field, h]

/-- A word of this form, whose bits [7:4] are 0001 or 0011, is a branch with exchange or none. -/
theorem decode_branchExchange {c : Cond} {x : BitVec 24} (rm : RegNum) (hk : x.extractLsb' 21 3 = 0#3)
    (h4 : x.getLsbD 0 = true) (h7 : x.getLsbD 3 = false) :
    decode (c.bits ++ x ++ regBits rm) =
      if x = 0x12FFF1#24 then some (.bx c rm) else if x = 0x12FFF3#24 then some (.blx c rm) else none := by
  obtain ⟨hc, hk', hx, hm⟩ := branchExchange_fields c x rm
  have hd : decode (c.bits ++ x ++ regBits rm) = decodeClass0 c (c.bits ++ x ++ regBits rm) :=
    decode_conditional hc (hk'.trans hk)
  have f4 : flag (c.bits ++ x ++ regBits rm) 4 = true := by rw [flag_eq_field (a := 4) _ 0 (n := 24) (by decide), hx, h4]
  have f7 : flag (c.bits ++ x ++ regBits rm) 7 = false := by rw [flag_eq_field (a := 4) _ 3 (n := 24) (by decide), hx, h7]
  rw [hd, decodeClass0, if_pos f4, if_neg (by simp [f7]), decodeBranchExchange, hx, hm]

theorem decode_encode_bx (c : Cond) (rm : RegNum) : decode (encode (.bx c rm)) = some (.bx c rm) :=
  decode_branchExchange rm (by decide) (by decide) (by decide)

theorem decode_encode_blx (c : Cond) (rm : RegNum) : decode (encode (.blx c rm)) = some (.blx c rm) :=
  decode_branchExchange rm (by decide) (by decide) (by decide)

theorem standsFor_branchExchange {w : Word} {c : Cond} {i : Instr} (hc : field w 28 4 = c.bits)
    (h : decodeBranchExchange c w = some i) : i.StandsFor w := by
  have hw {x : BitVec 24} (hx : field w 4 24 = x) : c.bits ++ x ++ regBits (rmOf w) = w := by
    simp (disch := decide) only [regBits_rmOf, ← hx, ← hc, field_append]
    exact field_all w
  rw [decodeBranchExchange] at h
  split at h
  · next hx =>
    cases h
    exact ⟨rfl, hw hx⟩
  · obtain ⟨hx, he⟩ := Option.ite_none_right_eq_some.1 h
    cases he
    exact ⟨rfl, hw hx⟩

/-! The swaps. -/

theorem decode_encode_swp (c : Cond) (rn rd rm : RegNum) : decode (encode (.swp c rn rd rm)) = some (.swp c rn rd rm) := by
  change decode (encodeStandard c 0x10#8 (regBits rn) (regBits rd) (0x09#8 ++ regBits rm)) = _
  simp [decode_encodeStandard, decodeClass0, decodeSwap, low_register]

theorem decode_encode_swpb (c : Cond) (rn rd rm : RegNum) :
    decode (encode (.swpb c rn rd rm)) = some (.swpb c rn rd rm) := by
  change decode (encodeStandard c 0x14#8 (regBits rn) (regBits rd) (0x09#8 ++ regBits rm)) = _
  simp [decode_encodeStandard, decodeClass0, decodeSwap, low_register]

theorem standsFor_swap {w : Word} {c : Cond} {i : Instr} (hc : field w 28 4 = c.bits) (h : decodeSwap c w = some i) :
    i.StandsFor w := by
  have hw {x : BitVec 8} (hx : field w 20 8 = x) (h4 : field w 4 8 = 0x09#8) :
      encodeStandard c x (regBits (rnOf w)) (regBits (rdOf w)) (0x09#8 ++ regBits (rmOf w)) = w := by
    rw [← hx, ← h4, regBits_rmOf, field_append (k := 4) rfl]
    exact encodeStandard_fields hc
  rw [decodeSwap] at h
  split at h
  · next hx =>
    cases h
    exact ⟨rfl, hw hx.1 hx.2⟩
  · obtain ⟨hx, he⟩ := Option.ite_none_right_eq_some.1 h
    cases he
    exact ⟨rfl, hw hx.1 hx.2⟩

/-! The halfword, signed and doubleword transfers. -/

/-- Three bits and five flags, bits [27:20] of the transfers of two classes (R261, R506). -/
theorem fiveFlags_bits (k : BitVec 3) (p u m v l : Bool) :
    let hi : BitVec 8 := k ++ BitVec.ofBool p ++ BitVec.ofBool u ++ BitVec.ofBool m ++ BitVec.ofBool v ++ BitVec.ofBool l
    hi.extractLsb' 5 3 = k ∧ hi.getLsbD 4 = p ∧ hi.getLsbD 3 = u ∧ hi.getLsbD 2 = m ∧ hi.getLsbD 1 = v ∧ hi.getLsbD 0 = l := by
  decide +revert

section
variable (c : Cond) (a : AddrMode) (l : Bool) (sh : BitVec 2) (rn rd : RegNum) (off : HalfOffset)

theorem encodeHalf_low :
    let w := encodeHalf c a l sh rn rd off
    flag w 4 = true ∧ flag w 7 = true ∧ field w 5 2 = sh ∧ field w 8 4 = off.hiBits ∧ field w 0 4 = off.loBits := by
  refine ⟨?_, ?_, ?_, ?_, ?_⟩
  · rw [encodeHalf, flag_encodeStandard_lo _ _ _ _ _ (by decide)]
    simp only [BitVec.getLsbD_append, Nat.reduceSub, Nat.reduceLT, if_true, if_false]
    decide
  · rw [encodeHalf, flag_encodeStandard_lo _ _ _ _ _ (by decide)]
    simp only [BitVec.getLsbD_append, Nat.reduceSub, Nat.reduceLT, if_true, if_false]
    decide
  all_goals
    simp (disch := decide) only [encodeHalf, field_encodeStandard_lo, BitVec.extractLsb'_append_eq_of_le,
      BitVec.extractLsb'_append_eq_of_add_le, Nat.reduceSub, BitVec.extractLsb'_eq_self]

theorem encodeHalf_high :
    let w := encodeHalf c a l sh rn rd off
    field w 28 4 = c.bits ∧ field w 25 3 = 0#3 ∧ flag w 20 = l ∧ flag w 22 = off.isImm ∧ addrModeOf w = a ∧ rnOf w = rn ∧
      rdOf w = rd := by
  obtain ⟨hk, hp, hu, hm, hv, hl⟩ := fiveFlags_bits 0#3 a.p a.u off.isImm a.w l
  have flags {j : Nat} (hj : 20 ≤ j) (hj' : j < 28) := flag_encodeStandard_hi c (0#3 ++ BitVec.ofBool a.p ++ BitVec.ofBool a.u ++
    BitVec.ofBool off.isImm ++ BitVec.ofBool a.w ++ BitVec.ofBool l) (regBits rn) (regBits rd)
      (off.hiBits ++ 1#1 ++ sh ++ 1#1 ++ off.loBits) hj hj'
  refine ⟨field_encodeStandard_cond .., (field_encodeStandard_hi _ _ _ _ _ (by decide) (by decide)).trans hk,
    (flags (by decide) (by decide)).trans hl, (flags (by decide) (by decide)).trans hm, ?_, rnOf_encodeStandard ..,
    rdOf_encodeStandard ..⟩
  rw [addrModeOf]
  exact congr (congr (congrArg AddrMode.mk ((flags (by decide) (by decide)).trans hp))
    ((flags (by decide) (by decide)).trans hu)) ((flags (by decide) (by decide)).trans hv)

theorem halfOffsetOf_encodeHalf : halfOffsetOf (encodeHalf c a l sh rn rd off) = off := by
  obtain ⟨_, _, _, h8, h0⟩ := encodeHalf_low c a l sh rn rd off
  obtain ⟨_, _, _, h22, _⟩ := encodeHalf_high c a l sh rn rd off
  rw [halfOffsetOf, h22, h8, h0]
  cases off with
  | imm v =>
    have hv : v.extractLsb' 4 4 ++ v.extractLsb' 0 4 = v :=
      (BitVec.extractLsb'_append_extractLsb'_eq_extractLsb' rfl).trans BitVec.extractLsb'_eq_self
    exact congrArg HalfOffset.imm hv
  | reg sbz rm => rfl

theorem decode_encodeHalf (hsh : sh ≠ 0#2) :
    decode (encodeHalf c a l sh rn rd off) = decodeHalf c (encodeHalf c a l sh rn rd off) := by
  obtain ⟨h4, h7, h5, _⟩ := encodeHalf_low c a l sh rn rd off
  obtain ⟨hc, hk, _⟩ := encodeHalf_high c a l sh rn rd off
  have hd : decode (encodeHalf c a l sh rn rd off) = decodeClass0 c (encodeHalf c a l sh rn rd off) :=
    decode_conditional hc hk
  rw [hd, decodeClass0, if_pos h4, if_pos h7, h5, if_neg hsh]

end

/-- The transfers of this class by L and bits [6:5] (R506). -/
def halfInstr (c : Cond) (a : AddrMode) (l : Bool) (sh : BitVec 2) (rn rd : RegNum) (off : HalfOffset) : Instr :=
  if l then if sh = 1#2 then .ldrh c a rn rd off else if sh = 2#2 then .ldrsb c a rn rd off else .ldrsh c a rn rd off
  else if sh = 1#2 then .strh c a rn rd off else if sh = 2#2 then .ldrd c a rn rd off else .strd c a rn rd off

theorem decodeHalf_eq (c : Cond) (w : Word) :
    decodeHalf c w =
      some (halfInstr c (addrModeOf w) (flag w 20) (field w 5 2) (rnOf w) (rdOf w) (halfOffsetOf w)) := by
  simp only [decodeHalf, halfInstr, apply_ite some]

theorem halfInstr_spec (c : Cond) (a : AddrMode) (l : Bool) {sh : BitVec 2} (rn rd : RegNum) (off : HalfOffset) (h : sh ≠ 0#2) :
    (halfInstr c a l sh rn rd off).wellFormed = true ∧
      encode (halfInstr c a l sh rn rd off) = encodeHalf c a l sh rn rd off := by
  rcases Machine.two_bits_cases sh with rfl | rfl | rfl | rfl
  · exact absurd rfl h
  all_goals cases l <;> exact ⟨rfl, rfl⟩

theorem decode_encodeHalf_eq (c : Cond) (a : AddrMode) (l : Bool) {sh : BitVec 2} (rn rd : RegNum) (off : HalfOffset)
    (hsh : sh ≠ 0#2) : decode (encodeHalf c a l sh rn rd off) = some (halfInstr c a l sh rn rd off) := by
  obtain ⟨_, _, h5, _⟩ := encodeHalf_low c a l sh rn rd off
  obtain ⟨_, _, h20, _, ha, hn, hd⟩ := encodeHalf_high c a l sh rn rd off
  rw [decode_encodeHalf _ _ _ _ _ _ _ hsh, decodeHalf_eq, h5, h20, ha, hn, hd, halfOffsetOf_encodeHalf]

theorem encodeHalf_fields {w : Word} {c : Cond} {l : Bool} {sh : BitVec 2} (hc : field w 28 4 = c.bits)
    (hk : field w 25 3 = 0#3) (h4 : flag w 4 = true) (h7 : flag w 7 = true) (hl : flag w 20 = l) (hsh : field w 5 2 = sh) :
    encodeHalf c (addrModeOf w) l sh (rnOf w) (rdOf w) (halfOffsetOf w) = w := by
  have hoff : (halfOffsetOf w).isImm = flag w 22 ∧ (halfOffsetOf w).hiBits = field w 8 4 ∧
      (halfOffsetOf w).loBits = field w 0 4 := by
    rw [halfOffsetOf]
    split
    · next hi =>
      simp (disch := decide) only [HalfOffset.isImm, HalfOffset.hiBits, HalfOffset.loBits, hi,
        BitVec.extractLsb'_append_eq_of_le, BitVec.extractLsb'_append_eq_of_add_le, Nat.reduceSub, BitVec.extractLsb'_eq_self,
        and_self]
    · next hi => exact ⟨by simpa [HalfOffset.isImm] using hi, rfl, rfl⟩
  obtain ⟨hm, hhi, hlo⟩ := hoff
  have one4 : 1#1 = BitVec.ofBool (flag w 4) := by rw [h4]; rfl
  have one7 : 1#1 = BitVec.ofBool (flag w 7) := by rw [h7]; rfl
  have low : field w 8 4 ++ 1#1 ++ sh ++ 1#1 ++ field w 0 4 = field w 0 12 := by
    conv_lhs => rw [one7]
    conv_lhs => arg 1; arg 2; rw [h7, ← h4]
    simp (disch := decide) only [ofBool_flag, ← hsh, field_append]
  rw [encodeHalf, hm, hhi, hlo, low]
  have high : 0#3 ++ BitVec.ofBool (flag w 24) ++ BitVec.ofBool (flag w 23) ++ BitVec.ofBool (flag w 22) ++
      BitVec.ofBool (flag w 21) ++ BitVec.ofBool l = field w 20 8 := by
    simp (disch := decide) only [ofBool_flag, ← hk, ← hl, field_append]
  exact (congrArg (encodeStandard c · _ _ _) high).trans (encodeStandard_fields hc)

theorem standsFor_half {w : Word} {c : Cond} {i : Instr} (hc : field w 28 4 = c.bits) (hk : field w 25 3 = 0#3)
    (h4 : flag w 4 = true) (h7 : flag w 7 = true) (hsh : field w 5 2 ≠ 0#2) (h : decodeHalf c w = some i) : i.StandsFor w := by
  rw [decodeHalf_eq] at h
  cases h
  obtain ⟨hwf, he⟩ := halfInstr_spec c (addrModeOf w) (flag w 20) (rnOf w) (rdOf w) (halfOffsetOf w) hsh
  exact ⟨hwf, he.trans (encodeHalf_fields hc hk h4 h7 rfl rfl)⟩

/-! The two classes. -/

theorem standsFor_class0 {w : Word} {c : Cond} {i : Instr} (hc : field w 28 4 = c.bits) (hk : field w 25 3 = 0#3)
    (h : decodeClass0 c w = some i) : i.StandsFor w := by
  have h25 : flag w 25 = false := by
    rw [flag_eq_field (a := 25) w 0 (n := 3) (by decide), hk]
    rfl
  rw [decodeClass0] at h
  split at h
  · next h4 =>
    split at h
    · next h7 =>
      split at h
      · exact standsFor_swap hc h
      · next hsh => exact standsFor_half hc hk h4 h7 hsh h
    · exact standsFor_branchExchange hc h
  · next h4 =>
    split at h
    · next hs => exact standsFor_status hc hk hs.1 h
    · refine standsFor_dp hc (by rw [hk, h25]; rfl) (fun _ => by simpa using h4) ?_
      rwa [decodeDp, if_neg (by simp [h25])]

theorem standsFor_class1 {w : Word} {c : Cond} {i : Instr} (hc : field w 28 4 = c.bits) (hk : field w 25 3 = 1#3)
    (h : decodeClass1 c w = some i) : i.StandsFor w := by
  have h25 : flag w 25 = true := by
    rw [flag_eq_field (a := 25) w 0 (n := 3) (by decide), hk]
    rfl
  rw [decodeClass1] at h
  split at h
  · next hs => exact standsFor_msrImm hc hk hs.1 h
  · refine standsFor_dp hc (by rw [hk, h25]; rfl) (by simp [h25]) ?_
    rwa [decodeDp, if_pos h25]

end Sys2Proof
end


section
/-! SUPPORT. Decoding and encoding of the word and byte transfers, the multiple transfers, the branches, SWI and the undefined words
(R502, R504, R507, R511, R514). -/

namespace Sys2Proof

/-! The word and byte transfers. -/

/-- The transfers with an immediate offset by B and L (R504). -/
def transferImmInstr (c : Cond) (a : AddrMode) (b l : Bool) (rn rd : RegNum) (off : BitVec 12) : Instr :=
  if l then if b then .ldrbImm c a rn rd off else .ldrImm c a rn rd off
  else if b then .strbImm c a rn rd off else .strImm c a rn rd off

/-- The transfers with a register offset by B and L (R504). -/
def transferRegInstr (c : Cond) (a : AddrMode) (b l : Bool) (rn rd : RegNum) (op : ShiftOp) : Instr :=
  if l then if b then .ldrbReg c a rn rd op else .ldrReg c a rn rd op
  else if b then .strbReg c a rn rd op else .strReg c a rn rd op

theorem decodeTransferImm_eq (c : Cond) (w : Word) :
    decodeTransferImm c w =
      some (transferImmInstr c (addrModeOf w) (flag w 22) (flag w 20) (rnOf w) (rdOf w) (field w 0 12)) := by
  simp only [decodeTransferImm, transferImmInstr, apply_ite some]

theorem decodeTransferReg_eq {w : Word} (c : Cond) (h4 : flag w 4 = false) :
    decodeTransferReg c w =
      some (transferRegInstr c (addrModeOf w) (flag w 22) (flag w 20) (rnOf w) (rdOf w) (shiftOpOf w)) := by
  simp only [decodeTransferReg, transferRegInstr, apply_ite some, h4, Bool.false_eq_true, if_false]

theorem transferImmInstr_spec (c : Cond) (a : AddrMode) (b l : Bool) (rn rd : RegNum) (off : BitVec 12) :
    (transferImmInstr c a b l rn rd off).wellFormed = true ∧ encode (transferImmInstr c a b l rn rd off) =
      encodeStandard c (transferHi8 false a b l) (regBits rn) (regBits rd) off := by
  cases l <;> cases b <;> exact ⟨rfl, rfl⟩

theorem transferRegInstr_spec (c : Cond) (a : AddrMode) (b l : Bool) (rn rd : RegNum) (op : ShiftOp) :
    (transferRegInstr c a b l rn rd op).wellFormed = true ∧ encode (transferRegInstr c a b l rn rd op) =
      encodeStandard c (transferHi8 true a b l) (regBits rn) (regBits rd) op.bits := by
  cases l <;> cases b <;> exact ⟨rfl, rfl⟩

theorem decode_transferImm (c : Cond) (a : AddrMode) (b l : Bool) (rn rd : RegNum) (off : BitVec 12) :
    decode (encodeStandard c (transferHi8 false a b l) (regBits rn) (regBits rd) off) =
      some (transferImmInstr c a b l rn rd off) := by
  have hoff : off.extractLsb' 0 12 = off := BitVec.extractLsb'_eq_self
  simp [decode_encodeStandard, decodeTransferImm_eq, hoff]

theorem decode_transferReg (c : Cond) (a : AddrMode) (b l : Bool) (rn rd : RegNum) (op : ShiftOp) :
    decode (encodeStandard c (transferHi8 true a b l) (regBits rn) (regBits rd) op.bits) =
      some (transferRegInstr c a b l rn rd op) := by
  simp [decode_encodeStandard, decodeTransferReg_eq]

/-- A word or byte transfer is put together from its fields. -/
theorem encodeTransfer8_fields {w : Word} {c : Cond} {i : Bool} {lo : BitVec 12} (hc : field w 28 4 = c.bits)
    (hk : field w 25 3 = 1#2 ++ BitVec.ofBool i) (hlo : lo = field w 0 12) :
    encodeStandard c (transferHi8 i (addrModeOf w) (flag w 22) (flag w 20)) (field w 16 4) (field w 12 4) lo = w := by
  rw [hlo, transferHi8_fields hk, encodeStandard_fields hc]

theorem standsFor_transferImm {w : Word} {c : Cond} {i : Instr} (hc : field w 28 4 = c.bits) (hk : field w 25 3 = 2#3)
    (h : decodeTransferImm c w = some i) : i.StandsFor w := by
  rw [decodeTransferImm_eq] at h
  cases h
  obtain ⟨hwf, he⟩ := transferImmInstr_spec c (addrModeOf w) (flag w 22) (flag w 20) (rnOf w) (rdOf w) (field w 0 12)
  exact ⟨hwf, he.trans (encodeTransfer8_fields hc hk rfl)⟩

/-- An undefined word is put together from its fields. -/
theorem encodeUdf_fields {w : Word} {c : Cond} (hc : field w 28 4 = c.bits) (hk : field w 25 3 = 3#3) (h4 : flag w 4 = true) :
    c.bits ++ 3#3 ++ field w 5 20 ++ 1#1 ++ field w 0 4 = w := by
  have hone : 1#1 = field w 4 1 := by rw [← ofBool_flag, h4]; rfl
  simp (disch := decide) only [← hc, ← hk, hone, field_append]
  exact field_all w

theorem standsFor_transferReg {w : Word} {c : Cond} {i : Instr} (hc : field w 28 4 = c.bits) (hk : field w 25 3 = 3#3)
    (h : decodeTransferReg c w = some i) : i.StandsFor w := by
  cases h4 : flag w 4 with
  | true =>
    rw [decodeTransferReg, if_pos h4] at h
    cases h
    exact ⟨rfl, encodeUdf_fields hc hk h4⟩
  | false =>
    rw [decodeTransferReg_eq c h4] at h
    cases h
    obtain ⟨hwf, he⟩ := transferRegInstr_spec c (addrModeOf w) (flag w 22) (flag w 20) (rnOf w) (rdOf w) (shiftOpOf w)
    exact ⟨hwf, he.trans (encodeTransfer8_fields hc hk (bits_shiftOpOf h4))⟩

theorem decode_encode_udf (c : Cond) (hi : BitVec 20) (lo : BitVec 4) : decode (encode (.udf c hi lo)) = some (.udf c hi lo) := by
  have fields : let w := c.bits ++ 3#3 ++ hi ++ 1#1 ++ lo
      field w 28 4 = c.bits ∧ field w 25 3 = 3#3 ∧ field w 5 20 = hi ∧ field w 4 1 = 1#1 ∧ field w 0 4 = lo := by
    simp (disch := decide) only [field, BitVec.extractLsb'_append_eq_of_le, BitVec.extractLsb'_append_eq_of_add_le,
      Nat.reduceSub, BitVec.extractLsb'_eq_self, and_self]
  obtain ⟨hc, hk, hhi, h4, hlo⟩ := fields
  have hd : decode (encode (.udf c hi lo)) = decodeTransferReg c (c.bits ++ 3#3 ++ hi ++ 1#1 ++ lo) := decode_conditional hc hk
  have f4 : flag (c.bits ++ 3#3 ++ hi ++ 1#1 ++ lo) 4 = true := by
    rw [flag_eq_field (a := 4) _ 0 (n := 1) (by decide), h4]
    rfl
  rw [hd, decodeTransferReg, if_pos f4, hhi, hlo]

/-! The multiple transfers. -/

section
variable (c : Cond) (a : AddrMode) (caret l : Bool) (rn : RegNum) (list : BitVec 16)

theorem fields_encodeMultiple :
    let w := encodeMultiple c a caret l rn list
    field w 28 4 = c.bits ∧ field w 25 3 = 4#3 ∧ rnOf w = rn ∧ field w 0 16 = list := by
  simp (disch := decide) only [encodeMultiple, field, rnOf, BitVec.extractLsb'_append_eq_of_le,
    BitVec.extractLsb'_append_eq_of_add_le, Nat.reduceSub, BitVec.extractLsb'_eq_self, regOf_regBits, and_self]

theorem flags_encodeMultiple :
    let w := encodeMultiple c a caret l rn list
    addrModeOf w = a ∧ flag w 22 = caret ∧ flag w 20 = l := by
  simp only [encodeMultiple, addrModeOf, flag, BitVec.getLsbD_append, Nat.reduceSub, Nat.reduceLT, if_true, if_false]
  simp

theorem decode_encodeMultiple :
    decode (encodeMultiple c a caret l rn list) = some (if l then .ldm c a caret rn list else .stm c a caret rn list) := by
  obtain ⟨hc, hk, hn, hlist⟩ := fields_encodeMultiple c a caret l rn list
  obtain ⟨ha, hcaret, hl⟩ := flags_encodeMultiple c a caret l rn list
  have hd : decode (encodeMultiple c a caret l rn list) = decodeMultiple c (encodeMultiple c a caret l rn list) :=
    decode_conditional hc hk
  rw [hd, decodeMultiple, ha, hcaret, hl, hn, hlist]
  split <;> rfl

end

theorem standsFor_multiple {w : Word} {c : Cond} {i : Instr} (hc : field w 28 4 = c.bits) (hk : field w 25 3 = 4#3)
    (h : decodeMultiple c w = some i) : i.StandsFor w := by
  have hw {l : Bool} (hl : flag w 20 = l) : encodeMultiple c (addrModeOf w) (flag w 22) l (rnOf w) (field w 0 16) = w := by
    simp (disch := decide) only [encodeMultiple, addrModeOf, ofBool_flag, ← hl, ← hc, ← hk, regBits_rnOf, field_append]
    exact field_all w
  rw [decodeMultiple] at h
  split at h
  · next hl =>
    cases h
    exact ⟨rfl, hw hl⟩
  · next hl =>
    cases h
    exact ⟨rfl, hw (by simpa using hl)⟩

/-! The words with 24 low bits. -/

theorem fields_encodeLow24 (c : Cond) (hi : BitVec 4) (low : BitVec 24) :
    let w := encodeLow24 c hi low
    field w 28 4 = c.bits ∧ field w 25 3 = hi.extractLsb' 1 3 ∧ flag w 24 = hi.getLsbD 0 ∧ field w 0 24 = low := by
  refine ⟨?_, ?_, ?_, ?_⟩
  case refine_3 =>
    simp only [encodeLow24, flag, BitVec.getLsbD_append, Nat.reduceSub, Nat.reduceLT, if_true, if_false]
  all_goals
    simp (disch := decide) only [encodeLow24, field, BitVec.extractLsb'_append_eq_of_le,
      BitVec.extractLsb'_append_eq_of_add_le, Nat.reduceSub, BitVec.extractLsb'_eq_self]

theorem decode_encode_b (c : Cond) (imm24 : BitVec 24) : decode (encode (.b c imm24)) = some (.b c imm24) := by
  obtain ⟨hc, hk, h24, hlow⟩ := fields_encodeLow24 c 10#4 imm24
  have hd : decode (encode (.b c imm24)) = decodeBranch c (encodeLow24 c 10#4 imm24) := decode_conditional hc hk
  rw [hd, decodeBranch, h24, hlow]
  rfl

theorem decode_encode_bl (c : Cond) (imm24 : BitVec 24) : decode (encode (.bl c imm24)) = some (.bl c imm24) := by
  obtain ⟨hc, hk, h24, hlow⟩ := fields_encodeLow24 c 11#4 imm24
  have hd : decode (encode (.bl c imm24)) = decodeBranch c (encodeLow24 c 11#4 imm24) := decode_conditional hc hk
  rw [hd, decodeBranch, h24, hlow]
  rfl

theorem decode_encode_swi (c : Cond) (imm24 : BitVec 24) : decode (encode (.swi c imm24)) = some (.swi c imm24) := by
  obtain ⟨hc, hk, h24, hlow⟩ := fields_encodeLow24 c 15#4 imm24
  have hd : decode (encode (.swi c imm24)) = decodeClass7 c (encodeLow24 c 15#4 imm24) := decode_conditional hc hk
  rw [hd, decodeClass7, h24, hlow]
  rfl

/-- A word with 24 low bits is put together from its fields. -/
theorem encodeLow24_fields {w : Word} {c : Cond} {hi : BitVec 4} {k : BitVec 3} {l : Bool} (hc : field w 28 4 = c.bits)
    (hk : field w 25 3 = k) (hl : flag w 24 = l) (hhi : hi = k ++ BitVec.ofBool l) :
    encodeLow24 c hi (field w 0 24) = w := by
  simp (disch := decide) only [encodeLow24, hhi, ← hl, ← hk, ← hc, ofBool_flag, field_append]
  exact field_all w

theorem standsFor_branch {w : Word} {c : Cond} {i : Instr} (hc : field w 28 4 = c.bits) (hk : field w 25 3 = 5#3)
    (h : decodeBranch c w = some i) : i.StandsFor w := by
  rw [decodeBranch] at h
  split at h
  · next hl =>
    cases h
    exact ⟨rfl, encodeLow24_fields hc hk hl rfl⟩
  · next hl =>
    cases h
    exact ⟨rfl, encodeLow24_fields hc hk (by simpa using hl) rfl⟩

end Sys2Proof
end


section
/-! SUPPORT. Decoding and encoding of the coprocessor words (R252, R256 to R261, R263). -/

namespace Sys2Proof

/-! LDC, STC, MRRC and MCRR. -/

/-- LDC and STC by coprocessor and L (R258, R261). -/
def coprocMemoryInstr (c : Cond) (a : CoprocMode) (l : Bool) (rn : RegNum) (crd cp : BitVec 4) (imm8 : BitVec 8) : Instr :=
  if cp = 15#4 then if l then .ldcCp15 c a rn crd imm8 else .stcCp15 c a rn crd imm8
  else if l then .ldcExt c a rn crd cp imm8 else .stcExt c a rn crd cp imm8

/-- MRRC and MCRR by coprocessor and L (R258, R261). -/
def twoRegisterInstr (c : Cond) (l : Bool) (rn rd : RegNum) (cp op crm : BitVec 4) : Instr :=
  if cp = 15#4 then if l then .mrrcCp15 c rn rd op crm else .mcrrCp15 c rn rd op crm
  else if l then .mrrcExt c rn rd cp op crm else .mcrrExt c rn rd cp op crm

theorem decodeCoprocMemory_eq (c : Cond) (w : Word) :
    decodeCoprocMemory c w = some (
      if (coprocModeOf w).notTwoRegister then
        coprocMemoryInstr c (coprocModeOf w) (flag w 20) (rnOf w) (field w 12 4) (field w 8 4) (field w 0 8)
      else twoRegisterInstr c (flag w 20) (rnOf w) (rdOf w) (field w 8 4) (field w 4 4) (field w 0 4)) := by
  simp only [decodeCoprocMemory, coprocMemoryInstr, twoRegisterInstr, apply_ite some]

theorem coprocMemoryInstr_spec (c : Cond) {a : CoprocMode} (l : Bool) (rn : RegNum) (crd cp : BitVec 4) (imm8 : BitVec 8)
    (ha : a.notTwoRegister = true) :
    (coprocMemoryInstr c a l rn crd cp imm8).wellFormed = true ∧
      encode (coprocMemoryInstr c a l rn crd cp imm8) = encodeCoprocMemory c a l rn crd cp imm8 := by
  rw [coprocMemoryInstr]
  split
  · next hcp =>
    subst hcp
    cases l <;> exact ⟨ha, rfl⟩
  · next hcp => cases l <;> exact ⟨by simp [Instr.wellFormed, hcp, ha], rfl⟩

theorem twoRegisterInstr_spec (c : Cond) (l : Bool) (rn rd : RegNum) (cp op crm : BitVec 4) :
    (twoRegisterInstr c l rn rd cp op crm).wellFormed = true ∧
      encode (twoRegisterInstr c l rn rd cp op crm) = encodeTwoRegister c l rn rd cp op crm := by
  rw [twoRegisterInstr]
  split
  · next hcp =>
    subst hcp
    cases l <;> exact ⟨rfl, rfl⟩
  · next hcp => cases l <;> exact ⟨by simp [Instr.wellFormed, hcp], rfl⟩

/-- The addressing bits that make a word one of two registers (R261). -/
theorem notTwoRegister_eq_false {a : CoprocMode} (h : a.notTwoRegister = false) : a = ⟨false, false, true, false⟩ := by
  obtain ⟨p, u, n, w⟩ := a
  revert h
  decide +revert

/-- A word of two registers is an LDC or STC word but for its addressing bits (R261). -/
theorem encodeTwoRegister_eq (c : Cond) (l : Bool) (rn rd : RegNum) (cp op crm : BitVec 4) :
    encodeTwoRegister c l rn rd cp op crm =
      encodeCoprocMemory c ⟨false, false, true, false⟩ l rn (regBits rd) cp (op ++ crm) := by
  have hlow : cp ++ op ++ crm = (cp ++ (op ++ crm) : BitVec 12) := BitVec.append_assoc
  rw [encodeTwoRegister, encodeCoprocMemory, hlow]
  cases l <;> rfl

theorem fields_encodeCoprocMemory (c : Cond) (a : CoprocMode) (l : Bool) (rn : RegNum) (crd cp : BitVec 4) (imm8 : BitVec 8) :
    let w := encodeCoprocMemory c a l rn crd cp imm8
    coprocModeOf w = a ∧ flag w 20 = l ∧ field w 8 4 = cp ∧ field w 0 8 = imm8 ∧
      field w 4 4 = imm8.extractLsb' 4 4 ∧ field w 0 4 = imm8.extractLsb' 0 4 := by
  obtain ⟨-, hp, hu, hn, hv, hl⟩ := fiveFlags_bits 6#3 a.p a.u a.n a.w l
  have flags {j : Nat} (hj : 20 ≤ j) (hj' : j < 28) := flag_encodeStandard_hi c (6#3 ++ BitVec.ofBool a.p ++ BitVec.ofBool a.u ++
    BitVec.ofBool a.n ++ BitVec.ofBool a.w ++ BitVec.ofBool l) (regBits rn) crd (cp ++ imm8) hj hj'
  refine ⟨?_, (flags (by decide) (by decide)).trans hl, ?_⟩
  · rw [coprocModeOf]
    exact congr (congr (congr (congrArg CoprocMode.mk ((flags (by decide) (by decide)).trans hp))
      ((flags (by decide) (by decide)).trans hu)) ((flags (by decide) (by decide)).trans hn))
        ((flags (by decide) (by decide)).trans hv)
  · simp (disch := decide) only [encodeCoprocMemory, field_encodeStandard_lo, BitVec.extractLsb'_append_eq_of_le,
      BitVec.extractLsb'_append_eq_of_add_le, Nat.reduceSub, BitVec.extractLsb'_eq_self, and_self]

/-- The words of this class decode by their addressing bits. -/
theorem decode_encodeCoprocMemory (c : Cond) (a : CoprocMode) (l : Bool) (rn : RegNum) (crd cp : BitVec 4) (imm8 : BitVec 8) :
    decode (encodeCoprocMemory c a l rn crd cp imm8) = some (
      if a.notTwoRegister then coprocMemoryInstr c a l rn crd cp imm8
      else twoRegisterInstr c l rn (regOf crd) cp (imm8.extractLsb' 4 4) (imm8.extractLsb' 0 4)) := by
  obtain ⟨ha, hl, hcp, h08, h44, h04⟩ := fields_encodeCoprocMemory c a l rn crd cp imm8
  have hk : field (encodeCoprocMemory c a l rn crd cp imm8) 25 3 = 6#3 :=
    (field_encodeStandard_hi _ _ _ _ _ (by decide) (by decide)).trans (fiveFlags_bits 6#3 a.p a.u a.n a.w l).1
  have hd : decode (encodeCoprocMemory c a l rn crd cp imm8) = decodeCoprocMemory c (encodeCoprocMemory c a l rn crd cp imm8) :=
    decode_conditional (field_encodeStandard_cond ..) hk
  have hn : rnOf (encodeCoprocMemory c a l rn crd cp imm8) = rn := rnOf_encodeStandard ..
  have hcrd : field (encodeCoprocMemory c a l rn crd cp imm8) 12 4 = crd := field_encodeStandard_rd ..
  have hrd : rdOf (encodeCoprocMemory c a l rn crd cp imm8) = regOf crd := rdOf_encodeStandard ..
  rw [hd, decodeCoprocMemory_eq, ha, hl, hcp, h08, h44, h04, hn, hcrd, hrd]

theorem decode_coprocMemory (c : Cond) {a : CoprocMode} (l : Bool) (rn : RegNum) (crd cp : BitVec 4) (imm8 : BitVec 8)
    (ha : a.notTwoRegister = true) :
    decode (encodeCoprocMemory c a l rn crd cp imm8) = some (coprocMemoryInstr c a l rn crd cp imm8) := by
  rw [decode_encodeCoprocMemory, if_pos ha]

theorem decode_twoRegister (c : Cond) (l : Bool) (rn rd : RegNum) (cp op crm : BitVec 4) :
    decode (encodeTwoRegister c l rn rd cp op crm) = some (twoRegisterInstr c l rn rd cp op crm) := by
  have hop : (op ++ crm : BitVec 8).extractLsb' 4 4 = op := by
    rw [BitVec.extractLsb'_append_eq_of_le (by decide), BitVec.extractLsb'_eq_self]
  have hcrm : (op ++ crm : BitVec 8).extractLsb' 0 4 = crm := by
    rw [BitVec.extractLsb'_append_eq_of_add_le (by decide), BitVec.extractLsb'_eq_self]
  rw [encodeTwoRegister_eq, decode_encodeCoprocMemory, if_neg (by decide), hop, hcrm, regOf_regBits]

theorem encodeCoprocMemory_fields {w : Word} {c : Cond} (hc : field w 28 4 = c.bits) (hk : field w 25 3 = 6#3) :
    encodeCoprocMemory c (coprocModeOf w) (flag w 20) (rnOf w) (field w 12 4) (field w 8 4) (field w 0 8) = w := by
  have high : 6#3 ++ BitVec.ofBool (flag w 24) ++ BitVec.ofBool (flag w 23) ++ BitVec.ofBool (flag w 22) ++
      BitVec.ofBool (flag w 21) ++ BitVec.ofBool (flag w 20) = field w 20 8 := by
    simp (disch := decide) only [ofBool_flag, ← hk, field_append]
  have low : field w 8 4 ++ field w 0 8 = field w 0 12 := field_append rfl
  have hw := encodeStandard_fields hc
  rwa [← high, ← low] at hw

theorem standsFor_coprocMemory {w : Word} {c : Cond} {i : Instr} (hc : field w 28 4 = c.bits) (hk : field w 25 3 = 6#3)
    (h : decodeCoprocMemory c w = some i) : i.StandsFor w := by
  have hw := encodeCoprocMemory_fields hc hk
  rw [decodeCoprocMemory_eq] at h
  cases h
  split
  · next ha =>
    obtain ⟨hwf, he⟩ := coprocMemoryInstr_spec c (flag w 20) (rnOf w) (field w 12 4) (field w 8 4) (field w 0 8) ha
    exact ⟨hwf, he.trans hw⟩
  · next ha =>
    obtain ⟨hwf, he⟩ := twoRegisterInstr_spec c (flag w 20) (rnOf w) (rdOf w) (field w 8 4) (field w 4 4) (field w 0 4)
    have low : field w 4 4 ++ field w 0 4 = field w 0 8 := field_append rfl
    rw [notTwoRegister_eq_false (Bool.eq_false_iff.2 ha)] at hw
    refine ⟨hwf, he.trans ?_⟩
    rw [encodeTwoRegister_eq, low]
    exact hw

/-! CDP. -/

/-- CDP by coprocessor (R258, R261). -/
def cdpInstr (c : Cond) (op1 crn crd cp : BitVec 4) (op2 : BitVec 3) (crm : BitVec 4) : Instr :=
  if cp = 15#4 then .cdpCp15 c op1 crn crd op2 crm else .cdpExt c op1 crn crd cp op2 crm

theorem cdpInstr_spec (c : Cond) (op1 crn crd cp : BitVec 4) (op2 : BitVec 3) (crm : BitVec 4) :
    (cdpInstr c op1 crn crd cp op2 crm).wellFormed = true ∧
      encode (cdpInstr c op1 crn crd cp op2 crm) = encodeCdp c op1 crn crd cp op2 crm := by
  rw [cdpInstr]
  split
  · next hcp => exact ⟨rfl, by rw [hcp]; rfl⟩
  · next hcp => exact ⟨by simp [Instr.wellFormed, hcp], rfl⟩

theorem decodeClass7_cdp {w : Word} (c : Cond) (h24 : flag w 24 = false) (h4 : flag w 4 = false) :
    decodeClass7 c w =
      some (cdpInstr c (field w 20 4) (field w 16 4) (field w 12 4) (field w 8 4) (field w 5 3) (field w 0 4)) := by
  simp only [decodeClass7, h24, h4, Bool.false_eq_true, if_false, cdpInstr, apply_ite some]

theorem fields_encodeCdp (c : Cond) (op1 crn crd cp : BitVec 4) (op2 : BitVec 3) (crm : BitVec 4) :
    let w := encodeCdp c op1 crn crd cp op2 crm
    field w 24 4 = 14#4 ∧ field w 20 4 = op1 ∧ field w 16 4 = crn ∧ field w 12 4 = crd ∧ field w 8 4 = cp ∧
      field w 5 3 = op2 ∧ field w 4 1 = 0#1 ∧ field w 0 4 = crm := by
  simp (disch := decide) only [encodeCdp, field_encodeStandard_hi, field_encodeStandard_rn, field_encodeStandard_rd,
    field_encodeStandard_lo, BitVec.extractLsb'_append_eq_of_le, BitVec.extractLsb'_append_eq_of_add_le, Nat.reduceSub,
    BitVec.extractLsb'_eq_self, and_self]

/-- The class of a word whose bits [27:24] are 1110. -/
theorem class7_of_high {w : Word} (h : field w 24 4 = 14#4) : field w 25 3 = 7#3 ∧ flag w 24 = false := by
  refine ⟨?_, ?_⟩
  · rw [← extract_field (w := w) (a := 24) (i := 1) (n := 4) (by decide), h]
    rfl
  · rw [flag_eq_field (a := 24) w 0 (n := 4) (by decide), h]
    rfl

theorem decode_cdp (c : Cond) (op1 crn crd cp : BitVec 4) (op2 : BitVec 3) (crm : BitVec 4) :
    decode (encodeCdp c op1 crn crd cp op2 crm) = some (cdpInstr c op1 crn crd cp op2 crm) := by
  obtain ⟨hhi, hop1, hcrn, hcrd, hcp, hop2, h4, hcrm⟩ := fields_encodeCdp c op1 crn crd cp op2 crm
  obtain ⟨hk, h24⟩ := class7_of_high hhi
  have f4 : flag (encodeCdp c op1 crn crd cp op2 crm) 4 = false := by
    rw [flag_eq_field (a := 4) _ 0 (n := 1) (by decide), h4]
    rfl
  have hd : decode (encodeCdp c op1 crn crd cp op2 crm) = decodeClass7 c (encodeCdp c op1 crn crd cp op2 crm) :=
    decode_conditional (field_encodeStandard_cond ..) hk
  rw [hd, decodeClass7_cdp c h24 f4, hop1, hcrn, hcrd, hcp, hop2, hcrm]

/-- Bits [27:24] of an MCR, MRC or CDP word. -/
theorem high_of_class7 {w : Word} (hk : field w 25 3 = 7#3) (h24 : flag w 24 = false) : field w 24 4 = 14#4 := by
  rw [← field_append (w := w) (b := 25) (a := 24) (n := 3) (k := 1) rfl, hk, ← ofBool_flag, h24]
  rfl

theorem encodeCdp_fields {w : Word} {c : Cond} (hc : field w 28 4 = c.bits) (hhi : field w 24 4 = 14#4)
    (h4 : flag w 4 = false) :
    encodeCdp c (field w 20 4) (field w 16 4) (field w 12 4) (field w 8 4) (field w 5 3) (field w 0 4) = w := by
  have hzero : 0#1 = field w 4 1 := by rw [← ofBool_flag, h4]; rfl
  simp (disch := decide) only [encodeCdp, ← hhi, hzero, field_append]
  exact encodeStandard_fields hc

theorem standsFor_cdp {w : Word} {c : Cond} {i : Instr} (hc : field w 28 4 = c.bits) (hk : field w 25 3 = 7#3)
    (h24 : flag w 24 = false) (h4 : flag w 4 = false) (h : decodeClass7 c w = some i) : i.StandsFor w := by
  rw [decodeClass7_cdp c h24 h4] at h
  cases h
  obtain ⟨hwf, he⟩ := cdpInstr_spec c (field w 20 4) (field w 16 4) (field w 12 4) (field w 8 4) (field w 5 3) (field w 0 4)
  exact ⟨hwf, he.trans (encodeCdp_fields hc (high_of_class7 hk h24) h4)⟩

/-! MCR and MRC. -/

section
variable (c : Cond) (rd : RegNum) (hi lo : BitVec 12)

theorem field_encodeCp15_hi {a k : Nat} (h : 16 ≤ a) (h' : a + k ≤ 28) :
    field (encodeCp15 c rd hi lo) a k = hi.extractLsb' (a - 16) k := by
  rw [field, encodeCp15, BitVec.extractLsb'_append_eq_of_le (by omega), BitVec.extractLsb'_append_eq_of_le (by omega),
    BitVec.extractLsb'_append_eq_of_add_le (by omega), Nat.sub_sub]

theorem field_encodeCp15_lo {a k : Nat} (h : a + k ≤ 12) : field (encodeCp15 c rd hi lo) a k = lo.extractLsb' a k :=
  BitVec.extractLsb'_append_eq_of_add_le h

theorem field_encodeCp15_whole :
    field (encodeCp15 c rd hi lo) 28 4 = c.bits ∧ field (encodeCp15 c rd hi lo) 16 12 = hi ∧
      field (encodeCp15 c rd hi lo) 12 4 = regBits rd ∧ field (encodeCp15 c rd hi lo) 0 12 = lo := by
  simp (disch := decide) only [encodeCp15, field, BitVec.extractLsb'_append_eq_of_le,
    BitVec.extractLsb'_append_eq_of_add_le, Nat.reduceSub, BitVec.extractLsb'_eq_self, and_self]

theorem rdOf_encodeCp15 : rdOf (encodeCp15 c rd hi lo) = rd :=
  congrArg regOf (field_encodeCp15_whole c rd hi lo).2.2.1

end

/-- A word with bits [27:24] = 1110 and bit 4 set is an MCR or MRC. -/
theorem decode_encodeCp15 (c : Cond) (rd : RegNum) {hi lo : BitVec 12} (hhi : hi.extractLsb' 8 4 = 14#4)
    (h4 : lo.extractLsb' 4 1 = 1#1) : decode (encodeCp15 c rd hi lo) = decodeTransfer c (encodeCp15 c rd hi lo) := by
  obtain ⟨hk, h24⟩ := class7_of_high ((field_encodeCp15_hi c rd hi lo (a := 24) (by decide) (by decide)).trans hhi)
  have f4 : flag (encodeCp15 c rd hi lo) 4 = true := by
    rw [flag_eq_field (a := 4) _ 0 (n := 1) (by decide), field_encodeCp15_lo c rd hi lo (by decide), h4]
    rfl
  have hd : decode (encodeCp15 c rd hi lo) = decodeClass7 c (encodeCp15 c rd hi lo) :=
    decode_conditional (field_encodeCp15_whole c rd hi lo).1 hk
  rw [hd, decodeClass7, if_neg (by simp [h24]), if_pos f4]

theorem transferHi_bits (op1 : BitVec 3) (l : Bool) (crn : BitVec 4) :
    (transferHi op1 l crn).extractLsb' 8 4 = 14#4 ∧ (transferHi op1 l crn).extractLsb' 5 3 = op1 ∧
      (transferHi op1 l crn).extractLsb' 4 1 = BitVec.ofBool l ∧ (transferHi op1 l crn).extractLsb' 0 4 = crn := by
  simp (disch := decide) only [transferHi, BitVec.extractLsb'_append_eq_of_le, BitVec.extractLsb'_append_eq_of_add_le,
    Nat.reduceSub, BitVec.extractLsb'_eq_self, and_self]

theorem transferLo_bits (cp : BitVec 4) (op2 : BitVec 3) (crm : BitVec 4) :
    (transferLo cp op2 crm).extractLsb' 8 4 = cp ∧ (transferLo cp op2 crm).extractLsb' 5 3 = op2 ∧
      (transferLo cp op2 crm).extractLsb' 4 1 = 1#1 ∧ (transferLo cp op2 crm).extractLsb' 0 4 = crm := by
  simp (disch := decide) only [transferLo, BitVec.extractLsb'_append_eq_of_le, BitVec.extractLsb'_append_eq_of_add_le,
    Nat.reduceSub, BitVec.extractLsb'_eq_self, and_self]

theorem transferHi_fields {w : Word} (h : field w 24 4 = 14#4) :
    transferHi (field w 21 3) (flag w 20) (field w 16 4) = field w 16 12 := by
  simp (disch := decide) only [transferHi, ofBool_flag, ← h, field_append]

theorem transferLo_fields {w : Word} (h4 : flag w 4 = true) :
    transferLo (field w 8 4) (field w 5 3) (field w 0 4) = field w 0 12 := by
  have hone : 1#1 = field w 4 1 := by rw [← ofBool_flag, h4]; rfl
  simp (disch := decide) only [transferLo, hone, field_append]

theorem encodeCp15_fields {w : Word} {c : Cond} (hc : field w 28 4 = c.bits) :
    encodeCp15 c (rdOf w) (field w 16 12) (field w 0 12) = w := by
  simp (disch := decide) only [encodeCp15, regBits_rdOf, ← hc, field_append]
  exact field_all w

/-- An MCR or MRC word is put together from its fields. -/
theorem encodeTransfer_fields {w : Word} {c : Cond} (hc : field w 28 4 = c.bits) (hhi : field w 24 4 = 14#4)
    (h4 : flag w 4 = true) :
    encodeTransfer c (field w 21 3) (flag w 20) (field w 16 4) (rdOf w) (field w 8 4) (field w 5 3) (field w 0 4) = w := by
  rw [encodeTransfer, transferHi_fields hhi, transferLo_fields h4, encodeCp15_fields hc]

/-- The fields of an MCR or MRC word. -/
theorem fields_encodeTransfer (c : Cond) (op1 : BitVec 3) (l : Bool) (crn : BitVec 4) (rd : RegNum) (cp : BitVec 4)
    (op2 : BitVec 3) (crm : BitVec 4) :
    let w := encodeTransfer c op1 l crn rd cp op2 crm
    field w 21 3 = op1 ∧ flag w 20 = l ∧ field w 16 4 = crn ∧ field w 8 4 = cp ∧ field w 5 3 = op2 ∧ field w 0 4 = crm := by
  obtain ⟨-, hop1, hl, hcrn⟩ := transferHi_bits op1 l crn
  obtain ⟨hcp, hop2, -, hcrm⟩ := transferLo_bits cp op2 crm
  have high {a k : Nat} (h : 16 ≤ a) (h' : a + k ≤ 28) :=
    field_encodeCp15_hi c rd (transferHi op1 l crn) (transferLo cp op2 crm) h h'
  have low {a k : Nat} (h : a + k ≤ 12) := field_encodeCp15_lo c rd (transferHi op1 l crn) (transferLo cp op2 crm) h
  refine ⟨(high (by decide) (by decide)).trans hop1, ?_, (high (by decide) (by decide)).trans hcrn,
    (low (by decide)).trans hcp, (low (by decide)).trans hop2, (low (by decide)).trans hcrm⟩
  rw [flag_eq_field (a := 20) _ 0 (n := 1) (by decide)]
  exact (congrArg (fun x : BitVec 1 => x.getLsbD 0) ((high (by decide) (by decide)).trans hl)).trans (by cases l <;> rfl)

theorem decode_encodeTransfer (c : Cond) (op1 : BitVec 3) (l : Bool) (crn : BitVec 4) (rd : RegNum) (cp : BitVec 4)
    (op2 : BitVec 3) (crm : BitVec 4) :
    decode (encodeTransfer c op1 l crn rd cp op2 crm) = decodeTransfer c (encodeTransfer c op1 l crn rd cp op2 crm) :=
  decode_encodeCp15 c rd (transferHi_bits op1 l crn).1 (transferLo_bits cp op2 crm).2.2.1

/-! MCR and MRC to an external coprocessor. -/

/-- MRC and MCR to an external coprocessor by L (R461). -/
def extTransferInstr (c : Cond) (op1 : BitVec 3) (l : Bool) (crn : BitVec 4) (rd : RegNum) (cp : BitVec 4) (op2 : BitVec 3)
    (crm : BitVec 4) : Instr :=
  if l then .mrcExt c op1 crn rd cp op2 crm else .mcrExt c op1 crn rd cp op2 crm

theorem extTransferInstr_spec (c : Cond) (op1 : BitVec 3) (l : Bool) (crn : BitVec 4) (rd : RegNum) {cp : BitVec 4}
    (op2 : BitVec 3) (crm : BitVec 4) (hcp : cp ≠ 15#4) :
    (extTransferInstr c op1 l crn rd cp op2 crm).wellFormed = true ∧
      encode (extTransferInstr c op1 l crn rd cp op2 crm) = encodeTransfer c op1 l crn rd cp op2 crm := by
  cases l <;> exact ⟨bne_iff_ne.2 hcp, rfl⟩

theorem decodeTransfer_ext {w : Word} (c : Cond) (hcp : field w 8 4 ≠ 15#4) :
    decodeTransfer c w =
      some (extTransferInstr c (field w 21 3) (flag w 20) (field w 16 4) (rdOf w) (field w 8 4) (field w 5 3) (field w 0 4)) := by
  simp only [decodeTransfer, hcp, if_false, extTransferInstr, apply_ite some]

theorem decode_extTransfer (c : Cond) (op1 : BitVec 3) (l : Bool) (crn : BitVec 4) (rd : RegNum) {cp : BitVec 4}
    (op2 : BitVec 3) (crm : BitVec 4) (hcp : cp ≠ 15#4) :
    decode (encodeTransfer c op1 l crn rd cp op2 crm) = some (extTransferInstr c op1 l crn rd cp op2 crm) := by
  obtain ⟨hop1, hl, hcrn, hcp', hop2, hcrm⟩ := fields_encodeTransfer c op1 l crn rd cp op2 crm
  have hrd : rdOf (encodeTransfer c op1 l crn rd cp op2 crm) = rd := rdOf_encodeCp15 ..
  rw [decode_encodeTransfer, decodeTransfer_ext c (by rwa [hcp']), hop1, hl, hcrn, hrd, hcp', hop2, hcrm]

end Sys2Proof
end


section
/-! SUPPORT. Decoding and encoding of the CP15 transfers (R256, R257) and of the unconditional words (R470, R509), and the two
statements about the whole table (R253, R263). -/

namespace Sys2Proof

/-! The map of the defined CP15 accesses. -/

/-- Each row of the map holds the fields of its instruction's word. -/
theorem cp15Map_encode :
    ∀ r ∈ cp15Map, ∀ c rd, (r.2.2 c rd).wellFormed = true ∧ encode (r.2.2 c rd) = encodeCp15 c rd r.1 r.2.1 := by
  simp only [cp15Map, cp15MapA, cp15MapB, cp15MapC, cp15MapD, cp15MapE, cp15MapF, cp15MapG, cp15MapH,
    List.forall_mem_append, List.forall_mem_cons, List.not_mem_nil, false_implies, implies_true, and_true]
  and_intros
  all_goals exact fun _ _ => ⟨rfl, rfl⟩

/-- No defined access lies in one of the spaces of R257. -/
theorem cp15Map_unlisted :
    ∀ r ∈ cp15Map, r.1.extractLsb' 0 4 ≠ 4#4 ∧ r.1.extractLsb' 0 4 ≠ 11#4 ∧ r.1.extractLsb' 0 4 ≠ 12#4 ∧
      r.1.extractLsb' 0 4 ≠ 14#4 ∧ ¬(r.1.extractLsb' 0 4 = 0#4 ∧ r.1.extractLsb' 4 1 = 0#1) ∧
      ¬(r.1.extractLsb' 0 4 = 8#4 ∧ r.1.extractLsb' 4 1 = 1#1) := by
  decide +kernel

/-- The fixed bits of the map are those of an MCR or MRC to coprocessor 15 (R252). -/
theorem cp15Map_fixed :
    ∀ r ∈ cp15Map, r.1.extractLsb' 8 4 = 14#4 ∧ r.2.1.extractLsb' 8 4 = 15#4 ∧ r.2.1.extractLsb' 4 1 = 1#1 := by
  decide +kernel

theorem mem_of_cp15Find {hi lo : BitVec 12} {f : Cond → RegNum → Instr} (h : cp15Find hi lo = some f) :
    (hi, lo, f) ∈ cp15Map := by
  obtain ⟨⟨hi', lo', f'⟩, hr, rfl⟩ := Option.map_eq_some_iff.1 h
  obtain ⟨rfl, rfl⟩ : hi' = hi ∧ lo' = lo := by simpa using List.find?_some hr
  exact List.mem_of_find?_eq_some hr

/-- What a word of the map decodes to encodes to it. -/
theorem encode_of_cp15Find {hi lo : BitVec 12} {f : Cond → RegNum → Instr} (h : cp15Find hi lo = some f) (c : Cond)
    (rd : RegNum) : (f c rd).wellFormed = true ∧ encode (f c rd) = encodeCp15 c rd hi lo :=
  cp15Map_encode _ (mem_of_cp15Find h) c rd

/-- A defined access decodes to its instruction. -/
theorem decode_cp15 (c : Cond) (rd : RegNum) {hi lo : BitVec 12} {f : Cond → RegNum → Instr} (h : cp15Find hi lo = some f) :
    decode (encodeCp15 c rd hi lo) = some (f c rd) := by
  obtain ⟨hhi, hcp, h4⟩ := cp15Map_fixed _ (mem_of_cp15Find h)
  obtain ⟨-, hwhi, -, hwlo⟩ := field_encodeCp15_whole c rd hi lo
  have hwcp : field (encodeCp15 c rd hi lo) 8 4 = 15#4 := (field_encodeCp15_lo c rd hi lo (by decide)).trans hcp
  rw [decode_encodeCp15 c rd hhi h4, decodeTransfer, if_pos hwcp, hwhi, hwlo, h, rdOf_encodeCp15]

/-- The accesses that the map does not hold, by the space they lie in (R257). -/
def unlistedInstr (c : Cond) (op1 : BitVec 3) (l : Bool) (crn : BitVec 4) (rd : RegNum) (op2 : BitVec 3) (crm : BitVec 4) :
    Instr :=
  if crn = 0#4 ∧ l = false then .cp15WriteC0 c op1 rd crm op2
  else if crn = 4#4 then .cp15AccessC4 c op1 l rd crm op2
  else if crn = 11#4 then .cp15AccessC11 c op1 l rd crm op2
  else if crn = 12#4 then .cp15AccessC12 c op1 l rd crm op2
  else if crn = 14#4 then .cp15AccessC14 c op1 l rd crm op2
  else if crn = 8#4 ∧ l = true ∧ op1 = 0#3 then .cp15ReadC8 c rd crm op2
  else .cp15Other c op1 l crn rd crm op2

theorem decodeCp15Unlisted_eq (c : Cond) (w : Word) :
    decodeCp15Unlisted c w =
      unlistedInstr c (field w 21 3) (flag w 20) (field w 16 4) (rdOf w) (field w 5 3) (field w 0 4) := rfl

theorem cp15Unlisted_iff (op1 : BitVec 3) (l : Bool) (crn crm : BitVec 4) (op2 : BitVec 3) :
    cp15Unlisted op1 l crn crm op2 = true ↔
      cp15Find (transferHi op1 l crn) (transferLo 15#4 op2 crm) = none ∧ crn ≠ 4#4 ∧ crn ≠ 11#4 ∧ crn ≠ 12#4 ∧ crn ≠ 14#4 ∧
        ¬(crn = 0#4 ∧ l = false) ∧ ¬(crn = 8#4 ∧ l = true ∧ op1 = 0#3) := by
  simp only [cp15Unlisted, Bool.and_eq_true, bne_iff_ne, ne_eq, Bool.not_eq_true', ← Bool.not_eq_true, beq_iff_eq,
    Option.isNone_iff_eq_none, and_assoc]

theorem unlistedInstr_spec (c : Cond) {op1 : BitVec 3} {l : Bool} {crn : BitVec 4} (rd : RegNum) {op2 : BitVec 3}
    {crm : BitVec 4} (h : cp15Find (transferHi op1 l crn) (transferLo 15#4 op2 crm) = none) :
    (unlistedInstr c op1 l crn rd op2 crm).wellFormed = true ∧
      encode (unlistedInstr c op1 l crn rd op2 crm) = encodeTransfer c op1 l crn rd 15#4 op2 crm := by
  rw [unlistedInstr]
  split
  · next h0 =>
    obtain ⟨rfl, rfl⟩ := h0
    exact ⟨rfl, rfl⟩
  split
  · next h4 =>
    subst h4
    exact ⟨rfl, rfl⟩
  split
  · next h11 =>
    subst h11
    exact ⟨rfl, rfl⟩
  split
  · next h12 =>
    subst h12
    exact ⟨rfl, rfl⟩
  split
  · next h14 =>
    subst h14
    exact ⟨rfl, rfl⟩
  split
  · next h8 =>
    obtain ⟨rfl, rfl, rfl⟩ := h8
    exact ⟨rfl, rfl⟩
  · next h0 h4 h11 h12 h14 h8 =>
    exact ⟨(cp15Unlisted_iff ..).2 ⟨h, h4, h11, h12, h14, h0, h8⟩, rfl⟩

/-- A transfer that the map does not hold decodes by its space. -/
theorem decode_unlisted (c : Cond) {op1 : BitVec 3} {l : Bool} {crn : BitVec 4} (rd : RegNum) {op2 : BitVec 3}
    {crm : BitVec 4} (h : cp15Find (transferHi op1 l crn) (transferLo 15#4 op2 crm) = none) :
    decode (encodeTransfer c op1 l crn rd 15#4 op2 crm) = some (unlistedInstr c op1 l crn rd op2 crm) := by
  obtain ⟨hop1, hl, hcrn, hcp, hop2, hcrm⟩ := fields_encodeTransfer c op1 l crn rd 15#4 op2 crm
  have hrd : rdOf (encodeTransfer c op1 l crn rd 15#4 op2 crm) = rd := rdOf_encodeCp15 ..
  obtain ⟨-, hwhi, -, hwlo⟩ := field_encodeCp15_whole c rd (transferHi op1 l crn) (transferLo 15#4 op2 crm)
  have hfind : cp15Find (field (encodeTransfer c op1 l crn rd 15#4 op2 crm) 16 12)
      (field (encodeTransfer c op1 l crn rd 15#4 op2 crm) 0 12) = none :=
    (congrArg₂ cp15Find hwhi hwlo).trans h
  rw [decode_encodeTransfer, decodeTransfer, if_pos hcp, hfind, decodeCp15Unlisted_eq, hop1, hl, hcrn, hrd, hop2, hcrm]

/-- An access whose row would lie in one of the spaces of R257 is not in the map. -/
theorem cp15Find_none {hi lo : BitVec 12}
    (h : hi.extractLsb' 0 4 = 4#4 ∨ hi.extractLsb' 0 4 = 11#4 ∨ hi.extractLsb' 0 4 = 12#4 ∨ hi.extractLsb' 0 4 = 14#4 ∨
      (hi.extractLsb' 0 4 = 0#4 ∧ hi.extractLsb' 4 1 = 0#1) ∨ (hi.extractLsb' 0 4 = 8#4 ∧ hi.extractLsb' 4 1 = 1#1)) :
    cp15Find hi lo = none := by
  refine Option.eq_none_iff_forall_ne_some.2 fun f hf => ?_
  obtain ⟨h4, h11, h12, h14, h0, h8⟩ := cp15Map_unlisted _ (mem_of_cp15Find hf)
  rcases h with h | h | h | h | h | h
  exacts [h4 h, h11 h, h12 h, h14 h, h0 h, h8 h]

/-- The space of R257 that a transfer lies in. -/
theorem cp15Find_transfer_none {op1 op2 : BitVec 3} {l : Bool} {crn crm : BitVec 4}
    (h : crn = 4#4 ∨ crn = 11#4 ∨ crn = 12#4 ∨ crn = 14#4 ∨ (crn = 0#4 ∧ l = false) ∨ (crn = 8#4 ∧ l = true)) :
    cp15Find (transferHi op1 l crn) (transferLo 15#4 op2 crm) = none := by
  obtain ⟨-, -, hl, hcrn⟩ := transferHi_bits op1 l crn
  refine cp15Find_none ?_
  rw [hl, hcrn]
  rcases h with h | h | h | h | ⟨h, rfl⟩ | ⟨h, rfl⟩
  exacts [.inl h, .inr (.inl h), .inr (.inr (.inl h)), .inr (.inr (.inr (.inl h))), .inr (.inr (.inr (.inr (.inl ⟨h, rfl⟩)))),
    .inr (.inr (.inr (.inr (.inr ⟨h, rfl⟩))))]

theorem unlistedInstr_other {op1 : BitVec 3} {l : Bool} {crn : BitVec 4} {op2 : BitVec 3} {crm : BitVec 4} (c : Cond)
    (rd : RegNum) (h : cp15Unlisted op1 l crn crm op2 = true) :
    unlistedInstr c op1 l crn rd op2 crm = .cp15Other c op1 l crn rd crm op2 ∧
      cp15Find (transferHi op1 l crn) (transferLo 15#4 op2 crm) = none := by
  obtain ⟨hnone, h4, h11, h12, h14, h0, h8⟩ := (cp15Unlisted_iff ..).1 h
  exact ⟨by rw [unlistedInstr, if_neg h0, if_neg h4, if_neg h11, if_neg h12, if_neg h14, if_neg h8], hnone⟩

theorem standsFor_transfer {w : Word} {c : Cond} {i : Instr} (hc : field w 28 4 = c.bits) (hhi : field w 24 4 = 14#4)
    (h4 : flag w 4 = true) (h : decodeTransfer c w = some i) : i.StandsFor w := by
  have hw := encodeTransfer_fields hc hhi h4
  by_cases hcp : field w 8 4 = 15#4
  · rw [decodeTransfer, if_pos hcp] at h
    cases hf : cp15Find (field w 16 12) (field w 0 12) with
    | some f =>
      rw [hf] at h
      cases h
      obtain ⟨hwf, he⟩ := encode_of_cp15Find hf c (rdOf w)
      exact ⟨hwf, he.trans (encodeCp15_fields hc)⟩
    | none =>
      rw [hf] at h
      cases h
      rw [← transferHi_fields hhi, ← transferLo_fields h4, hcp] at hf
      obtain ⟨hwf, he⟩ := unlistedInstr_spec c (rdOf w) hf
      rw [hcp] at hw
      exact ⟨hwf, he.trans hw⟩
  · rw [decodeTransfer_ext c hcp] at h
    cases h
    obtain ⟨hwf, he⟩ := extTransferInstr_spec c (field w 21 3) (flag w 20) (field w 16 4) (rdOf w) (field w 5 3) (field w 0 4) hcp
    exact ⟨hwf, he.trans hw⟩

theorem standsFor_class7 {w : Word} {c : Cond} {i : Instr} (hc : field w 28 4 = c.bits) (hk : field w 25 3 = 7#3)
    (h : decodeClass7 c w = some i) : i.StandsFor w := by
  cases h24 : flag w 24 with
  | true =>
    rw [decodeClass7, if_pos h24] at h
    cases h
    exact ⟨rfl, encodeLow24_fields hc hk h24 rfl⟩
  | false =>
    cases h4 : flag w 4 with
    | true =>
      rw [decodeClass7, if_neg (by simp [h24]), if_pos h4] at h
      exact standsFor_transfer hc (high_of_class7 hk h24) h4 h
    | false => exact standsFor_cdp hc hk h24 h4 h

/-! The unconditional words. -/

theorem decode_encode_coprocUnconditional {top : BitVec 2} (mid : BitVec 12) (cp : BitVec 4) (low : BitVec 8) (h : top ≠ 3#2) :
    decode (encode (.coprocUnconditional top mid cp low)) = some (.coprocUnconditional top mid cp low) := by
  have fields : let w := 63#6 ++ top ++ mid ++ cp ++ low
      field w 28 4 = 15#4 ∧ field w 26 2 = 3#2 ∧ field w 24 2 = top ∧ field w 12 12 = mid ∧ field w 8 4 = cp ∧
        field w 0 8 = low := by
    simp (disch := decide) only [field, BitVec.extractLsb'_append_eq_of_le, BitVec.extractLsb'_append_eq_of_add_le,
      Nat.reduceSub, BitVec.extractLsb'_eq_self, and_self, and_true]
    decide
  obtain ⟨h28, h26, h24, h12, h8, h0⟩ := fields
  have hd : decode (encode (.coprocUnconditional top mid cp low)) = decodeUnconditional (63#6 ++ top ++ mid ++ cp ++ low) :=
    decode_unconditional h28
  rw [hd, decodeUnconditional, if_pos ⟨h26, by rwa [h24]⟩, h24, h12, h8, h0]

theorem decode_encode_pld (i u : Bool) (rn : RegNum) (off : BitVec 12) :
    decode (encode (.pld i u rn off)) = some (.pld i u rn off) := by
  have fields : let w := 61#6 ++ BitVec.ofBool i ++ 1#1 ++ BitVec.ofBool u ++ 5#3 ++ regBits rn ++ 15#4 ++ off
      field w 28 4 = 15#4 ∧ field w 26 2 = 1#2 ∧ field w 20 3 = 5#3 ∧ rnOf w = rn ∧ field w 12 4 = 15#4 ∧
        field w 0 12 = off := by
    simp (disch := decide) only [field, rnOf, BitVec.extractLsb'_append_eq_of_le, BitVec.extractLsb'_append_eq_of_add_le,
      Nat.reduceSub, BitVec.extractLsb'_eq_self, regOf_regBits, and_self, and_true]
    decide
  have flags : let w := 61#6 ++ BitVec.ofBool i ++ 1#1 ++ BitVec.ofBool u ++ 5#3 ++ regBits rn ++ 15#4 ++ off
      flag w 24 = true ∧ flag w 25 = i ∧ flag w 23 = u := by
    simp only [flag, BitVec.getLsbD_append, Nat.reduceSub, Nat.reduceLT, if_true, if_false]
    simp
  obtain ⟨h28, h26, h20, hn, h12, h0⟩ := fields
  obtain ⟨h24, h25, h23⟩ := flags
  have hd : decode (encode (.pld i u rn off)) =
      decodeUnconditional (61#6 ++ BitVec.ofBool i ++ 1#1 ++ BitVec.ofBool u ++ 5#3 ++ regBits rn ++ 15#4 ++ off) :=
    decode_unconditional h28
  rw [hd, decodeUnconditional, if_neg (by simp [h26]), if_pos ⟨h26, h24, h20, h12⟩, h25, h23, hn, h0]

theorem standsFor_unconditional {w : Word} {i : Instr} (h28 : field w 28 4 = 15#4) (h : decodeUnconditional w = some i) :
    i.StandsFor w := by
  have high {n : BitVec 2} (h26 : field w 26 2 = n) : 15#4 ++ n = field w 26 6 := by
    simp (disch := decide) only [← h26, ← h28, field_append]
  rw [decodeUnconditional] at h
  split at h
  · next ht =>
    obtain ⟨h26, h24⟩ := ht
    cases h
    refine ⟨bne_iff_ne.2 h24, ?_⟩
    change 15#4 ++ 3#2 ++ field w 24 2 ++ field w 12 12 ++ field w 8 4 ++ field w 0 8 = w
    simp (disch := decide) only [high h26, field_append]
    exact field_all w
  · obtain ⟨⟨h26, h24, h20, h12⟩, he⟩ := Option.ite_none_right_eq_some.1 h
    cases he
    refine ⟨rfl, ?_⟩
    change 15#4 ++ 1#2 ++ BitVec.ofBool (flag w 25) ++ BitVec.ofBool true ++ BitVec.ofBool (flag w 23) ++ 5#3 ++
      field w 16 4 ++ 15#4 ++ field w 0 12 = w
    rw [high h26]
    simp (disch := decide) only [← h24, ← h20, ← h12, ofBool_flag, field_append]
    exact field_all w

/-! The whole table. -/

/-- Settles O2: the class of the word, and then each decoder of a class puts its word together again. -/
theorem encodeOfDecode : Obligations.EncodeOfDecode := by
  intro w i h
  change i.StandsFor w
  cases hcond : condOf (field w 28 4) with
  | none =>
    have h28 := eq_of_condOf_none hcond
    exact standsFor_unconditional h28 ((decode_unconditional h28).symm.trans h)
  | some c =>
    have hc : field w 28 4 = c.bits := (bits_of_condOf hcond).symm
    have class_cases (k : BitVec 3) : k = 0#3 ∨ k = 1#3 ∨ k = 2#3 ∨ k = 3#3 ∨ k = 4#3 ∨ k = 5#3 ∨ k = 6#3 ∨ k = 7#3 := by
      revert k
      decide
    rcases class_cases (field w 25 3) with hk | hk | hk | hk | hk | hk | hk | hk
    all_goals rw [decode_conditional hc hk] at h
    · exact standsFor_class0 hc hk h
    · exact standsFor_class1 hc hk h
    · exact standsFor_transferImm hc hk h
    · exact standsFor_transferReg hc hk h
    · exact standsFor_multiple hc hk h
    · exact standsFor_branch hc hk h
    · exact standsFor_coprocMemory hc hk h
    · exact standsFor_class7 hc hk h

/-- Settles O1: by families of instructions, the fields of each family's word are read back by the decoder of its class. -/
theorem decodeOfEncode : Obligations.DecodeOfEncode := by
  intro i hw
  cases i with
  | mrcId | mrcCacheType | mrcTcmStatus | mrcIdAlias3 | mrcIdAlias4 | mrcIdAlias5 | mrcIdAlias6 | mrcIdAlias7 | mrcControl
  | mcrControl | mrcTtbr | mcrTtbr | mrcDacr | mcrDacr | mrcDfsr | mcrDfsr | mrcIfsr | mcrIfsr | mrcFar | mcrFar
  | mcrWaitForInterrupt | mcrInvalidateICache | mcrInvalidateICacheMva | mcrInvalidateICacheSetWay | mcrInvalidateDCache
  | mcrInvalidateDCacheMva | mcrInvalidateDCacheSetWay | mcrInvalidateCaches | mcrCleanDCacheMva | mcrCleanDCacheSetWay
  | mcrDrainWriteBuffer | mcrPrefetchICacheLine | mcrCleanInvalidateDCacheMva | mcrCleanInvalidateDCacheSetWay
  | mrcTestClean | mrcTestCleanInvalidate | mcrInvalidateTlb | mcrInvalidateTlbEntry | mcrInvalidateITlb
  | mcrInvalidateITlbEntry | mcrInvalidateDTlb | mcrInvalidateDTlbEntry | mrcDCacheLockdown | mcrDCacheLockdown
  | mrcICacheLockdown | mcrICacheLockdown | mrcDTcmRegion | mcrDTcmRegion | mrcITcmRegion | mcrITcmRegion | mrcTlbLockdown
  | mcrTlbLockdown | mrcFcsePid | mcrFcsePid | mrcContextId | mcrContextId | mrcDebugOverride | mcrDebugOverride
  | mrcDebugTestAddress | mcrDebugTestAddress | mrcMemoryRegionRemap | mcrMemoryRegionRemap | mrcTraceControl
  | mcrTraceControl | mrcMainTlbTag4 | mcrMainTlbTag4 | mrcMainTlbPa4 | mcrMainTlbPa4 | mcrMainTlbTransfer4
  | mrcLockTlbTag4 | mcrLockTlbTag4 | mrcLockTlbPa4 | mcrLockTlbPa4 | mcrLockTlbTransfer4 | mrcMainTlbTag5
  | mcrMainTlbTag5 | mrcMainTlbPa5 | mcrMainTlbPa5 | mcrMainTlbTransfer5 | mrcLockTlbTag5 | mcrLockTlbTag5 | mrcLockTlbPa5
  | mcrLockTlbPa5 | mcrLockTlbTransfer5 | mrcCacheDebugControl | mcrCacheDebugControl | mrcMmuDebugControl
  | mcrMmuDebugControl =>
    exact decode_cp15 _ _ rfl
  | cp15WriteC0 => exact decode_unlisted _ _ (cp15Find_transfer_none (by decide))
  | cp15AccessC4 => exact decode_unlisted _ _ (cp15Find_transfer_none (.inl rfl))
  | cp15AccessC11 => exact decode_unlisted _ _ (cp15Find_transfer_none (.inr (.inl rfl)))
  | cp15AccessC12 => exact decode_unlisted _ _ (cp15Find_transfer_none (.inr (.inr (.inl rfl))))
  | cp15AccessC14 => exact decode_unlisted _ _ (cp15Find_transfer_none (.inr (.inr (.inr (.inl rfl)))))
  | cp15ReadC8 => exact decode_unlisted _ _ (cp15Find_transfer_none (by decide))
  | cp15Other c _ _ _ rd =>
    obtain ⟨hother, hnone⟩ := unlistedInstr_other c rd hw
    exact (decode_unlisted c rd hnone).trans (congrArg some hother)
  | cdpCp15 c op1 crn crd op2 crm => exact decode_cdp c op1 crn crd 15#4 op2 crm
  | mcrrCp15 c rn rd op crm => exact decode_twoRegister c false rn rd 15#4 op crm
  | mrrcCp15 c rn rd op crm => exact decode_twoRegister c true rn rd 15#4 op crm
  | ldcCp15 c a rn crd imm8 => exact decode_coprocMemory c true rn crd 15#4 imm8 hw
  | stcCp15 c a rn crd imm8 => exact decode_coprocMemory c false rn crd 15#4 imm8 hw
  | mcrrExt c rn rd cp op crm =>
    exact (decode_twoRegister c false rn rd cp op crm).trans (congrArg some (if_neg (bne_iff_ne.1 hw)))
  | mrrcExt c rn rd cp op crm =>
    exact (decode_twoRegister c true rn rd cp op crm).trans (congrArg some (if_neg (bne_iff_ne.1 hw)))
  | cdpExt c op1 crn crd cp op2 crm =>
    exact (decode_cdp c op1 crn crd cp op2 crm).trans (congrArg some (if_neg (bne_iff_ne.1 hw)))
  | mcrExt c op1 crn rd cp op2 crm => exact decode_extTransfer c op1 false crn rd op2 crm (bne_iff_ne.1 hw)
  | mrcExt c op1 crn rd cp op2 crm => exact decode_extTransfer c op1 true crn rd op2 crm (bne_iff_ne.1 hw)
  | ldcExt c a rn crd cp imm8 =>
    obtain ⟨hcp, ha⟩ := Bool.and_eq_true_iff.1 hw
    exact (decode_coprocMemory c true rn crd cp imm8 ha).trans (congrArg some (if_neg (bne_iff_ne.1 hcp)))
  | stcExt c a rn crd cp imm8 =>
    obtain ⟨hcp, ha⟩ := Bool.and_eq_true_iff.1 hw
    exact (decode_coprocMemory c false rn crd cp imm8 ha).trans (congrArg some (if_neg (bne_iff_ne.1 hcp)))
  | coprocUnconditional top mid cp low => exact decode_encode_coprocUnconditional mid cp low (bne_iff_ne.1 hw)
  | andImm _ _ _ _ op => exact decode_encode_resultOp (o := .and) (op := .imm op) hw
  | andReg _ _ _ _ op => exact decode_encode_resultOp (o := .and) (op := .reg op) hw
  | eorImm _ _ _ _ op => exact decode_encode_resultOp (o := .eor) (op := .imm op) hw
  | eorReg _ _ _ _ op => exact decode_encode_resultOp (o := .eor) (op := .reg op) hw
  | subImm _ _ _ _ op => exact decode_encode_resultOp (o := .sub) (op := .imm op) hw
  | subReg _ _ _ _ op => exact decode_encode_resultOp (o := .sub) (op := .reg op) hw
  | rsbImm _ _ _ _ op => exact decode_encode_resultOp (o := .rsb) (op := .imm op) hw
  | rsbReg _ _ _ _ op => exact decode_encode_resultOp (o := .rsb) (op := .reg op) hw
  | addImm _ _ _ _ op => exact decode_encode_resultOp (o := .add) (op := .imm op) hw
  | addReg _ _ _ _ op => exact decode_encode_resultOp (o := .add) (op := .reg op) hw
  | adcImm _ _ _ _ op => exact decode_encode_resultOp (o := .adc) (op := .imm op) hw
  | adcReg _ _ _ _ op => exact decode_encode_resultOp (o := .adc) (op := .reg op) hw
  | sbcImm _ _ _ _ op => exact decode_encode_resultOp (o := .sbc) (op := .imm op) hw
  | sbcReg _ _ _ _ op => exact decode_encode_resultOp (o := .sbc) (op := .reg op) hw
  | rscImm _ _ _ _ op => exact decode_encode_resultOp (o := .rsc) (op := .imm op) hw
  | rscReg _ _ _ _ op => exact decode_encode_resultOp (o := .rsc) (op := .reg op) hw
  | orrImm _ _ _ _ op => exact decode_encode_resultOp (o := .orr) (op := .imm op) hw
  | orrReg _ _ _ _ op => exact decode_encode_resultOp (o := .orr) (op := .reg op) hw
  | bicImm _ _ _ _ op => exact decode_encode_resultOp (o := .bic) (op := .imm op) hw
  | bicReg _ _ _ _ op => exact decode_encode_resultOp (o := .bic) (op := .reg op) hw
  | movImm _ _ sbz _ op => exact decode_encode_resultOp (o := .mov) (rn := regOf sbz) (op := .imm op) hw
  | movReg _ _ sbz _ op => exact decode_encode_resultOp (o := .mov) (rn := regOf sbz) (op := .reg op) hw
  | mvnImm _ _ sbz _ op => exact decode_encode_resultOp (o := .mvn) (rn := regOf sbz) (op := .imm op) hw
  | mvnReg _ _ sbz _ op => exact decode_encode_resultOp (o := .mvn) (rn := regOf sbz) (op := .reg op) hw
  | tstImm c rn sbz op => exact decode_encode_compareOp .tst c rn sbz (.imm op)
  | tstReg c rn sbz op => exact decode_encode_compareOp .tst c rn sbz (.reg op)
  | teqImm c rn sbz op => exact decode_encode_compareOp .teq c rn sbz (.imm op)
  | teqReg c rn sbz op => exact decode_encode_compareOp .teq c rn sbz (.reg op)
  | cmpImm c rn sbz op => exact decode_encode_compareOp .cmp c rn sbz (.imm op)
  | cmpReg c rn sbz op => exact decode_encode_compareOp .cmp c rn sbz (.reg op)
  | cmnImm c rn sbz op => exact decode_encode_compareOp .cmn c rn sbz (.imm op)
  | cmnReg c rn sbz op => exact decode_encode_compareOp .cmn c rn sbz (.reg op)
  | adrAhead c rd op => exact decode_encode_adrAhead c rd op
  | adrBehind c rd op => exact decode_encode_adrBehind c rd op
  | b c imm24 => exact decode_encode_b c imm24
  | bl c imm24 => exact decode_encode_bl c imm24
  | bx c rm => exact decode_encode_bx c rm
  | blx c rm => exact decode_encode_blx c rm
  | ldrImm c a rn rd off => exact decode_transferImm c a false true rn rd off
  | strImm c a rn rd off => exact decode_transferImm c a false false rn rd off
  | ldrbImm c a rn rd off => exact decode_transferImm c a true true rn rd off
  | strbImm c a rn rd off => exact decode_transferImm c a true false rn rd off
  | ldrReg c a rn rd op => exact decode_transferReg c a false true rn rd op
  | strReg c a rn rd op => exact decode_transferReg c a false false rn rd op
  | ldrbReg c a rn rd op => exact decode_transferReg c a true true rn rd op
  | strbReg c a rn rd op => exact decode_transferReg c a true false rn rd op
  | ldrh c a rn rd off => exact decode_encodeHalf_eq c a true rn rd off (by decide)
  | strh c a rn rd off => exact decode_encodeHalf_eq c a false rn rd off (by decide)
  | ldrsb c a rn rd off => exact decode_encodeHalf_eq c a true rn rd off (by decide)
  | ldrsh c a rn rd off => exact decode_encodeHalf_eq c a true rn rd off (by decide)
  | ldrd c a rn rd off => exact decode_encodeHalf_eq c a false rn rd off (by decide)
  | strd c a rn rd off => exact decode_encodeHalf_eq c a false rn rd off (by decide)
  | ldm c a caret rn list => exact decode_encodeMultiple c a caret true rn list
  | stm c a caret rn list => exact decode_encodeMultiple c a caret false rn list
  | swp c rn rd rm => exact decode_encode_swp c rn rd rm
  | swpb c rn rd rm => exact decode_encode_swpb c rn rd rm
  | pld i u rn off => exact decode_encode_pld i u rn off
  | mrs c r rd => exact decode_encode_mrs c r rd
  | msrReg c r mask rm => exact decode_encode_msrReg c r mask rm
  | msrImm c r mask op => exact decode_encode_msrImm c r mask op
  | swi c imm24 => exact decode_encode_swi c imm24
  | udf c hi lo => exact decode_encode_udf c hi lo

end Sys2Proof
end

section
/-! SUPPORT. Bit fields in their places: side by side, under a mask, and taken out of a word. -/

namespace Sys2Proof.Machine

open Sys2Proof.Claims

theorem getElem_bitsAt (k : Nat) {n : Nat} (x : BitVec n) {j : Nat} (hj : j < 32) :
    (bitsAt k x)[j] = (decide (k ≤ j) && x.getLsbD (j - k)) := by
  by_cases hk : k ≤ j <;> simp [bitsAt, BitVec.getElem_shiftLeft, hk, Nat.not_lt.2, Nat.lt_of_not_le]

/-- The mask of the field of n bits that begins at bit k. -/
def fieldMask (k n : Nat) : Word := bitsAt k (BitVec.allOnes n)

theorem getElem_fieldMask (k n : Nat) {j : Nat} (hj : j < 32) :
    (fieldMask k n)[j] = decide (k ≤ j ∧ j < k + n) := by
  rw [fieldMask, getElem_bitsAt, BitVec.getLsbD_allOnes, ← Bool.decide_and, decide_eq_decide]
  omega

theorem bitsAt_word (v : Word) : bitsAt 0 v = v := by simp [bitsAt]

theorem bitsAt_zero (k n : Nat) : bitsAt k 0#n = 0#32 := by simp [bitsAt]

theorem bitsAt_ofBool (k : Nat) (b : Bool) : bitsAt k (BitVec.ofBool b) = bitAt k b := by
  cases b <;> simp [bitsAt, bitAt]

/-- Two fields side by side are put in place one by one. -/
theorem bitsAt_append (k : Nat) {n m : Nat} (x : BitVec n) (y : BitVec m) :
    bitsAt k (x ++ y) = bitsAt (k + m) x ||| bitsAt k y := by
  ext j hj
  rw [BitVec.getElem_or, getElem_bitsAt, getElem_bitsAt, getElem_bitsAt, BitVec.getLsbD_append]
  by_cases hm : j - k < m
  · have hkm : ¬k + m ≤ j := by omega
    simp [hm, hkm]
  · have hy : y.getLsbD (j - k) = false := BitVec.getLsbD_of_ge y _ (by omega)
    by_cases hk : k ≤ j
    · have hkm : k + m ≤ j := by omega
      simp [hk, hm, hkm, hy, Nat.sub_add_eq]
    · have hkm : ¬k + m ≤ j := by omega
      simp [hk, hkm]

/-- A field in its place lies under its mask. -/
theorem bitsAt_and_fieldMask (k : Nat) {n : Nat} (x : BitVec n) : bitsAt k x &&& fieldMask k n = bitsAt k x := by
  ext j hj
  rw [BitVec.getElem_and, getElem_bitsAt, getElem_fieldMask]
  by_cases hx : j - k < n
  · by_cases hk : k ≤ j <;> simp [hk]
    omega
  · simp [BitVec.getLsbD_of_ge x (j - k) (by omega)]

/-- A mask that covers a field keeps it. -/
theorem bitsAt_and_of_covered {k n : Nat} (x : BitVec n) {mask : Word} (h : fieldMask k n &&& mask = fieldMask k n) :
    bitsAt k x &&& mask = bitsAt k x := by
  rw [← bitsAt_and_fieldMask, BitVec.and_assoc, h]

/-- A mask that does not meet a field drops it. -/
theorem bitsAt_and_of_disjoint {k n : Nat} (x : BitVec n) {mask : Word} (h : fieldMask k n &&& mask = 0#32) :
    bitsAt k x &&& mask = 0#32 := by
  rw [← bitsAt_and_fieldMask, BitVec.and_assoc, h, BitVec.and_zero]

/-- Fields that do not meet have no bit in common. -/
theorem bitsAt_and_bitsAt {k n l m : Nat} (x : BitVec n) (y : BitVec m) (h : fieldMask k n &&& fieldMask l m = 0#32) :
    bitsAt k x &&& bitsAt l y = 0#32 := by
  rw [← bitsAt_and_fieldMask l y, BitVec.and_comm (bitsAt l y), ← BitVec.and_assoc, bitsAt_and_of_disjoint x h,
    BitVec.zero_and]

/-- Where two values have no bit in common, their sum puts them together. -/
theorem add_bitsAt_of_disjoint {k n : Nat} (x : BitVec n) {v : Word} (h : v &&& bitsAt k x = 0#32) :
    v + bitsAt k x = v ||| bitsAt k x :=
  BitVec.add_eq_or_of_and_eq_zero v _ h

/-- A field of a word, in its place, is the word under the mask of the field. -/
theorem bitsAt_extractLsb' (k n : Nat) (v : Word) : bitsAt k (v.extractLsb' k n) = v &&& fieldMask k n := by
  ext j hj
  rw [getElem_bitsAt, BitVec.getElem_and, getElem_fieldMask, BitVec.getLsbD_extractLsb', ← BitVec.getLsbD_eq_getElem]
  by_cases hk : k ≤ j
  · have hjk : k + (j - k) = j := by omega
    have hn : (j - k < n) = (j < k + n) := propext (by omega)
    simp only [hjk, hn, hk, true_and, decide_true, Bool.true_and, Bool.and_comm]
  · simp [hk]

theorem bitAt_getLsbD (k : Nat) (v : Word) : bitAt k (v.getLsbD k) = v &&& fieldMask k 1 := by
  have hb : BitVec.ofBool (v.getLsbD k) = v.extractLsb' k 1 := by
    ext j hj
    obtain rfl : j = 0 := by omega
    simp
  rw [← bitsAt_ofBool, hb, bitsAt_extractLsb']

end Sys2Proof.Machine
end

section
/-! SUPPORT. The words that the CP15 registers read as (R283 to R290, R310 to R343, R380 to R405, R425 to R430), under the masks
of their defined bits. -/

namespace Sys2Proof.Machine

open Sys2Proof.Claims

theorem idCode_eq (s : State) : idCode s = 0x41069260#32 + BitVec.ofNat 32 s.cfg.revision.val := by
  have disjoint : ∀ r : Fin 6, 0x41069260#32 &&& BitVec.ofNat 32 r.val = 0#32 := by decide
  exact (BitVec.add_eq_or_of_and_eq_zero _ _ (disjoint s.cfg.revision)).symm

theorem cacheType_eq (s : State) :
    cacheType s = 0x1D012012#32 + bitsAt 18 s.cfg.dcacheSize.code + bitsAt 6 s.cfg.icacheSize.code := by
  have hd : 0x1D012012#32 &&& bitsAt 18 s.cfg.dcacheSize.code = 0#32 := by
    rw [BitVec.and_comm, bitsAt_and_of_disjoint _ (by decide)]
  have hi : (0x1D012012#32 ||| bitsAt 18 s.cfg.dcacheSize.code) &&& bitsAt 6 s.cfg.icacheSize.code = 0#32 := by
    rw [BitVec.and_comm, BitVec.and_or_distrib_left, bitsAt_and_of_disjoint _ (by decide), bitsAt_and_bitsAt _ _ (by decide),
      BitVec.or_zero]
  rw [add_bitsAt_of_disjoint _ hd, add_bitsAt_of_disjoint _ hi]
  rfl

theorem controlWord_and (s : State) (free : Word) :
    controlWord s free &&& 0x0007FFFF#32 =
      0x00050078#32 ||| bitAt 0 s.cp15.ctrl.m ||| bitAt 1 s.cp15.ctrl.a ||| bitAt 2 s.cp15.ctrl.c |||
        bitAt 7 s.cp15.ctrl.b ||| bitAt 8 s.cp15.ctrl.s ||| bitAt 9 s.cp15.ctrl.r ||| bitAt 12 s.cp15.ctrl.i |||
        bitAt 13 s.cp15.ctrl.v ||| bitAt 14 s.cp15.ctrl.rr ||| bitAt 15 s.cp15.ctrl.l4 := by
  have ones : 0x00050078#32 = bitsAt 16 0b101#3 ||| bitsAt 3 15#4 := by decide
  rw [← bitsAt_word (controlWord s free), controlWord, ones]
  simp (disch := decide) only [bitsAt_append, BitVec.and_or_distrib_right, bitsAt_and_of_covered, bitsAt_and_of_disjoint,
    ← bitsAt_ofBool, Nat.zero_add]
  simp only [bitsAt_ofBool, bitsAt_zero, BitVec.zero_or, BitVec.or_zero, Nat.reduceAdd]
  ac_rfl

theorem ttbrWord_and (s : State) (free : Word) : ttbrWord s free &&& 0xFFFFC000#32 = bitsAt 14 s.cp15.ttbr := by
  rw [← bitsAt_word (ttbrWord s free), ttbrWord]
  simp (disch := decide) only [bitsAt_append, BitVec.and_or_distrib_right, bitsAt_and_of_covered, bitsAt_and_of_disjoint,
    BitVec.or_zero, Nat.zero_add]

theorem fsrWord_and (f : BitVec 8) (free : Word) : fsrWord f free &&& 0x000001FF#32 = bitsAt 0 f := by
  rw [← bitsAt_word (fsrWord f free), fsrWord]
  simp (disch := decide) only [bitsAt_append, BitVec.and_or_distrib_right, bitsAt_and_of_covered, bitsAt_and_of_disjoint,
    bitsAt_zero, BitVec.zero_or, BitVec.zero_and]

theorem lockdownWord_and (l : BitVec 4) (free : Word) :
    lockdownWord l free &&& 0x0000FFFF#32 = 0xFFF0#32 ||| bitsAt 0 l := by
  have ones : 0xFFF0#32 = bitsAt 4 0xFFF#12 := by decide
  rw [← bitsAt_word (lockdownWord l free), lockdownWord, ones]
  simp (disch := decide) only [bitsAt_append, BitVec.and_or_distrib_right, bitsAt_and_of_covered, bitsAt_and_of_disjoint,
    BitVec.zero_or, Nat.zero_add]

theorem tcmRegionWord_and (r : TcmRegion) (size : TcmSize) (free : Word) :
    tcmRegionWord r size free &&& 0xFFFFF03D#32 = bitsAt 12 r.base ||| bitsAt 2 size.code ||| bitAt 0 r.enable := by
  rw [← bitsAt_word (tcmRegionWord r size free), tcmRegionWord]
  simp (disch := decide) only [bitsAt_append, BitVec.and_or_distrib_right, bitsAt_and_of_covered, bitsAt_and_of_disjoint,
    ← bitsAt_ofBool, BitVec.or_zero, Nat.zero_add]

theorem tlbLockdownWord_and (s : State) (free : Word) :
    tlbLockdownWord s free &&& 0x1C000001#32 = bitsAt 26 s.ms.victim ||| bitAt 0 s.ms.preserve := by
  rw [← bitsAt_word (tlbLockdownWord s free), tlbLockdownWord]
  simp (disch := decide) only [bitsAt_append, BitVec.and_or_distrib_right, bitsAt_and_of_covered, bitsAt_and_of_disjoint,
    ← bitsAt_ofBool, BitVec.or_zero, BitVec.zero_or, Nat.zero_add]

theorem fcsePidWord_eq (pid : BitVec 7) : (pid ++ 0#25 : Word) = bitsAt 25 pid := by
  rw [← bitsAt_word (pid ++ 0#25), bitsAt_append, bitsAt_zero, BitVec.or_zero]

theorem debugOverrideWord_and (s : State) (free : Word) :
    debugOverrideWord s free &&& 0x000FE000#32 = bitsAt 13 s.cp15.dbgovr := by
  rw [← bitsAt_word (debugOverrideWord s free), debugOverrideWord]
  simp (disch := decide) only [bitsAt_append, BitVec.and_or_distrib_right, bitsAt_and_of_covered, bitsAt_and_of_disjoint,
    BitVec.or_zero, BitVec.zero_or, Nat.zero_add]

theorem traceControlWord_and (s : State) (free : Word) :
    traceControlWord s free &&& 0x00000006#32 = bitsAt 1 s.cp15.tracectl := by
  rw [← bitsAt_word (traceControlWord s free), traceControlWord]
  simp (disch := decide) only [bitsAt_append, BitVec.and_or_distrib_right, bitsAt_and_of_covered, bitsAt_and_of_disjoint,
    BitVec.or_zero, BitVec.zero_or, Nat.zero_add]

/-- Of a register whose low field stands below free bits, the mask of the field leaves the field. -/
theorem append_and_low {n m : Nat} (h : n + m = 32) (x : BitVec n) (y : BitVec m) {mask : Word} (hmask : mask = fieldMask 0 m) :
    (x ++ y).cast h &&& mask = bitsAt 0 y := by
  have hw : (x ++ y).cast h = bitsAt 0 (x ++ y) := by
    ext j hj
    simp [getElem_bitsAt, h, hj]
  have hx : fieldMask m n &&& fieldMask 0 m = 0#32 := by
    ext j hj
    simp only [BitVec.getElem_and, getElem_fieldMask, BitVec.getElem_zero]
    grind
  rw [hmask, hw, bitsAt_append, BitVec.and_or_distrib_right, bitsAt_and_fieldMask, Nat.zero_add, bitsAt_and_of_disjoint _ hx,
    BitVec.zero_or]

/-- The TCM Status Register is nonzero just when a TCM is attached (assumption 49). -/
theorem tcmStatusValue_ne_zero_iff (cfg : Config) :
    cfg.tcmStatusValue ≠ 0#32 ↔ cfg.itcmSize ≠ .absent ∨ cfg.dtcmSize ≠ .absent := by
  rw [Config.tcmStatusValue, ← not_and_or]
  split
  · next habsent => simp [habsent]
  · next hfitted =>
    have hstandard : standardTcmStatus cfg.itcmSize cfg.dtcmSize ≠ 0#32 := by
      rw [standardTcmStatus]
      by_cases hd : cfg.dtcmSize = .absent
      · have hi : cfg.itcmSize ≠ .absent := fun hi => hfitted ⟨hi, hd⟩
        rw [if_pos hd, if_neg hi]
        decide
      · rw [if_neg hd]
        split <;> decide
    split
    · exact iff_of_true hstandard hfitted
    · next hgiven => exact iff_of_true hgiven hfitted

end Sys2Proof.Machine
end

section
/-! SUPPORT. The privileged reads of the CP15 registers (R255, R281). -/

namespace Sys2Proof.Machine

open Sys2Proof.Claims

/-- An MRC touches the core's own registers alone. -/
theorem mrcFinish_eq (rd : RegNum) (v : Word) (s : State) :
    mrcFinish rd v s = { s with cpu := (mrcFinish rd v s).cpu } := by
  rw [mrcFinish, State.setReg]
  split <;> rfl

/-- An MRC gives its value to Rd, or to the flags where Rd is r15. -/
theorem mrcGives_mrcFinish (rd : RegNum) (v : Word) {s u : State} (hu : u.cpu = s.cpu) :
    mrcGives rd v s (mrcFinish rd v u) := by
  have hm : u.mode = s.mode := congrArg (fun k : Cpu => modeOf k.cpsr) hu
  by_cases h15 : rd = 15
  · rw [mrcFinish, if_pos h15]
    refine ⟨fun h => absurd h15 h, fun _ => ⟨?_, fun p _ => ?_⟩, ?_, ?_⟩ <;> rw [← hu] <;> rfl
  · rw [mrcFinish, if_neg h15, State.setReg, if_neg h15, hm]
    refine ⟨fun _ => ⟨State.setBankReg_bankReg u s.mode rd v, fun p hp => ?_, by rw [← hu]; rfl⟩,
      fun h => absurd h h15, by rw [← hu]; rfl, by rw [← hu]; rfl⟩
    rw [State.advance_regs, State.setBankReg_get, if_neg (List.mem_singleton.not.1 hp), hu]

/-- A read of a CP15 register goes on with a word v that has the defined bits d; Rd takes v, note says what is kept of it as read,
and nothing else changes but the values drawn. -/
def ReadGives (rd : RegNum) (d : Cp15Value) (note : Word → LastRead → LastRead) (s : State) (r : Result) : Prop :=
  ∃ t v, r = .next t ∧ v &&& d.mask = d.value ∧ mrcGives rd v s t ∧
    t = { s with cpu := t.cpu, lastRead := note v s.lastRead, ms := { s.ms with draws := t.ms.draws } }

section
variable {c : Cond} {rd : RegNum} {d : Cp15Value} {s : State} (hc : conditionPassed c s.cpu.cpsr = true)
  (hp : s.privileged = true)
include hc hp

theorem cp15Read_gives {value : State → Word} (hv : value s &&& d.mask = d.value) :
    ReadGives rd d (fun _ l => l) s (cp15Read c rd value s) := by
  refine ⟨_, _, cp15Access_privileged hc hp, hv, mrcGives_mrcFinish rd _ rfl, ?_⟩
  rw [mrcFinish_eq]

theorem cp15ReadFree_gives {value : State → Word → Word} (hv : ∀ free, value s free &&& d.mask = d.value) :
    ReadGives rd d (fun _ l => l) s (cp15ReadFree c rd value s) := by
  refine ⟨_, _, cp15Access_privileged hc hp, hv (s.drawn 0), mrcGives_mrcFinish rd _ rfl, ?_⟩
  rw [mrcFinish_eq]
  rfl

theorem cp15ReadNoted_gives {value : State → Word → Word} {note : Word → LastRead → LastRead}
    (hv : ∀ free, value s free &&& d.mask = d.value) :
    ReadGives rd d note s (cp15ReadNoted c rd value note s) := by
  refine ⟨_, _, cp15Access_privileged hc hp, hv (s.drawn 0), mrcGives_mrcFinish rd _ rfl, ?_⟩
  rw [mrcFinish_eq]
  rfl

end

/-- Every bit of the register is defined. -/
theorem and_ones (v : Word) : v &&& 0xFFFFFFFF#32 = v := BitVec.and_allOnes

theorem readNoted_control (c : Cond) (rd : RegNum) (v : Word) (l : LastRead) :
    readNoted (.mrcControl c rd) v l = { l with ctrl := keepRead v l.ctrl } := by
  simp only [readNoted, keepRead, List.contains_iff_mem]

/-- In a privileged mode a read of a CP15 register gives its defined bits. -/
theorem exec_cp15Reading {i : Instr} {s : State} {rd : RegNum} {d : Cp15Value} (h : cp15Reading i s = some (rd, d))
    (hi : passes i s) (hp : s.privileged = true) : ReadGives rd d (readNoted i) s (exec i s) := by
  unfold exec
  cases i with
  | mrcId | mrcIdAlias3 | mrcIdAlias4 | mrcIdAlias5 | mrcIdAlias6 | mrcIdAlias7 =>
    obtain ⟨rfl, rfl⟩ := h
    exact cp15Read_gives (hi _ rfl) hp ((and_ones _).trans (idCode_eq s))
  | mrcCacheType =>
    obtain ⟨rfl, rfl⟩ := h
    exact cp15Read_gives (hi _ rfl) hp ((and_ones _).trans (cacheType_eq s))
  | mrcTcmStatus | mrcDacr | mrcFar | mrcContextId | mrcDebugTestAddress =>
    obtain ⟨rfl, rfl⟩ := h
    exact cp15Read_gives (hi _ rfl) hp (and_ones _)
  | mrcControl c rd =>
    obtain ⟨rfl, rfl⟩ := h
    rw [funext₂ (readNoted_control c rd)]
    exact cp15ReadNoted_gives (hi _ rfl) hp (controlWord_and s)
  | mrcTtbr =>
    obtain ⟨rfl, rfl⟩ := h
    exact cp15ReadFree_gives (hi _ rfl) hp (ttbrWord_and s)
  | mrcDfsr | mrcIfsr =>
    obtain ⟨rfl, rfl⟩ := h
    exact cp15ReadNoted_gives (hi _ rfl) hp (fsrWord_and _)
  | mrcDCacheLockdown | mrcICacheLockdown =>
    obtain ⟨rfl, rfl⟩ := h
    exact cp15ReadNoted_gives (hi _ rfl) hp (lockdownWord_and _)
  | mrcDTcmRegion | mrcITcmRegion =>
    obtain ⟨rfl, rfl⟩ := h
    exact cp15ReadNoted_gives (hi _ rfl) hp (tcmRegionWord_and _ _)
  | mrcTlbLockdown =>
    obtain ⟨rfl, rfl⟩ := h
    exact cp15ReadNoted_gives (hi _ rfl) hp (tlbLockdownWord_and s)
  | mrcFcsePid =>
    obtain ⟨rfl, rfl⟩ := h
    exact cp15Read_gives (hi _ rfl) hp ((and_ones _).trans (fcsePidWord_eq _))
  | mrcDebugOverride =>
    obtain ⟨rfl, rfl⟩ := h
    exact cp15ReadFree_gives (hi _ rfl) hp (debugOverrideWord_and s)
  | mrcTraceControl =>
    obtain ⟨rfl, rfl⟩ := h
    exact cp15ReadFree_gives (hi _ rfl) hp (traceControlWord_and s)
  | mrcMemoryRegionRemap | mrcCacheDebugControl | mrcMmuDebugControl =>
    obtain ⟨rfl, rfl⟩ := h
    exact cp15ReadFree_gives (hi _ rfl) hp fun _ => append_and_low rfl _ _ rfl
  | _ => cases h

/-- Settles O42: each register's word, under the mask of its defined bits. -/
theorem cp15RegisterReads : Obligations.Cp15RegisterReads :=
  ⟨fun _ _ _ _ h hi hm => exec_cp15Reading h hi (State.privileged_of_mode hm), tcmStatusValue_ne_zero_iff⟩

end Sys2Proof.Machine
end

section
/-! SUPPORT. The privileged writes of the CP15 registers (R255, R260, R282). -/

namespace Sys2Proof.Machine

open Sys2Proof.Claims

/-- The three ends of a write of a CP15 register: a word that keeps to the reserved bits is put by f, one that breaks them is
refused, and r15 puts a free value. -/
def WriteGives (i : Instr) (rd : RegNum) (f : Word → State → State) (s : State) (r : Result) : Prop :=
  (rd ≠ 15 → keepsReserved i s.lastRead (s.reg rd) = true → r = .next (f (s.reg rd) s.advance)) ∧
    (rd ≠ 15 → keepsReserved i s.lastRead (s.reg rd) = false → r = .refused .reservedBits) ∧
    (rd = 15 → ∃ v n, r = .next (f v ({ s with ms := { s.ms with draws := n } }).advance))

/-- A write gives what its register stores, where the reserved bits it checks are those of the statement and the store does not
depend on the pc. -/
theorem cp15Write_gives {i : Instr} {c : Cond} {rd : RegNum} {r : Reserved} {read : LastRead → List Word}
    {write : Word → State → State} {s : State} (hc : conditionPassed c s.cpu.cpsr = true) (hp : s.privileged = true)
    (hr : reservedBits i s.lastRead = ⟨r.sbz, r.sbo, r.sbzp, read s.lastRead⟩)
    (hw : ∀ v u, (write v u).advance = write v u.advance) :
    WriteGives i rd write s (cp15Write c rd r read write s) := by
  have hk (v : Word) : keepsReserved i s.lastRead v = r.allows (read s.lastRead) v := by rw [keepsReserved_eq_allows, hr]
  refine ⟨fun h15 ha => ?_, fun h15 ha => ?_, fun h15 => ⟨mcrValue rd s, (mcrSpend rd s).ms.draws, ?_⟩⟩
  · rw [hk, ← mcrValue_of_ne h15] at ha
    rw [cp15Write_allowed hc hp ((mcrAllowed_iff r _ rd s).2 (.inr ha)), mcrValue_of_ne h15, mcrSpend_of_ne h15, hw]
  · rw [hk, ← mcrValue_of_ne h15] at ha
    exact cp15Write_reserved hc hp (mcrAllowed_eq_false h15 ha)
  · rw [cp15Write_allowed hc hp ((mcrAllowed_iff r _ rd s).2 (.inl h15)), hw, ← mcrSpend_eq]

theorem cp15WriteZeros_gives {i : Instr} {c : Cond} {rd : RegNum} {sbz : Word} {write : Word → State → State} {s : State}
    (hc : conditionPassed c s.cpu.cpsr = true) (hp : s.privileged = true)
    (hr : reservedBits i s.lastRead = ⟨sbz, 0#32, [], []⟩) (hw : ∀ v u, (write v u).advance = write v u.advance) :
    WriteGives i rd write s (cp15WriteZeros c rd sbz write s) :=
  cp15Write_gives hc hp hr hw

/-- In a privileged mode a write of a CP15 register stores what the table says. -/
theorem exec_cp15Writing {i : Instr} {s : State} {c : Cond} {rd : RegNum} {f : Word → State → State}
    (h : cp15Writing i = some (c, rd, f)) (hc : conditionPassed c s.cpu.cpsr = true) (hp : s.privileged = true) :
    WriteGives i rd f s (exec i s) := by
  unfold exec
  cases i with
  | mcrDfsr | mcrIfsr | mcrDCacheLockdown | mcrICacheLockdown | mcrTlbLockdown =>
    obtain ⟨rfl, rfl, rfl⟩ := h
    exact cp15Write_gives hc hp rfl fun _ _ => rfl
  | mcrTtbr | mcrDacr | mcrFar | mcrFcsePid | mcrContextId | mcrDebugOverride | mcrDebugTestAddress | mcrMemoryRegionRemap
  | mcrTraceControl | mcrCacheDebugControl | mcrMmuDebugControl =>
    obtain ⟨rfl, rfl, rfl⟩ := h
    exact cp15WriteZeros_gives hc hp rfl fun _ _ => rfl
  | _ => cases h

/-- Settles O43: the write of each register is the shared write, with the register's reserved bits. -/
theorem cp15RegisterWrites : Obligations.Cp15RegisterWrites := fun _ _ _ _ _ h hc hm =>
  exec_cp15Writing h hc (State.privileged_of_mode hm)

end Sys2Proof.Machine
end

section
/-! SUPPORT. What a write of a CP15 register stored is read back (R281, R282). -/

namespace Sys2Proof.Machine

open Sys2Proof.Claims

/-! The stored bits of a word, under the mask of the bits that come back. -/

theorem storedField_and (k n : Nat) (v : Word) {mask : Word} (h : fieldMask k n &&& mask = mask) :
    bitsAt k (v.extractLsb' k n) &&& mask = v &&& mask := by
  rw [bitsAt_extractLsb', BitVec.and_assoc, h]

theorem storedLockdown_and (v : Word) :
    (0xFFF0#32 ||| bitsAt 0 (v.extractLsb' 0 4)) &&& 0x0000000F#32 = v &&& 0x0000000F#32 := by
  have ones : 0xFFF0#32 &&& 0x0000000F#32 = 0#32 := by decide
  rw [BitVec.and_or_distrib_right, ones, storedField_and 0 4 v (by decide), BitVec.zero_or]

theorem storedTcmRegion_and (v : Word) (size : TcmSize) :
    (bitsAt 12 (v.extractLsb' 12 20) ||| bitsAt 2 size.code ||| bitAt 0 (v.getLsbD 0)) &&& 0xFFFFF001#32 =
      v &&& 0xFFFFF001#32 := by
  have mask : 0xFFFFF001#32 = fieldMask 12 20 ||| fieldMask 0 1 := by decide
  rw [← bitsAt_ofBool, BitVec.and_or_distrib_right, BitVec.and_or_distrib_right, bitsAt_and_of_covered _ (by decide),
    bitsAt_and_of_disjoint _ (by decide), bitsAt_and_of_covered _ (by decide), bitsAt_ofBool, bitsAt_extractLsb',
    bitAt_getLsbD, BitVec.or_zero, ← BitVec.and_or_distrib_left, mask]

theorem storedTlbLockdown_and (v : Word) :
    (bitsAt 26 (v.extractLsb' 26 3) ||| bitAt 0 (v.getLsbD 0)) &&& 0x1C000001#32 = v &&& 0x1C000001#32 := by
  have mask : 0x1C000001#32 = fieldMask 26 3 ||| fieldMask 0 1 := by decide
  rw [bitsAt_extractLsb', bitAt_getLsbD, ← BitVec.and_or_distrib_left, ← mask, BitVec.and_assoc, BitVec.and_self]

theorem storedControl_and (v : Word) :
    (0x00050078#32 ||| bitAt 0 (v.getLsbD 0) ||| bitAt 1 (v.getLsbD 1) ||| bitAt 2 (v.getLsbD 2) ||| bitAt 7 (v.getLsbD 7) |||
        bitAt 8 (v.getLsbD 8) ||| bitAt 9 (v.getLsbD 9) ||| bitAt 12 (v.getLsbD 12) ||| bitAt 13 (v.getLsbD 13) |||
        bitAt 14 (v.getLsbD 14) ||| bitAt 15 (v.getLsbD 15)) &&& 0x0000F387#32 = v &&& 0x0000F387#32 := by
  have ones : 0x00050078#32 &&& 0x0000F387#32 = 0#32 := by decide
  have mask : 0x0000F387#32 = fieldMask 0 1 ||| fieldMask 1 1 ||| fieldMask 2 1 ||| fieldMask 7 1 ||| fieldMask 8 1 |||
      fieldMask 9 1 ||| fieldMask 12 1 ||| fieldMask 13 1 ||| fieldMask 14 1 ||| fieldMask 15 1 := by decide
  simp only [bitAt_getLsbD, BitVec.or_assoc, ← BitVec.and_or_distrib_left] at mask ⊢
  rw [← mask, BitVec.and_or_distrib_right, ones, BitVec.zero_or, BitVec.and_assoc, BitVec.and_self]

/-! A write, then a read. -/

/-- A write that keeps to the reserved bits and holds the TCM regions apart goes on; and one that goes on moved the pc and put a
word by f, the word of its register where that is not r15. -/
structure StoresBy (i : Instr) (rs : RegNum) (f : Word → State → State) (s : State) (r : Result) : Prop where
  goesOn : rs ≠ 15 → keepsReserved i s.lastRead (s.reg rs) = true → regionsApart i s = true → ∃ t, r = .next t
  stored : ∀ t, r = .next t → ∃ v u, (rs ≠ 15 → v = s.reg rs ∧ u.ms.draws = s.ms.draws) ∧
    u.cpu = { s.cpu with pc := s.cpu.pc + 4#32 } ∧ t = f v u

theorem WriteGives.storesBy {i : Instr} {rs : RegNum} {f : Word → State → State} {s : State} {r : Result}
    (h : WriteGives i rs f s r) : StoresBy i rs f s r := by
  obtain ⟨hkeeps, hbreaks, hfree⟩ := h
  refine ⟨fun h15 hk _ => ⟨_, hkeeps h15 hk⟩, fun t ht => ?_⟩
  by_cases h15 : rs = 15
  · obtain ⟨v, n, hr⟩ := hfree h15
    exact ⟨v, _, fun h => absurd h15 h, rfl, Host.Outcome.next.inj (ht.symm.trans hr)⟩
  · cases hk : keepsReserved i s.lastRead (s.reg rs) with
    | true => exact ⟨s.reg rs, s.advance, fun _ => ⟨rfl, rfl⟩, rfl, Host.Outcome.next.inj (ht.symm.trans (hkeeps h15 hk))⟩
    | false => cases ht.symm.trans (hbreaks h15 hk)

/-- A write of a TCM region puts the region by g, where the statement's checks are the write's own. -/
theorem writeTcmRegions_storesBy {i : Instr} {rs : RegNum} {read : LastRead → List Word} {g : Word → Cp15 → Cp15} {s : State}
    (hp : s.privileged = true) (hk : ∀ v, keepsReserved i s.lastRead v = reservedTcmRegion.allows (read s.lastRead) v)
    (ho : regionsApart i s = !tcmRegionsOverlap s.cfg (g (s.reg rs) s.cp15).itcm (g (s.reg rs) s.cp15).dtcm) :
    StoresBy i rs (putCp15 g) s (writeTcmRegions read g .al rs s) := by
  refine ⟨fun h15 ha hapart => ?_, fun t ht => ?_⟩
  · rw [hk, ← mcrValue_of_ne h15] at ha
    rw [ho, ← mcrValue_of_ne h15, Bool.not_eq_true'] at hapart
    rw [writeTcmRegions_allowed rfl hp ((mcrAllowed_iff _ _ rs s).2 (.inr ha)), hapart]
    exact ⟨_, rfl⟩
  · rcases writeTcmRegions_next ht with ⟨hc, _⟩ | ⟨_, hu, _⟩ | ⟨_, _, _, _, rfl⟩
    · cases hc
    · cases hp.symm.trans hu
    · refine ⟨mcrValue rs s, (mcrSpend rs s).advance, fun h15 => ⟨mcrValue_of_ne h15, ?_⟩, ?_, ?_⟩
      · rw [mcrSpend_of_ne h15]
        rfl
      · rw [mcrSpend_eq]
        rfl
      · rw [mcrSpend_eq]
        rfl

/-- A read under condition AL shows what f stored, in the bits of a mask; and f leaves the core and the count of values drawn as
they were. -/
structure ReadsBack (i : Instr) (mask : Word) (rd : RegNum) (f : Word → State → State) : Prop where
  always : conditionOf i = some .al
  keeps : ∀ v u, (f v u).cpu = u.cpu ∧ (f v u).ms.draws = u.ms.draws
  reads : ∀ v u, ∃ defined value, cp15Reading i (f v u) = some (rd, ⟨defined, value⟩) ∧ defined &&& mask = mask ∧
    value &&& mask = v &&& mask

/-- What a write that goes on stored is read back. -/
theorem StoresBy.readBack {write read : Instr} {mask : Word} {rs rd : RegNum} {f : Word → State → State} {s t : State}
    (hp : s.privileged = true) (hw : StoresBy write rs f s (exec write s)) (hr : ReadsBack read mask rd f)
    (ht : exec write s = .next t) :
    ∃ u v w, exec read t = .next u ∧ mcrGives rs v s t ∧ mrcGives rd w t u ∧ w &&& mask = v &&& mask ∧
      t.cpu = { s.cpu with pc := s.cpu.pc + 4#32 } := by
  obtain ⟨v, u, hv, hu, rfl⟩ := hw.stored t ht
  obtain ⟨hcpu, hdraws⟩ := hr.keeps v u
  obtain ⟨defined, value, hreading, hmask, hvalue⟩ := hr.reads v u
  have hal : passes read (f v u) := fun c hc => by
    cases hr.always.symm.trans hc
    rfl
  have hpriv : (f v u).privileged = true := by rwa [State.privileged, hcpu, hu]
  obtain ⟨x, w, hx, hdefined, hgives, _⟩ := exec_cp15Reading hreading hal hpriv
  refine ⟨x, v, w, hx, fun h15 => ?_, hgives, ?_, hcpu.trans hu⟩
  · obtain ⟨hreg, hspent⟩ := hv h15
    exact ⟨hreg, hdraws.trans hspent⟩
  · calc w &&& mask = w &&& defined &&& mask := by rw [BitVec.and_assoc, hmask]
      _ = v &&& mask := by rw [hdefined, hvalue]

theorem execMcrControl_storesBy (rs : RegNum) {s : State} (hp : s.privileged = true) :
    StoresBy (.mcrControl .al rs) rs writeControl s (execMcrControl .al rs s) :=
  WriteGives.storesBy (cp15Write_gives rfl hp rfl fun _ _ => rfl)

theorem execMcrDTcmRegion_storesBy (rs : RegNum) {s : State} (hp : s.privileged = true) :
    StoresBy (.mcrDTcmRegion .al rs) rs (putCp15 fun v k => { k with dtcm := tcmRegionOf v }) s
      (execMcrDTcmRegion .al rs s) :=
  writeTcmRegions_storesBy hp (keepsReserved_dtcm .al rs s.lastRead) rfl

theorem execMcrITcmRegion_storesBy (rs : RegNum) {s : State} (hp : s.privileged = true) :
    StoresBy (.mcrITcmRegion .al rs) rs (putCp15 fun v k => { k with itcm := tcmRegionOf v }) s
      (execMcrITcmRegion .al rs s) :=
  writeTcmRegions_storesBy hp (keepsReserved_itcm .al rs s.lastRead) rfl

/-- For each pair some function says what the write stores, and the read shows that. -/
theorem cp15Pair_storesBy_readsBack {rs rd : RegNum} {p : Cp15Pair} {s : State} (h : p ∈ cp15Pairs rs rd)
    (hp : s.privileged = true) : ∃ f, StoresBy p.write rs f s (exec p.write s) ∧ ReadsBack p.read p.mask rd f := by
  have stores {i : Instr} {f : Word → State → State} (h : cp15Writing i = some (.al, rs, f)) :
      StoresBy i rs f s (exec i s) :=
    (exec_cp15Writing h rfl hp).storesBy
  simp only [cp15Pairs, List.mem_cons, List.not_mem_nil, or_false] at h
  rcases h with rfl | rfl | rfl | rfl | rfl | rfl | rfl | rfl | rfl | rfl | rfl | rfl | rfl | rfl | rfl | rfl | rfl | rfl |
    rfl <;> dsimp only
  · exact ⟨_, execMcrControl_storesBy rs hp, rfl, fun _ _ => ⟨rfl, rfl⟩,
      fun v _ => ⟨_, _, rfl, by decide, storedControl_and v⟩⟩
  · exact ⟨_, stores rfl, rfl, fun _ _ => ⟨rfl, rfl⟩,
      fun v _ => ⟨_, _, rfl, by decide, storedField_and _ _ v (by decide)⟩⟩
  · exact ⟨_, stores rfl, rfl, fun _ _ => ⟨rfl, rfl⟩,
      fun v _ => ⟨_, _, rfl, by decide, rfl⟩⟩
  · exact ⟨_, stores rfl, rfl, fun _ _ => ⟨rfl, rfl⟩,
      fun v _ => ⟨_, _, rfl, by decide, storedField_and _ _ v (by decide)⟩⟩
  · exact ⟨_, stores rfl, rfl, fun _ _ => ⟨rfl, rfl⟩,
      fun v _ => ⟨_, _, rfl, by decide, storedField_and _ _ v (by decide)⟩⟩
  · exact ⟨_, stores rfl, rfl, fun _ _ => ⟨rfl, rfl⟩,
      fun v _ => ⟨_, _, rfl, by decide, rfl⟩⟩
  · exact ⟨_, stores rfl, rfl, fun _ _ => ⟨rfl, rfl⟩,
      fun v _ => ⟨_, _, rfl, by decide, storedLockdown_and v⟩⟩
  · exact ⟨_, stores rfl, rfl, fun _ _ => ⟨rfl, rfl⟩,
      fun v _ => ⟨_, _, rfl, by decide, storedLockdown_and v⟩⟩
  · exact ⟨_, execMcrDTcmRegion_storesBy rs hp, rfl, fun _ _ => ⟨rfl, rfl⟩,
      fun v _ => ⟨_, _, rfl, by decide, storedTcmRegion_and v _⟩⟩
  · exact ⟨_, execMcrITcmRegion_storesBy rs hp, rfl, fun _ _ => ⟨rfl, rfl⟩,
      fun v _ => ⟨_, _, rfl, by decide, storedTcmRegion_and v _⟩⟩
  · exact ⟨_, stores rfl, rfl, fun _ _ => ⟨rfl, rfl⟩,
      fun v _ => ⟨_, _, rfl, by decide, storedTlbLockdown_and v⟩⟩
  · exact ⟨_, stores rfl, rfl, fun _ _ => ⟨rfl, rfl⟩,
      fun v _ => ⟨_, _, rfl, by decide, storedField_and _ _ v (by decide)⟩⟩
  · exact ⟨_, stores rfl, rfl, fun _ _ => ⟨rfl, rfl⟩,
      fun v _ => ⟨_, _, rfl, by decide, rfl⟩⟩
  · exact ⟨_, stores rfl, rfl, fun _ _ => ⟨rfl, rfl⟩,
      fun v _ => ⟨_, _, rfl, by decide, storedField_and _ _ v (by decide)⟩⟩
  · exact ⟨_, stores rfl, rfl, fun _ _ => ⟨rfl, rfl⟩,
      fun v _ => ⟨_, _, rfl, by decide, rfl⟩⟩
  · exact ⟨_, stores rfl, rfl, fun _ _ => ⟨rfl, rfl⟩,
      fun v _ => ⟨_, _, rfl, by decide, storedField_and _ _ v (by decide)⟩⟩
  · exact ⟨_, stores rfl, rfl, fun _ _ => ⟨rfl, rfl⟩,
      fun v _ => ⟨_, _, rfl, by decide, storedField_and _ _ v (by decide)⟩⟩
  · exact ⟨_, stores rfl, rfl, fun _ _ => ⟨rfl, rfl⟩,
      fun v _ => ⟨_, _, rfl, by decide, storedField_and _ _ v (by decide)⟩⟩
  · exact ⟨_, stores rfl, rfl, fun _ _ => ⟨rfl, rfl⟩,
      fun v _ => ⟨_, _, rfl, by decide, storedField_and _ _ v (by decide)⟩⟩

/-- Settles O45: what the write of a pair stores is what its read shows. -/
theorem cp15WriteThenRead : Obligations.Cp15WriteThenRead := by
  intro rs rd p s h hm
  have hp := State.privileged_of_mode hm
  obtain ⟨f, hw, hr⟩ := cp15Pair_storesBy_readsBack h hp
  exact ⟨hw.goesOn, fun t ht => hw.readBack hp hr ht⟩

end Sys2Proof.Machine
end

section
/-! SUPPORT. Words written out from the encodings of the spec (R252, R482 to R510). -/

namespace Sys2Proof

/-- A word is decoded by encoding the instruction it stands for. -/
theorem decode_of_encode_eq {i : Instr} {w : Word} (hw : i.wellFormed = true) (he : encode i = w) : decode w = some i :=
  he ▸ decodeOfEncode i hw

/-- Settles O3: each word is the encoding of a well-formed instruction. -/
theorem specWordsDecode : Obligations.SpecWordsDecode :=
  ⟨decode_of_encode_eq rfl rfl, decode_of_encode_eq rfl rfl, decode_of_encode_eq rfl rfl, decode_of_encode_eq rfl rfl,
    decode_of_encode_eq rfl rfl, decode_of_encode_eq rfl rfl, decode_of_encode_eq rfl rfl, decode_of_encode_eq rfl rfl,
    decode_of_encode_eq rfl rfl, decode_of_encode_eq rfl rfl⟩

end Sys2Proof
end

section
/-! SUPPORT. The invalidations of the TLB (R330, R331), with the faults it remembers (R225, R227). -/

namespace Sys2Proof.Machine

open Sys2Proof.Claims

/-! The reserved bits of their operands. -/

theorem Reserved.nothing_allows (read : List Word) (v : Word) : Reserved.nothing.allows read v = true := by
  simp [Reserved.allows_iff, Reserved.nothing]

theorem Reserved.zeros_allows_iff (m : Word) (read : List Word) (v : Word) :
    (Reserved.zeros m).allows read v = true ↔ v &&& m = 0#32 := by
  simp [Reserved.allows_iff, Reserved.zeros]

/-- The operand that should be zero in every bit is zero, or free (R330, assumption 37). -/
theorem mcrAllowed_zero_iff (read : List Word) (rd : RegNum) (s : State) :
    mcrAllowed (.zeros 0xFFFFFFFF#32) read rd s = true ↔ rd = 15 ∨ s.reg rd = 0#32 := by
  rw [mcrAllowed_iff, Reserved.zeros_allows_iff, and_ones]
  exact or_congr_right' fun h15 => by rw [mcrValue_of_ne h15]

/-! What they leave of each part. -/

theorem invalidateMain_valid (ms : MemSys) (n : Fin 64) : ((invalidateMain ms).tlbMain.get n).valid = false := by
  simp [invalidateMain, Vector.get_eq_getElem]

theorem invalidateEntry_main (v : Word) (ms : MemSys) (n : Fin 64) :
    (invalidateEntry v ms).tlbMain.get n =
      if (ms.tlbMain.get n).covers v then { ms.tlbMain.get n with valid := false } else ms.tlbMain.get n := by
  simp [invalidateEntry, Vector.get_eq_getElem]

theorem invalidateEntry_lock (v : Word) (ms : MemSys) (n : Fin 8) :
    (invalidateEntry v ms).tlbLock.get n =
      if (ms.tlbLock.get n).covers v then { ms.tlbLock.get n with valid := false } else ms.tlbLock.get n := by
  simp [invalidateEntry, Vector.get_eq_getElem]

theorem mem_invalidateEntry_cachedFaults {v : Word} {ms : MemSys} {f : CachedFault} :
    f ∈ (invalidateEntry v ms).cachedFaults ↔ f ∈ ms.cachedFaults ∧ f.covers v = false := by
  simp [invalidateEntry]

/-! The operations. -/

section
variable {c : Cond} {rd : RegNum} {s : State} (hc : conditionPassed c s.cpu.cpsr = true) (hp : s.privileged = true)
  (hr : s.pins.mmuRam = true)
include hc hp hr

/-- In a privileged mode, with the TLB RAM powered, an operand that may be written is used. -/
theorem tlbWrite_allowed {r : Reserved} {op : Word → State → State} (ha : mcrAllowed r [] rd s = true) :
    tlbWrite r c rd op s = .next (op (mcrValue rd s) (mcrSpend rd s)).advance :=
  (cp15Access_privileged hc hp).trans ((if_neg (by simp [hr])).trans (if_pos ha))

/-- One that breaks the reserved bits is refused (D3). -/
theorem tlbWrite_reserved {r : Reserved} {op : Word → State → State} (ha : mcrAllowed r [] rd s = false) :
    tlbWrite r c rd op s = .refused .reservedBits :=
  (cp15Access_privileged hc hp).trans ((if_neg (by simp [hr])).trans (if_neg (by simp [ha])))

theorem tlbOperation_powered {op : Word → State → MemSys → MemSys} :
    tlbOperation c rd op s =
      .next ((mcrSpend rd s).withMs (op (mcrValue rd s) (mcrSpend rd s) (mcrSpend rd s).ms)).advance :=
  tlbWrite_allowed hc hp hr ((mcrAllowed_iff _ _ rd s).2 (.inr (Reserved.nothing_allows _ _)))

theorem tlbInvalidateAll_zero (h0 : rd = 15 ∨ s.reg rd = 0#32) :
    tlbInvalidateAll c rd s = .next ((mcrSpend rd s).withMs (invalidateMain (mcrSpend rd s).ms)).advance :=
  tlbWrite_allowed hc hp hr ((mcrAllowed_zero_iff _ rd s).2 h0)

theorem tlbInvalidateAll_nonzero (h15 : rd ≠ 15) (h0 : s.reg rd ≠ 0#32) :
    tlbInvalidateAll c rd s = .refused .reservedBits := by
  refine tlbWrite_reserved hc hp hr (Bool.eq_false_iff.2 fun ha => ?_)
  exact ((mcrAllowed_zero_iff _ rd s).1 ha).elim h15 h0

end

theorem exec_tlbInvalidation_all {i : Instr} {c : Cond} {rd : RegNum} (h : tlbInvalidation i = some (c, rd, false))
    (s : State) : exec i s = tlbInvalidateAll c rd s := by
  cases i with
  | mcrInvalidateTlb | mcrInvalidateITlb | mcrInvalidateDTlb =>
    cases h
    rfl
  | _ => cases h

theorem exec_tlbInvalidation_entry {i : Instr} {c : Cond} {rd : RegNum} (h : tlbInvalidation i = some (c, rd, true))
    (s : State) : exec i s = tlbOperation c rd (fun v _ ms => invalidateEntry v ms) s := by
  cases i with
  | mcrInvalidateTlbEntry | mcrInvalidateITlbEntry | mcrInvalidateDTlbEntry =>
    cases h
    rfl
  | _ => cases h

/-- Settles O50: the six instructions are two operations, each of which is known entry by entry. -/
theorem tlbInvalidation : Obligations.TlbInvalidation := by
  intro i s c rd one h hc hm hr
  have hp := State.privileged_of_mode hm
  cases one with
  | false =>
    rw [exec_tlbInvalidation_all h s]
    refine ⟨fun _ h15 h0 => tlbInvalidateAll_nonzero hc hp hr h15 h0, fun hok => ?_⟩
    have hzero : rd = 15 ∨ s.reg rd = 0#32 := hok.resolve_left Bool.false_ne_true
    refine ⟨_, mcrValue rd s, tlbInvalidateAll_zero hc hp hr hzero, mcrGives_mcrValue rfl, fun _ => ⟨?_, ?_, rfl⟩, nofun, ?_⟩
    · exact invalidateMain_valid _
    · rw [mcrSpend_eq]
      rfl
    · rw [mcrSpend_eq]
      rfl
  | true =>
    rw [exec_tlbInvalidation_entry h s]
    refine ⟨nofun, fun _ => ⟨_, mcrValue rd s, tlbOperation_powered hc hp hr, mcrGives_mcrValue rfl, nofun,
      fun _ => ⟨fun n => ?_, fun n => ?_, fun f => ?_⟩, ?_⟩⟩
    · rw [mcrSpend_eq]
      exact invalidateEntry_main _ _ n
    · rw [mcrSpend_eq]
      exact invalidateEntry_lock _ _ n
    · rw [mcrSpend_eq]
      exact mem_invalidateEntry_cachedFaults
    · rw [mcrSpend_eq]
      rfl

end Sys2Proof.Machine
end

section
/-! SUPPORT. The operations that drain the write buffers (R370, R371, R585). -/

namespace Sys2Proof.Machine

open Sys2Proof.Claims

/-- Nothing is pending for a TCM without power: for each TCM, no write is pending or its RAM has power (R585, U52). -/
theorem State.drainable_iff (s : State) :
    s.drainable = true ↔
      (s.ms.itcmWb = [] ∨ s.pins.itcmRam = true) ∧ (s.ms.dtcmWb = [] ∨ s.pins.dtcmRam = true) := by
  simp only [drainable, Bool.and_eq_true, Bool.or_eq_true, List.isEmpty_iff, or_comm]

section
variable {c : Cond} {rd : RegNum} {s : State} (hc : conditionPassed c s.cpu.cpsr = true) (hp : s.privileged = true)
include hc hp

theorem drainOperation_drainable {op : State → State} (h : s.drainable = true) :
    drainOperation c rd op s = .next (op (mcrSpend rd s)).advance :=
  (cp15Access_privileged hc hp).trans (if_pos h)

theorem drainOperation_unpowered {op : State → State} (h : s.drainable ≠ true) :
    drainOperation c rd op s = .refused .ramPoweredDown :=
  (cp15Access_privileged hc hp).trans (if_neg h)

end

theorem exec_drainWriteBuffer (c : Cond) (rd : RegNum) (s : State) :
    exec (.mcrDrainWriteBuffer c rd) s = drainOperation c rd (fun s => s.withMs s.ms.drainAll) s := rfl

theorem exec_waitForInterrupt (c : Cond) (rd : RegNum) (s : State) :
    exec (.mcrWaitForInterrupt c rd) s =
      drainOperation c rd (fun s => { s with ms := s.ms.drainAll, standby := true }) s := rfl

/-- Settles O48: both instructions are one drain of every buffer, made or refused by the power of the TCM RAMs. -/
theorem drainEmptiesBuffers : Obligations.DrainEmptiesBuffers := by
  intro c rd s hc hm
  have hp := State.privileged_of_mode hm
  rw [exec_drainWriteBuffer, exec_waitForInterrupt]
  refine ⟨fun h => ?_, fun hi hd => ?_⟩
  · have hdrain : s.drainable ≠ true := by
      rw [Ne, State.drainable_iff]
      rintro ⟨hi, hd⟩
      rcases h with ⟨hw, hr⟩ | ⟨hw, hr⟩
      · exact hi.elim hw (by simp [hr])
      · exact hd.elim hw (by simp [hr])
    exact ⟨drainOperation_unpowered hc hp hdrain, drainOperation_unpowered hc hp hdrain⟩
  · have hdrain := s.drainable_iff.2 ⟨hi, hd⟩
    refine ⟨_, _, drainOperation_drainable hc hp hdrain, drainOperation_drainable hc hp hdrain, ?_⟩
    rw [mcrSpend_eq]
    exact ⟨rfl, rfl, rfl, rfl, rfl, rfl, rfl, rfl, rfl, rfl, rfl, rfl, rfl⟩

end Sys2Proof.Machine
end

section
/-! SUPPORT. Test-and-clean (R365, R366, R368): the lines that it cleans, and what its bit 30 says of them. -/

namespace Sys2Proof.Machine

open Sys2Proof.Claims

theorem allClean_iff (ms : MemSys) : allClean ms = true ↔ ∀ l ∈ ms.dcache, l.dirty = false := by
  simp [allClean]

/-- The line picked is a dirty line of the DCache. -/
theorem testPick_some {s : State} {l : CacheLine} (h : testPick s = some l) : l ∈ s.ms.dcache ∧ l.dirty = true := by
  simp only [testPick] at h
  split at h
  · cases h
  · next x xs hdirty =>
    rw [← List.mem_filter, hdirty]
    obtain ⟨-, hl⟩ := Option.ite_none_right_eq_some.1 h
    have hlt (n : Nat) : n % (xs.length + 1) < (x :: xs).length := Nat.mod_lt n (Nat.succ_pos _)
    rw [List.getD_eq_getElem _ _ (hlt _)] at hl
    cases hl
    exact List.getElem_mem _

/-- Where a line is dirty and none is picked, the bound on such answers is not yet reached (assumption 38). -/
theorem testPick_none {s : State} (h : testPick s = none) (hd : ∃ l ∈ s.ms.dcache, l.dirty = true) :
    s.tcPatience < testPatience := by
  simp only [testPick] at h
  split at h
  · next hnone =>
    obtain ⟨l, hl, hdirty⟩ := hd
    exact absurd hdirty (List.filter_eq_nil_iff.1 hnone l hl)
  · next =>
    by_contra hge
    simp [Nat.not_lt.1 hge] at h

/-- The lines that one test-and-clean cleans: with DBGOVR[19] all that are dirty, else the one that is picked. -/
def testCleans (s : State) (l : CacheLine) : Bool :=
  if s.cp15.dbgovr.getLsbD 6 then l.dirty else testPick s == some l

section
variable {s : State}

theorem testCleans_all (h : s.cp15.dbgovr.getLsbD 6 = true) : testCleans s = CacheLine.dirty :=
  funext fun _ => if_pos h

theorem testCleans_picked (h : s.cp15.dbgovr.getLsbD 6 = false) : testCleans s = fun l => testPick s == some l :=
  funext fun _ => if_neg (by rw [h]; decide)

theorem testCleans_iff_picked (h : s.cp15.dbgovr.getLsbD 6 = false) (l : CacheLine) :
    testCleans s l = true ↔ testPick s = some l := by
  rw [testCleans_picked h, beq_iff_eq]

/-- Test-and-clean cleans the lines of testCleans; where it picks none it touches nothing. -/
theorem afterTestClean_cases (s : State) :
    afterTestClean s = cleanLines (testCleans s) s.ms ∨ afterTestClean s = s.ms ∧ testCleans s = fun _ => false := by
  cases h : s.cp15.dbgovr.getLsbD 6 with
  | true => exact .inl (by rw [testCleans_all h, afterTestClean, if_pos h])
  | false =>
    have hone : afterTestClean s = match testPick s with
        | none => s.ms
        | some l => cleanLines (fun x => x == l) s.ms := if_neg (by rw [h]; decide)
    rw [testCleans_picked h, hone]
    cases testPick s with
    | none => exact .inr ⟨rfl, rfl⟩
    | some x => exact .inl (congrArg (cleanLines · s.ms) (funext fun l => Bool.beq_comm))

theorem afterTestClean_settled (s : State) :
    (afterTestClean s).settledMem =
      s.ms.settledMem.applyAll ((s.ms.dcache.filter (testCleans s)).flatMap CacheLine.castouts) := by
  rcases afterTestClean_cases s with h | ⟨h, hnone⟩
  · rw [h]
    exact MemSys.pushBus_settled s.ms _
  · rw [h, hnone, List.filter_false]
    rfl

theorem afterTestClean_dcache (s : State) :
    (afterTestClean s).dcache = s.ms.dcache.map fun l => if testCleans s l then l.cleaned else l := by
  rcases afterTestClean_cases s with h | ⟨h, hnone⟩
  · rw [h]
    rfl
  · simp [h, hnone]

/-- Test-and-clean leaves the rest of the memory system. -/
theorem afterTestClean_eq (s : State) :
    afterTestClean s = { s.ms with
      mem := (afterTestClean s).mem, wbuf := (afterTestClean s).wbuf, dcache := (afterTestClean s).dcache } := by
  rcases afterTestClean_cases s with h | ⟨h, -⟩
  · rw [h]
    rfl
  · rw [h]

/-- Cleaning dirties no line. -/
theorem allClean_afterTestClean (h : allClean s.ms = true) : allClean (afterTestClean s) = true := by
  rw [allClean_iff] at h ⊢
  intro l hl
  rw [afterTestClean_dcache] at hl
  obtain ⟨x, hx, rfl⟩ := List.mem_map.1 hl
  split
  · rfl
  · exact h x hx

/-- With DBGOVR[19] no line stays dirty (R366). -/
theorem allClean_afterTestClean_all (h : s.cp15.dbgovr.getLsbD 6 = true) : allClean (afterTestClean s) = true := by
  rw [allClean_iff]
  intro l hl
  rw [afterTestClean_dcache, testCleans_all h] at hl
  obtain ⟨x, -, rfl⟩ := List.mem_map.1 hl
  split
  · rfl
  · next hx => exact Bool.eq_false_iff.2 hx

/-- Bit 30 is sampled before the clean or after it; in either case, where it is 1 no line is dirty after it (D5). -/
theorem allClean_of_testBit (h : testBit s = true) : allClean (afterTestClean s) = true := by
  simp only [testBit] at h
  split at h
  · exact h
  · split at h
    · exact allClean_afterTestClean h
    · exact h

theorem testBit_of_allClean (h : allClean s.ms = true) : testBit s = true := by
  simp [testBit, h, allClean_afterTestClean h]

theorem testBit_all (h : s.cp15.dbgovr.getLsbD 6 = true) : testBit s = true := by
  simp only [testBit, h, or_true, if_true, allClean_afterTestClean_all h]

theorem testValue_bit30 (s : State) : (testValue s).getLsbD 30 = testBit s := by
  simp only [testValue, BitVec.getLsbD_append]
  simp

/-- Where a line is dirty, one is cleaned, or none and that is counted. -/
theorem testCleans_or_patience (hd : ∃ l ∈ s.ms.dcache, l.dirty = true) :
    (∃ l ∈ s.ms.dcache, testCleans s l = true ∧ l.dirty = true) ∨
      nextPatience s = s.tcPatience + 1 ∧ s.tcPatience < testPatience := by
  cases h : s.cp15.dbgovr.getLsbD 6 with
  | true =>
    obtain ⟨l, hl, hdirty⟩ := hd
    exact .inl ⟨l, hl, by rwa [testCleans_all h], hdirty⟩
  | false =>
    cases hpick : testPick s with
    | some l =>
      obtain ⟨hl, hdirty⟩ := testPick_some hpick
      exact .inl ⟨l, hl, (testCleans_iff_picked h l).2 hpick, hdirty⟩
    | none =>
      have hdirty : ¬ allClean s.ms = true := by simpa [allClean_iff] using hd
      exact .inr ⟨by simp [nextPatience, hdirty, hpick], testPick_none hpick hd⟩

end

/-- The memory system that the two forms leave. -/
def testedMs (inval : Bool) (s : State) : MemSys :=
  (if inval && testBit s then dropDLines (fun _ => true) (afterTestClean s) else afterTestClean s).spend 2

theorem testedMs_settled (inval : Bool) (s : State) : (testedMs inval s).settledMem = (afterTestClean s).settledMem := by
  unfold testedMs
  split <;> rfl

theorem testedMs_dcache (inval : Bool) (s : State) :
    (testedMs inval s).dcache = if inval && testBit s then [] else (afterTestClean s).dcache := by
  unfold testedMs
  split
  · simp [dropDLines]
  · rfl

theorem testedMs_eq (inval : Bool) (s : State) :
    testedMs inval s = { s.ms with
      mem := (testedMs inval s).mem, wbuf := (testedMs inval s).wbuf, dcache := (testedMs inval s).dcache
      draws := (testedMs inval s).draws } := by
  unfold testedMs
  rw [afterTestClean_eq]
  split <;> rfl

/-- In a privileged mode, with the cache RAMs powered, both forms go on with the value that they read. -/
theorem exec_testAndClean {inval : Bool} {c : Cond} {rd : RegNum} {s : State} (hc : conditionPassed c s.cpu.cpsr = true)
    (hp : s.privileged = true) (hi : s.pins.icacheRam = true) (hd : s.pins.dcacheRam = true) :
    exec (if inval then .mrcTestCleanInvalidate c rd else .mrcTestClean c rd) s =
      .next (mrcFinish rd (testValue s) { s with ms := testedMs inval s, tcPatience := nextPatience s }) := by
  have h : testAndClean inval c rd s =
      .next (mrcFinish rd (testValue s) { s with ms := testedMs inval s, tcPatience := nextPatience s }) :=
    (cp15Access_privileged hc hp).trans (if_pos (by rw [hi, hd]; rfl))
  cases inval <;> exact h

/-- Settles O47: the lines cleaned are those of testCleans, and bit 30 is testBit. -/
theorem testAndCleanReportsClean : Obligations.TestAndCleanReportsClean := by
  intro inval c rd s hc hm hi hd
  refine ⟨_, testValue s, testCleans s, exec_testAndClean hc (State.privileged_of_mode hm) hi hd,
    mrcGives_mrcFinish rd _ rfl, ?_, ?_, ?_⟩
  · rw [mrcFinish_eq]
    exact (testedMs_settled inval s).trans (afterTestClean_settled s)
  · rw [mrcFinish_eq, testValue_bit30]
    have hdcache := afterTestClean_dcache s
    refine ⟨(testedMs_dcache inval s).trans (by rw [hdcache]; rfl), fun hbit l hl => ?_, fun hclean => ?_,
      testCleans_or_patience, fun l l' hl hl' h => ?_, fun h => ⟨fun l _ hdirty => ?_, testBit_all h⟩⟩
    · refine (allClean_iff _).1 (allClean_of_testBit hbit) l ?_
      rw [hdcache]
      exact hl
    · exact testBit_of_allClean ((allClean_iff _).2 hclean)
    · rw [testCleans_iff_picked h] at hl hl'
      exact Option.some.inj (hl.symm.trans hl')
    · rwa [testCleans_all h]
  · rw [mrcFinish_eq, testedMs_eq]

end Sys2Proof.Machine
end

section
/-! SUPPORT. What a translation leaves behind, the prefetch of a line into the ICache (R354), and the linefill that it makes (R135,
R165). -/

namespace Sys2Proof.Machine

open Sys2Proof.Claims

/-! What a translation leaves behind, whatever it answers. -/

theorem missEntry_translationStep (k : Ctx) (kind : AccessKind) (mva : Word) {a ms : MemSys} (h : TranslationStep a ms) :
    (missEntry k kind mva ms).leaves (TranslationStep a) := by
  have hl : TranslationStep a ((ms.spend 1).meanwhile k) := (h.trans (.spend 1 ms)).trans (.meanwhile k _)
  simp only [missEntry]
  split
  · exact h
  · split
    · exact h
    · split
      · trivial
      · exact hl
      · exact useEntry_leaves _ _ _ _ ((hl.trans (.meanwhile k _)).trans (.install _ _ _ _ _))

theorem translate_translationStep (k : Ctx) (kind : AccessKind) (mva : Word) (ms : MemSys) :
    (translate k kind mva ms).leaves (TranslationStep ms) := by
  have hchurn := TranslationStep.churn k ms
  simp only [translate]
  split
  · trivial
  · split
    · trivial
    · exact useEntry_leaves _ _ _ _ hchurn
    · exact missEntry_translationStep k kind mva hchurn

/-- How many values were drawn before is no matter for what a translation may change. -/
theorem onlyTranslated_of_draws {a b : MemSys} {n : Nat} (h : TranslationStep { a with draws := n } b) : onlyTranslated a b :=
  have ⟨hframe, houtside, hitcm, hdtcm, hclean⟩ := h.onlyTranslated
  ⟨hframe, houtside, hitcm, hdtcm, hclean⟩

/-- What comes before an access leaves the TLB (R18, R588). -/
theorem drainedAt_tlb (n : Nat) (k : Ctx) (ms : MemSys) :
    drainedAt n k ms = { drainedAt n k ms with
      tlbMain := ms.tlbMain, tlbLock := ms.tlbLock, cachedFaults := ms.cachedFaults, victim := ms.victim } := by
  have hmain : (drainedAt n k ms).tlbMain = ms.tlbMain := MemSys.meanwhile_tlbMain k { ms with draws := n }
  have hlock : (drainedAt n k ms).tlbLock = ms.tlbLock := MemSys.meanwhile_tlbLock k { ms with draws := n }
  have hfaults : (drainedAt n k ms).cachedFaults = ms.cachedFaults := MemSys.meanwhile_cachedFaults k { ms with draws := n }
  have hvictim : (drainedAt n k ms).victim = ms.victim := MemSys.meanwhile_victim k { ms with draws := n }
  rw [← hmain, ← hlock, ← hfaults, ← hvictim]

/-! The line. -/

/-- Bits [4:0] of the operand do not name another line (R354). -/
theorem lineAddr_masked (v : Word) : lineAddr (v &&& 0xFFFFFFE0#32) = v.extractLsb' 5 27 := by
  have hones : (0xFFFFFFE0#32).extractLsb' 5 27 = BitVec.allOnes 27 := by decide
  rw [lineAddr, BitVec.extractLsb'_and, hones, BitVec.and_allOnes]

theorem findLine_isSome_iff (lines : List CacheLine) (block : BitVec 27) :
    (findLine lines block).isSome = true ↔ ∃ l ∈ lines, l.block = block := by
  simp [findLine]

theorem findLine_eq_none_iff (lines : List CacheLine) (block : BitVec 27) :
    findLine lines block = none ↔ ∀ l ∈ lines, l.block ≠ block := by
  simp [findLine]

/-- The ways of a linefill: those that are not locked, or way 3 when all are (R135). -/
theorem mem_openWays {locked : BitVec 4} {w : BitVec 2} (h : w ∈ openWays locked) :
    locked.getLsbD w.toNat = false ∨ locked = 15#4 ∧ w = 3#2 := by
  revert locked w
  decide

theorem victimWay_mem (locked : BitVec 4) (choice : Word) : victimWay locked choice ∈ openWays locked := by
  have hpos : 0 < (openWays locked).length := by
    revert locked
    decide
  rw [victimWay, List.getD_eq_getElem _ _ (Nat.mod_lt _ hpos)]
  exact List.getElem_mem _

theorem fillWords_get {cfg : Config} {ms : MemSys} {pa : BitVec 27} {n : Fin 8} (h : busError cfg (lineWord pa n) = false) :
    (fillWords cfg ms pa).get n = ms.mem.readWord (lineWord pa n) := by
  simp [fillWords, Vector.get_eq_getElem, h]

theorem mem_placeLine (size : CacheSize) (l x : CacheLine) (lines : List CacheLine) :
    x ∈ placeLine size l lines ↔
      x = l ∨ x ∈ lines ∧ ¬ (x.way = l.way ∧ setOf size x.block = setOf size l.block) := by
  simp [placeLine, CacheLine.isAt, imp_iff_not_or]

/-! The type and the route. -/

theorem regionOfBits_cachable (f : BitVec 2) : (regionOfBits f).cachable = f.getLsbD 1 := by
  revert f
  decide

theorem regionOfBits_bits (f : BitVec 2) : (regionOfBits f).bits = f := by
  revert f
  decide

/-- With the MMU on the remap field is that of the entry's C and B bits (R52, R126). -/
theorem fetchType_mapped_cachable (k : Ctx) (t : Translated) :
    (fetchType k true t).cachable = (k.cp15.remap.extractLsb' (8 + 4 * t.c.toNat + 2 * t.b.toNat) 2).getLsbD 1 := by
  have hbits : 2 * (BitVec.ofBool t.c ++ BitVec.ofBool t.b).toNat = 4 * t.c.toNat + 2 * t.b.toNat := by
    cases t.c <;> cases t.b <;> rfl
  simp only [fetchType, fetchBaseType, if_true, remapFetch, regionOfBits_cachable, regionOfBits_bits, hbits, Nat.add_assoc]

/-- With the MMU off and the ICache on it is that of write-through (assumption 45). -/
theorem fetchType_flat_cachable {k : Ctx} (hi : k.cp15.ctrl.i = true) (t : Translated) :
    (fetchType k false t).cachable = (k.cp15.remap.extractLsb' 12 2).getLsbD 1 := by
  simp only [fetchType, fetchBaseType, Bool.false_eq_true, if_false, hi, if_true, remapFetch, regionOfBits_cachable]
  rfl

theorem fetchRoute_cache_iff (k : Ctx) (typ : RegionType) (pa : Word) :
    fetchRoute k typ pa = .cache ↔
      tcmOffset k.cfg.itcmSize k.cp15.itcm pa = none ∧ typ.cachable = true ∧ k.cp15.ctrl.i = true := by
  cases h : tcmOffset k.cfg.itcmSize k.cp15.itcm pa <;> simp [fetchRoute, h]

/-- The fields of a fault status (R540). -/
theorem faultStatusWord_status (a : AbortInfo) (choice : Word) :
    (faultStatusWord a choice).extractLsb' 0 4 = statusBits a.status (choice.getLsbD 0) := by
  rw [faultStatusWord, BitVec.extractLsb'_append_eq_of_add_le (by decide), BitVec.extractLsb'_eq_self]

theorem faultStatusWord_domain {a : AbortInfo} {d : BitVec 4} (h : a.domain = some d) (choice : Word) :
    (faultStatusWord a choice).extractLsb' 4 4 = d := by
  rw [faultStatusWord, h, BitVec.extractLsb'_append_eq_of_le (by decide)]
  exact BitVec.extractLsb'_eq_self

/-! The prefetch. -/

/-- The memory system after the prefetch of a line whose address is known. -/
def prefetchedLine (k : Ctx) (typ : RegionType) (mva pa : Word) (ms : MemSys) : MemSys :=
  if fetchRoute k typ pa = .cache then fillICache k mva pa ms else ms

/-- A linefill into the ICache, and a lookup that makes none, touch nothing beside it but the values drawn. -/
theorem prefetchedLine_eq (k : Ctx) (typ : RegionType) (mva pa : Word) (ms : MemSys) :
    prefetchedLine k typ mva pa ms = { ms with
      icache := (prefetchedLine k typ mva pa ms).icache, draws := (prefetchedLine k typ mva pa ms).draws } := by
  unfold prefetchedLine fillICache
  split
  · split <;> rfl
  · rfl

theorem prefetchedLine_none {k : Ctx} {typ : RegionType} {mva pa : Word} {ms : MemSys}
    (h : fetchRoute k typ pa ≠ .cache ∨ k.cp15.cachedbg.getLsbD 1 = true) :
    (prefetchedLine k typ mva pa ms).icache = ms.icache := by
  unfold prefetchedLine fillICache
  split
  · next hroute => rw [if_pos (h.resolve_left (not_not_intro hroute)), MemSys.spend_icache]
  · rfl

theorem prefetchedLine_fill {k : Ctx} {typ : RegionType} {mva pa : Word} {ms : MemSys} (hroute : fetchRoute k typ pa = .cache)
    (hdil : k.cp15.cachedbg.getLsbD 1 = false) :
    (prefetchedLine k typ mva pa ms).icache =
      placeLine k.cfg.icacheSize
        (filledLine k.cfg ms (victimWay k.cp15.ilock (ms.drawn 8)) (lineAddr mva) (lineAddr pa)) ms.icache := by
  rw [prefetchedLine, if_pos hroute, fillICache, if_neg (by rw [hdil]; decide)]

/-- What the prefetch of a line makes of a state is what prefetchFills says, for the remap field of the type. -/
theorem prefetchFills_prefetchedLine {s : State} {ms : MemSys} {typ : RegionType} {remapped : BitVec 2} {mva pa : Word}
    (htype : s.cp15.ctrl.i = true → typ.cachable = remapped.getLsbD 1) :
    prefetchFills remapped (lineAddr mva) pa (s.withMs ms) (s.withMs (prefetchedLine s.ctx typ mva pa ms)).advance := by
  have hroute : fetchRoute s.ctx typ pa = .cache ↔
      s.cp15.ctrl.i = true ∧ remapped.getLsbD 1 = true ∧ tcmOffset s.cfg.itcmSize s.cp15.itcm pa = none := by
    rw [fetchRoute_cache_iff]
    constructor
    · rintro ⟨ht, hc, hi⟩
      exact ⟨hi, htype hi ▸ hc, ht⟩
    · rintro ⟨hi, hr, ht⟩
      exact ⟨ht, (htype hi).trans hr, hi⟩
  refine ⟨?_, fun hnot => ?_, fun ⟨hi, hr, hdil, ht⟩ => ?_⟩
  · rw [prefetchedLine_eq]
    rfl
  · refine prefetchedLine_none (or_iff_not_imp_left.2 fun h => ?_)
    obtain ⟨hi, hr, ht⟩ := hroute.1 (not_not.1 h)
    exact Bool.not_eq_false _ ▸ fun hdil => hnot ⟨hi, hr, hdil, ht⟩
  · refine ⟨filledLine s.cfg ms (victimWay s.cp15.ilock (ms.drawn 8)) (lineAddr mva) (lineAddr pa), rfl, rfl, rfl,
      mem_openWays (victimWay_mem _ _), fun n hn => fillWords_get hn, fun x => ?_⟩
    have hicache := prefetchedLine_fill (mva := mva) (ms := ms) (hroute.2 ⟨hi, hr, ht⟩) hdil
    exact (iff_of_eq (congrArg (x ∈ ·) hicache)).trans (mem_placeLine _ _ x _)

/-- The physical address of the line that a prefetch asks for. -/
def prefetchAddress (k : Ctx) (mva : Word) (ms : MemSys) : Access Translated :=
  if k.cp15.ctrl.m then translate k .fetch mva ms else .ok { pa := mva, c := false, b := false } (ms.meanwhile k)

section
variable {s : State} {mva : Word} {ms : MemSys}

/-- Where the address is known the line is prefetched, and the pc goes on. -/
theorem prefetchLine_of_ok {tr : Translated} (h : prefetchAddress s.ctx mva s.ms = .ok tr ms) :
    prefetchLine mva s =
      .next (s.withMs (prefetchedLine s.ctx (fetchType s.ctx s.cp15.ctrl.m tr) mva tr.pa ms)).advance := by
  have hm : s.ctx.cp15.ctrl.m = s.cp15.ctrl.m := rfl
  simp only [prefetchAddress] at h
  simp only [prefetchLine, h, prefetchedLine]
  rw [hm]
  generalize fetchRoute s.ctx (fetchType s.ctx s.cp15.ctrl.m tr) tr.pa = route
  cases route <;> rfl

/-- A fault of the translation is recorded, and raises nothing (D4). -/
theorem prefetchLine_of_abort {a : AbortInfo} (h : prefetchAddress s.ctx mva s.ms = .abort a ms) :
    prefetchLine mva s =
      .next { s with cp15 := { s.cp15 with ifsr := faultStatusWord a (ms.drawn 0) }, ms := ms.spend 1 }.advance := by
  simp only [prefetchAddress] at h
  simp only [prefetchLine, h]

theorem prefetchAddress_flat (hm : s.cp15.ctrl.m = false) :
    prefetchAddress s.ctx mva s.ms = .ok { pa := mva, c := false, b := false } (s.ms.meanwhile s.ctx) :=
  if_neg (by rw [show s.ctx.cp15.ctrl.m = false from hm]; decide)

theorem prefetchAddress_mapped (hm : s.cp15.ctrl.m = true) :
    prefetchAddress s.ctx mva s.ms = translate s.ctx .fetch mva s.ms :=
  if_pos hm

/-- With the MMU off the line is prefetched from the memory that the hardware and other agents left (R18, R588). -/
theorem prefetchLine_flat (hm : s.cp15.ctrl.m = false) : ∃ t, prefetchLine mva s = .next t ∧
    prefetchFills (s.cp15.remap.extractLsb' 12 2) (lineAddr mva) mva (s.withMs (s.ms.meanwhile s.ctx)) t := by
  refine ⟨_, prefetchLine_of_ok (prefetchAddress_flat hm), prefetchFills_prefetchedLine fun hi => ?_⟩
  rw [hm]
  exact fetchType_flat_cachable hi _

/-- With the MMU on it is prefetched where the translation succeeds. -/
theorem prefetchLine_mapped {tr : Translated} (hm : s.cp15.ctrl.m = true)
    (h : translate s.ctx .fetch mva s.ms = .ok tr ms) : ∃ t, prefetchLine mva s = .next t ∧
      prefetchFills (s.cp15.remap.extractLsb' (8 + 4 * tr.c.toNat + 2 * tr.b.toNat) 2) (lineAddr mva) tr.pa (s.withMs ms) t := by
  refine ⟨_, prefetchLine_of_ok ((prefetchAddress_mapped hm).trans h), prefetchFills_prefetchedLine fun _ => ?_⟩
  rw [hm]
  exact fetchType_mapped_cachable _ tr

/-- Where the translation faults the IFSR alone is written, beside what the translation did. -/
theorem prefetchLine_faulted {a : AbortInfo} (hm : s.cp15.ctrl.m = true)
    (h : translate s.ctx .fetch mva s.ms = .abort a ms) : ∃ t, prefetchLine mva s = .next t ∧
      t.cp15.ifsr.extractLsb' 0 4 = statusBits a.status ((ms.drawn 0).getLsbD 0) ∧
      (∀ d, a.domain = some d → t.cp15.ifsr.extractLsb' 4 4 = d) ∧
      t = { s with
        cpu := { s.cpu with pc := s.cpu.pc + 4#32 }, cp15 := { s.cp15 with ifsr := t.cp15.ifsr }
        ms := { ms with draws := t.ms.draws } } :=
  ⟨_, prefetchLine_of_abort ((prefetchAddress_mapped hm).trans h), faultStatusWord_status a _,
    fun _ hd => faultStatusWord_domain hd _, rfl⟩

end

/-! The instruction. -/

theorem exec_prefetchICacheLine (c : Cond) (rd : RegNum) (s : State) :
    exec (.mcrPrefetchICacheLine c rd) s = execMcrPrefetchICacheLine c rd s := rfl

section
variable {c : Cond} {rd : RegNum} {s : State} (hc : conditionPassed c s.cpu.cpsr = true) (hp : s.privileged = true)
  (hi : s.pins.icacheRam = true) (hd : s.pins.dcacheRam = true)
include hc hp hi hd

theorem exec_prefetchICacheLine_hit (h : ∃ l ∈ s.ms.icache, l.block = (mcrValue rd s).extractLsb' 5 27) :
    exec (.mcrPrefetchICacheLine c rd) s = .next (mcrSpend rd s).advance := by
  rw [← lineAddr_masked, ← findLine_isSome_iff, ← mcrSpend_icache rd, Option.isSome_iff_exists] at h
  obtain ⟨l, hl⟩ := h
  rw [exec_prefetchICacheLine, execMcrPrefetchICacheLine, cp15Access_privileged hc hp, if_pos (by rw [hi, hd]; rfl)]
  simp only [hl]

theorem exec_prefetchICacheLine_miss (h : ∀ l ∈ s.ms.icache, l.block ≠ (mcrValue rd s).extractLsb' 5 27) :
    exec (.mcrPrefetchICacheLine c rd) s = prefetchLine (mcrValue rd s &&& 0xFFFFFFE0#32) (mcrSpend rd s) := by
  rw [← lineAddr_masked, ← findLine_eq_none_iff, ← mcrSpend_icache rd] at h
  rw [exec_prefetchICacheLine, execMcrPrefetchICacheLine, cp15Access_privileged hc hp, if_pos (by rw [hi, hd]; rfl)]
  simp only [h]

end

/-- Settles O49: a hit does nothing; after a miss the line is prefetched with the MMU off or on, or the fault is recorded. -/
theorem prefetchICacheLine : Obligations.PrefetchICacheLine := by
  intro c rd s hc hm hi hd v u mva block
  have hp := State.privileged_of_mode hm
  have hu : u = { s with ms := { s.ms with draws := u.ms.draws } } := mcrSpend_eq rd s
  have hblock : lineAddr mva = block := lineAddr_masked v
  refine ⟨fun h15 => ⟨mcrValue_of_ne h15, mcrSpend_of_ne h15⟩, hu, fun h => ?_, fun h => ?_⟩
  · have hexec : exec (.mcrPrefetchICacheLine c rd) s = .next u.advance := exec_prefetchICacheLine_hit hc hp hi hd h
    rw [hexec, hu]
    rfl
  · have hexec : exec (.mcrPrefetchICacheLine c rd) s = prefetchLine mva u := exec_prefetchICacheLine_miss hc hp hi hd h
    rw [hexec, ← hblock]
    clear_value u
    generalize u.ms.draws = n at hu
    subst hu
    have htranslated : (translate s.ctx .fetch mva { s.ms with draws := n }).leaves (onlyTranslated s.ms) :=
      Access.leaves_mono (translate_translationStep s.ctx .fetch mva _) fun _ => onlyTranslated_of_draws
    refine ⟨fun hm => ?_, fun tr ms hm htr => ?_, fun a ms hm htr => ?_⟩
    · exact ⟨onlyTranslated_of_draws (.drainedAt n s.ctx { s.ms with draws := n }),
        drainedAt_tlb n s.ctx { s.ms with draws := n }, prefetchLine_flat hm⟩
    · rw [htr] at htranslated
      exact ⟨htranslated, prefetchLine_mapped hm htr⟩
    · rw [htr] at htranslated
      exact ⟨htranslated, prefetchLine_faulted hm htr⟩

end Sys2Proof.Machine
end

section
/-! SUPPORT. The MMU test operations (R403, R409 to R419): the storage registers, the entry that the Debug and Test Address
Register selects, and the formats of Tables B-5 and B-6. -/

namespace Sys2Proof.Machine

open Sys2Proof.Claims

/-! The formats. -/

/-- The tag of an entry made of two words is the first, its should-be-zero bits read as zero (R410, assumption 14). -/
theorem tagFormat_entryOfFormats (tag pa : Word) :
    tagFormat (entryOfFormats tag pa) = tag &&& 0xFFFFFC1F#32 := by
  have mask : 0xFFFFFC1F#32 = fieldMask 10 22 ||| fieldMask 4 1 ||| fieldMask 0 4 := by decide
  rw [← bitsAt_word (tagFormat _), tagFormat, entryOfFormats, mask]
  simp only [bitsAt_append, bitsAt_zero, bitsAt_ofBool, BitVec.or_zero]
  simp only [bitsAt_extractLsb', bitAt_getLsbD, Nat.reduceAdd, BitVec.and_or_distrib_left]

/-- Its address and protection are the second (R412, assumption 14). -/
theorem paFormat_entryOfFormats (tag pa : Word) :
    paFormat (entryOfFormats tag pa) = pa &&& 0xFFFFFCFF#32 := by
  have mask : 0xFFFFFCFF#32 =
      fieldMask 10 22 ||| fieldMask 4 4 ||| fieldMask 2 2 ||| fieldMask 1 1 ||| fieldMask 0 1 := by decide
  rw [← bitsAt_word (paFormat _), paFormat, entryOfFormats, mask]
  simp only [bitsAt_append, bitsAt_zero, bitsAt_ofBool, BitVec.or_zero]
  simp only [bitsAt_extractLsb', bitAt_getLsbD, Nat.reduceAdd, BitVec.and_or_distrib_left]

/-! The two parts of the TLB as one: lock says which. -/

/-- CP15 with a word in the tag storage register of a part. -/
def putTlbTag (lock : Bool) (v : Word) (k : Cp15) : Cp15 :=
  if lock then { k with tlbTagLock := v } else { k with tlbTagMain := v }

/-- CP15 with a word in the address and protection storage register of a part. -/
def putTlbPa (lock : Bool) (v : Word) (k : Cp15) : Cp15 :=
  if lock then { k with tlbPaLock := v } else { k with tlbPaMain := v }

/-- The entry that the storage registers of a part describe. -/
def describedEntry (lock : Bool) (k : Cp15) : TlbEntry :=
  if lock then entryOfFormats k.tlbTagLock k.tlbPaLock else entryOfFormats k.tlbTagMain k.tlbPaMain

/-- The entry of a part that the Debug and Test Address Register selects. -/
def selectedEntry (lock : Bool) (s : State) : TlbEntry := if lock then selectedLock s else selectedMain s

/-- The TLB with the described entry of a part at the place selected in it. -/
def transferEntry (lock : Bool) (k : Cp15) (ms : MemSys) : MemSys :=
  if lock then ms.setLock (lockIndex k.dtaddr) (describedEntry true k)
  else ms.setMain (mainIndex k.dtaddr) (describedEntry false k)

theorem describedEntry_put (lock : Bool) (tag pa : Word) (k : Cp15) :
    describedEntry lock (putTlbPa lock pa (putTlbTag lock tag k)) = entryOfFormats tag pa := by
  cases lock <;> rfl

theorem put_dtaddr (lock : Bool) (tag pa : Word) (k : Cp15) :
    (putTlbPa lock pa (putTlbTag lock tag k)).dtaddr = k.dtaddr := by
  cases lock <;> rfl

/-- The entry transferred is the entry selected. -/
theorem selectedEntry_of_transferEntry {lock : Bool} {s : State} {ms : MemSys}
    (h : s.ms = transferEntry lock s.cp15 ms) : selectedEntry lock s = describedEntry lock s.cp15 := by
  cases lock with
  | false => simp [selectedEntry, selectedMain, h, transferEntry, Vector.get_eq_getElem]
  | true => simp [selectedEntry, selectedLock, h, transferEntry, Vector.get_eq_getElem]

/-- The place in the main part is the way, then the index in it (R403). -/
theorem mainIndex_toNat (dtaddr : Word) :
    (mainIndex dtaddr).toNat = 32 * (dtaddr.extractLsb' 31 1).toNat + (dtaddr.extractLsb' 10 5).toNat := by
  rw [mainIndex, toNat_append_add]
  omega

theorem transferEntry_lock_get (k : Cp15) (ms : MemSys) {n : Fin 8} (h : n.val ≠ (k.dtaddr.extractLsb' 26 3).toNat) :
    (transferEntry true k ms).tlbLock.get n = ms.tlbLock.get n :=
  Vector.getElem_set_ne (lockIndex k.dtaddr).isLt n.isLt h.symm

theorem transferEntry_main_get (k : Cp15) (ms : MemSys) {n : Fin 64}
    (h : n.val ≠ 32 * (k.dtaddr.extractLsb' 31 1).toNat + (k.dtaddr.extractLsb' 10 5).toNat) :
    (transferEntry false k ms).tlbMain.get n = ms.tlbMain.get n :=
  Vector.getElem_set_ne (mainIndex k.dtaddr).isLt n.isLt (mainIndex_toNat k.dtaddr ▸ h.symm)

section
variable (five lock : Bool) (c : Cond) (rd : RegNum) (s : State)

theorem exec_tlbTest_writeTag :
    exec ((tlbTest five lock).writeTag c rd) s = tlbStore 0x000003E0#32 c rd (putTlbTag lock) s := by
  cases five <;> cases lock <;> rfl

theorem exec_tlbTest_writePa :
    exec ((tlbTest five lock).writePa c rd) s = tlbStore 0x00000300#32 c rd (putTlbPa lock) s := by
  cases five <;> cases lock <;> rfl

theorem exec_tlbTest_transfer :
    exec ((tlbTest five lock).transfer c rd) s = tlbOperation c rd (fun _ s ms => transferEntry lock s.cp15 ms) s := by
  cases five <;> cases lock <;> rfl

theorem exec_tlbTest_readTag :
    exec ((tlbTest five lock).readTag c rd) s = tlbRead c rd (fun s => tagFormat (selectedEntry lock s)) s := by
  cases five <;> cases lock <;> rfl

theorem exec_tlbTest_readPa :
    exec ((tlbTest five lock).readPa c rd) s = tlbRead c rd (fun s => paFormat (selectedEntry lock s)) s := by
  cases five <;> cases lock <;> rfl

end

/-! One test operation. -/

/-- The state after a write of a storage register that leaves k in CP15; n counts the values drawn. -/
def State.tlbStored (k : Cp15) (n : Nat) (s : State) : State :=
  ({ s with cp15 := k, ms := { s.ms with draws := n } }).advance

/-- The state after the transfer to a part of the TLB. -/
def State.tlbTransferred (lock : Bool) (n : Nat) (s : State) : State :=
  ({ s with ms := transferEntry lock s.cp15 { s.ms with draws := n } }).advance

theorem State.tlbStored_reg {rd : RegNum} (h15 : rd ≠ 15) (k : Cp15) (n : Nat) (s : State) :
    (s.tlbStored k n).reg rd = s.reg rd := by
  rw [reg, reg, if_neg h15, if_neg h15]
  rfl

/-- A test operation under condition c is made: the condition holds, the mode is privileged, the TLB RAM has power. -/
structure TestsTlb (c : Cond) (s : State) : Prop where
  passed : conditionPassed c s.cpu.cpsr = true
  privileged : s.privileged = true
  powered : s.pins.mmuRam = true

/-- Should-be-zero bits are zero in the word of a register, or the word is free (assumption 37). -/
theorem mcrAllowed_zeros_iff (m : Word) (read : List Word) (rd : RegNum) (s : State) :
    mcrAllowed (.zeros m) read rd s = true ↔ rd = 15 ∨ s.reg rd &&& m = 0#32 := by
  rw [mcrAllowed_iff, Reserved.zeros_allows_iff]
  exact or_congr_right' fun h15 => by rw [mcrValue_of_ne h15]

section
variable {c : Cond} {rd : RegNum} {s : State} (h : TestsTlb c s)
include h

theorem TestsTlb.of_eq {t : State} (hcpsr : t.cpu.cpsr = s.cpu.cpsr) (hpins : t.pins = s.pins) : TestsTlb c t :=
  ⟨hcpsr ▸ h.passed, (congrArg isPrivileged hcpsr).trans h.privileged, hpins ▸ h.powered⟩

/-- After an MRC the next test operation is made too, unless the flags it put may fail the condition. -/
theorem TestsTlb.mrcFinish (hr : c = .al ∨ rd ≠ 15) (v : Word) : TestsTlb c (mrcFinish rd v s) := by
  have kept := ControlKept.mrcFinish rd v s
  refine ⟨?_, ?_, kept.pins ▸ h.powered⟩
  · rcases hr with rfl | h15
    · rfl
    · obtain ⟨-, -, hcpsr⟩ := (mrcGives_mrcFinish rd v rfl).1 h15
      exact (congrArg (conditionPassed c) hcpsr).trans h.passed
  · exact (congrArg (· != 0b10000#5) kept.control.1).trans h.privileged

theorem tlbStore_nonzero {sbz : Word} {f : Word → Cp15 → Cp15} (h15 : rd ≠ 15) (h0 : s.reg rd &&& sbz ≠ 0#32) :
    tlbStore sbz c rd f s = .refused .reservedBits := by
  refine tlbWrite_reserved h.passed h.privileged h.powered (Bool.eq_false_iff.2 fun ha => ?_)
  exact ((mcrAllowed_zeros_iff sbz _ rd s).1 ha).elim h15 h0

/-- A storage register takes a word whose should-be-zero bits are zero, or a free one. -/
theorem tlbStore_zeros {sbz : Word} {f : Word → Cp15 → Cp15} (h0 : rd = 15 ∨ s.reg rd &&& sbz = 0#32) :
    ∃ v n, tlbStore sbz c rd f s = .next (s.tlbStored (f v s.cp15) n) ∧
      mcrGives rd v s (s.tlbStored (f v s.cp15) n) := by
  refine ⟨mcrValue rd s, (mcrSpend rd s).ms.draws, ?_, mcrGives_mcrValue rfl⟩
  refine (tlbWrite_allowed h.passed h.privileged h.powered ((mcrAllowed_zeros_iff sbz _ rd s).2 h0)).trans ?_
  rw [mcrSpend_eq]
  rfl

/-- The transfer does not use its operand. -/
theorem tlbOperation_transferEntry (lock : Bool) :
    ∃ n, tlbOperation c rd (fun _ s ms => transferEntry lock s.cp15 ms) s = .next (s.tlbTransferred lock n) := by
  refine ⟨(mcrSpend rd s).ms.draws, (tlbOperation_powered h.passed h.privileged h.powered).trans ?_⟩
  rw [mcrSpend_eq]
  rfl

theorem tlbRead_powered {value : State → Word} : tlbRead c rd value s = .next (mrcFinish rd (value s) s) :=
  (cp15Access_privileged h.passed h.privileged).trans (if_pos h.powered)

end

theorem mrcFinish_ms (rd : RegNum) (v : Word) (s : State) : (mrcFinish rd v s).ms = s.ms := by
  rw [mrcFinish_eq]

theorem mrcFinish_cp15 (rd : RegNum) (v : Word) (s : State) : (mrcFinish rd v s).cp15 = s.cp15 := by
  rw [mrcFinish_eq]

/-- A read of the TLB leaves the entry selected. -/
theorem selectedEntry_mrcFinish (lock : Bool) (rd : RegNum) (v : Word) (s : State) :
    selectedEntry lock (mrcFinish rd v s) = selectedEntry lock s := by
  rw [mrcFinish_eq]
  rfl

/-- The two reads show the two words of which the selected entry was made, and leave the TLB and CP15. -/
theorem exec_tlbTest_reads {five lock : Bool} {c : Cond} {rx ry : RegNum} {s : State} {tag pa : Word} (h : TestsTlb c s)
    (hx : c = .al ∨ rx ≠ 15) (he : selectedEntry lock s = entryOfFormats tag pa) :
    ∃ t u, exec ((tlbTest five lock).readTag c rx) s = .next t ∧ exec ((tlbTest five lock).readPa c ry) t = .next u ∧
      mrcGives rx (tag &&& 0xFFFFFC1F#32) s t ∧ mrcGives ry (pa &&& 0xFFFFFCFF#32) t u ∧
      u.ms = s.ms ∧ u.cp15 = s.cp15 := by
  let t := mrcFinish rx (tagFormat (selectedEntry lock s)) s
  have ht : TestsTlb c t := h.mrcFinish hx _
  have het : selectedEntry lock t = entryOfFormats tag pa := (selectedEntry_mrcFinish lock rx _ s).trans he
  refine ⟨t, mrcFinish ry (paFormat (selectedEntry lock t)) t, (exec_tlbTest_readTag ..).trans (tlbRead_powered h),
    (exec_tlbTest_readPa ..).trans (tlbRead_powered ht), ?_, ?_, ?_, ?_⟩
  · rw [← tagFormat_entryOfFormats tag pa, ← he]
    exact mrcGives_mrcFinish rx _ rfl
  · rw [← paFormat_entryOfFormats tag pa, ← het]
    exact mrcGives_mrcFinish ry _ rfl
  · exact (mrcFinish_ms ry _ t).trans (mrcFinish_ms rx _ s)
  · exact (mrcFinish_cp15 ry _ t).trans (mrcFinish_cp15 rx _ s)

/-- Settles O51: the forms differ in the part alone, and the entry that the transfer makes is the one that the reads show. -/
theorem tlbTestOperations : Obligations.TlbTestOperations := by
  intro five lock c rt rp rz rx ry s hc hm hr hx ops
  have h : TestsTlb c s := ⟨hc, State.privileged_of_mode hm, hr⟩
  refine ⟨fun h15 h0 => (exec_tlbTest_writeTag ..).trans (tlbStore_nonzero h h15 h0),
    fun h15 h0 => (exec_tlbTest_writePa ..).trans (tlbStore_nonzero h h15 h0), fun htag hpa => ?_⟩
  obtain ⟨tag, n1, exec1, gives1⟩ := tlbStore_zeros (f := putTlbTag lock) h htag
  let s1 := s.tlbStored (putTlbTag lock tag s.cp15) n1
  have h1 : TestsTlb c s1 := h.of_eq rfl rfl
  have hpa1 : rp = 15 ∨ s1.reg rp &&& 0x00000300#32 = 0#32 :=
    or_iff_not_imp_left.2 fun h15 => (State.tlbStored_reg h15 _ n1 s).symm ▸ hpa.resolve_left h15
  obtain ⟨pa, n2, exec2, gives2⟩ := tlbStore_zeros (f := putTlbPa lock) h1 hpa1
  let s2 := s1.tlbStored (putTlbPa lock pa s1.cp15) n2
  have h2 : TestsTlb c s2 := h1.of_eq rfl rfl
  have dtaddr2 : s2.cp15.dtaddr = s.cp15.dtaddr := put_dtaddr lock tag pa s.cp15
  have pc2 : s.cpu.pc + 4#32 + 4#32 = s.cpu.pc + 8#32 := BitVec.add_assoc _ _ _
  obtain ⟨n3, exec3⟩ := tlbOperation_transferEntry (rd := rz) h2 lock
  let s3 := s2.tlbTransferred lock n3
  have entry3 : selectedEntry lock s3 = entryOfFormats tag pa :=
    (selectedEntry_of_transferEntry rfl).trans (describedEntry_put lock tag pa s.cp15)
  obtain ⟨s4, s5, exec4, exec5, gives4, gives5, ms5, cp5⟩ := exec_tlbTest_reads (s := s3) (h2.of_eq rfl rfl) hx entry3
  refine ⟨s1, s2, s3, s4, s5, tag, pa, (exec_tlbTest_writeTag ..).trans exec1, (exec_tlbTest_writePa ..).trans exec2,
    (exec_tlbTest_transfer ..).trans exec3, exec4, exec5, gives1, gives2, rfl, rfl, rfl, ?_, ?_, ?_, gives4, gives5, ms5,
    cp5⟩
  · rw [← pc2]
    rfl
  · rintro rfl
    exact ⟨rfl, fun n hn => transferEntry_lock_get s2.cp15 _ (dtaddr2 ▸ hn)⟩
  · rintro rfl
    exact ⟨rfl, fun n hn => transferEntry_main_get s2.cp15 _ (dtaddr2 ▸ hn)⟩

end Sys2Proof.Machine
end

section
/-! SUPPORT. The registers of a mode (R20), and what a write of one leaves as it was. -/

namespace Sys2Proof.Machine

theorem bank13_eq (m : BitVec 5) : bank13 m = 13 ∨ 20 ≤ bank13 m ∧ bank13 m ≤ 28 := by
  simp only [bank13]
  split_ifs <;> omega

/-- The physical number of r0 to r14: by the bank of r13, but for the seven registers that FIQ mode has of its own. -/
theorem physReg_val (m : BitVec 5) {r : RegNum} (hr : r ≠ 15) :
    (physReg m r).val =
      if r.val < 8 then r.val else if m = 0b10001#5 then r.val + 7
      else if r.val < 13 then r.val else bank13 m + (r.val - 13) := by
  have hbank := bank13_eq m
  have hr' : r.val ≠ 15 := fun h => hr (Fin.ext h)
  simp only [physReg]
  split_ifs <;> simp only [Fin.ofNat] <;> omega

/-- In each mode r0 to r14 are different physical registers. -/
theorem physReg_injective {m : BitVec 5} {r q : RegNum} (hr : r ≠ 15) (hq : q ≠ 15) (h : physReg m r = physReg m q) :
    r = q := by
  have hbank := bank13_eq m
  have hval := congrArg Fin.val h
  rw [physReg_val m hr, physReg_val m hq] at hval
  refine Fin.ext ?_
  split_ifs at hval <;> omega

theorem State.setReg_get (s : State) (r : RegNum) (v : Word) (p : Fin 30) :
    (s.setReg r v).cpu.regs.get p = if r ≠ 15 ∧ p = physReg s.mode r then v else s.cpu.regs.get p := by
  by_cases h15 : r = 15
  · rw [State.setReg, if_pos h15, if_neg fun h => h.1 h15]
    rfl
  · rw [State.setReg, if_neg h15, State.setBankReg_get]
    exact if_congr (by simp [h15]) rfl rfl

theorem State.setReg_pc (s : State) (r : RegNum) (v : Word) :
    (s.setReg r v).cpu.pc = if r = 15 then v &&& 0xFFFFFFFC#32 else s.cpu.pc := by
  rw [State.setReg]
  split <;> rfl

theorem State.setReg_nonseq (s : State) (r : RegNum) (v : Word) :
    (s.setReg r v).nonseq = if r = 15 then true else s.nonseq := by
  rw [State.setReg]
  split <;> rfl

theorem State.setReg_spsr (s : State) (r : RegNum) (v : Word) : (s.setReg r v).cpu.spsr = s.cpu.spsr := by
  rw [State.setReg]
  split <;> rfl

theorem State.setReg_mode (s : State) (r : RegNum) (v : Word) : (s.setReg r v).mode = s.mode :=
  congrArg modeOf (s.setReg_cpsr r v)

theorem State.setReg_onlyCore (s : State) (r : RegNum) (v : Word) : onlyCore s (s.setReg r v) := by
  rw [State.setReg]
  split <;> rfl

end Sys2Proof.Machine
end

section
/-! SUPPORT. The register transfers and operations of external coprocessors (R255, R461, R463, R470). -/

namespace Sys2Proof.Machine

open Sys2Proof.Claims

/-! One transfer. -/

/-- An accepted instruction goes on with the coprocessor's words. -/
theorem handshake_accepts {cp : BitVec 4} {s : State} {ws : List Word} {rest : List (List CpDrive)}
    (go : List Word → State → Result) (h14 : cp ≠ 14#4) (hp : coprocessorPresent s cp = true)
    (hr : cpReply s.cpAnswers = .accepts ws rest) : handshake cp s go = go ws (s.withAnswers rest) := by
  simp [handshake, h14, hp, hr]

theorem mcrSpend_withAnswers (rd : RegNum) (s : State) (rest : List (List CpDrive)) :
    mcrSpend rd (s.withAnswers rest) = (mcrSpend rd s).withAnswers rest := by
  rw [mcrSpend, mcrSpend]
  split <;> rfl

/-- The state of a coprocessor that has seen an instruction and taken words from the core: besides, only the core's own registers, the
answers still to come and the count of values drawn may differ. -/
def State.told (s : State) (cp : BitVec 4) (instr : BitVec 28) (rest : List (List CpDrive)) (words : List Word) (t : State) :
    State :=
  { s with
    cpu := t.cpu, nonseq := t.nonseq, cpAnswers := rest, cpPins := { s.cpPins with cpabort := false }
    cpOut := s.cpOut ++ [⟨cp, instr, s.privileged, words, false⟩], ms := { s.ms with draws := t.ms.draws } }

section
variable {cp : BitVec 4} (instr : BitVec 28) {ws : List Word} {rest : List (List CpDrive)} {s : State}
  (h14 : cp ≠ 14#4) (hp : coprocessorPresent s cp = true) (hr : cpReply s.cpAnswers = .accepts ws rest)
include h14 hp hr

theorem extMcr_accepted (rd : RegNum) :
    ∃ t v, extMcr cp instr rd s = .next t ∧ mcrGives rd v s t ∧ t.cpu = { s.cpu with pc := s.cpu.pc + 4#32 } ∧
      t.nonseq = s.nonseq ∧ t = s.told cp instr rest [v] t := by
  refine ⟨_, mcrValue rd s, handshake_accepts _ h14 hp hr, mcrGives_mcrValue ?_, ?_⟩
  · rw [mcrSpend_withAnswers]
    rfl
  · rw [mcrSpend_eq]
    exact ⟨rfl, rfl, rfl⟩

theorem extMrc_accepted (rd : RegNum) :
    ∃ t, extMrc cp instr rd s = .next t ∧ mrcGives rd (ws.getLastD 0#32) s t ∧ t.nonseq = s.nonseq ∧
      t = s.told cp instr rest [] t := by
  refine ⟨_, handshake_accepts _ h14 hp hr, mrcGives_mrcFinish rd _ rfl, ?_⟩
  rw [mrcFinish_eq]
  exact ⟨rfl, rfl⟩

theorem extCdp_accepted :
    ∃ t, extCdp cp instr s = .next t ∧ t.cpu = { s.cpu with pc := s.cpu.pc + 4#32 } ∧ t.nonseq = s.nonseq ∧
      t = s.told cp instr rest [] t :=
  ⟨_, handshake_accepts _ h14 hp hr, rfl, rfl, rfl⟩

theorem extMcrr_accepted (rn rd : RegNum) :
    ∃ t x y, extMcrr cp instr rn rd s = .next t ∧ (rd ≠ 15 → x = s.reg rd) ∧ (rn ≠ 15 → y = s.reg rn) ∧
      t.cpu = { s.cpu with pc := s.cpu.pc + 4#32 } ∧ t.nonseq = s.nonseq ∧ t = s.told cp instr rest [x, y] t :=
  ⟨_, _, _, handshake_accepts _ h14 hp hr, fun h => if_neg h, fun h => if_neg h, rfl, rfl, rfl⟩

end

theorem onlyCore_trans {a b c : State} (h : onlyCore a b) (g : onlyCore b c) : onlyCore a c := by
  unfold onlyCore at *
  rw [g, h]

theorem State.setReg_withAnswers (s : State) (rest : List (List CpDrive)) (r : RegNum) (v : Word) :
    (s.withAnswers rest).setReg r v = (s.setReg r v).withAnswers rest := by
  rw [setReg, setReg]
  split <;> rfl

/-- Words sent after a change of the core's own registers in the same mode. -/
theorem State.sendCp_told {s g : State} (h : onlyCore s g) (hc : g.cpu.cpsr = s.cpu.cpsr) (cp : BitVec 4) (instr : BitVec 28)
    (rest : List (List CpDrive)) (words : List Word) (n : Nat) :
    ((g.withAnswers rest).spend n).sendCp cp instr words false =
      s.told cp instr rest words (((g.withAnswers rest).spend n).sendCp cp instr words false) := by
  have hp : ((g.withAnswers rest).spend n).privileged = s.privileged := congrArg isPrivileged hc
  simp only [sendCp, hp]
  rw [h]
  rfl

/-- The state in which MRRC has given its two words. -/
def State.mrrcGiven (s : State) (rn rd : RegNum) (x y : Word) : State := (s.setReg rd x).setReg rn y

section
variable (s : State) (rn rd : RegNum) (x y : Word)

theorem State.mrrcGiven_get (p : Fin 30) :
    (s.mrrcGiven rn rd x y).cpu.regs.get p =
      if rn ≠ 15 ∧ p = physReg s.mode rn then y else if rd ≠ 15 ∧ p = physReg s.mode rd then x else s.cpu.regs.get p := by
  rw [mrrcGiven, setReg_get, setReg_get, setReg_mode]

theorem State.mrrcGiven_pc :
    (s.mrrcGiven rn rd x y).cpu.pc =
      if rn = 15 then y &&& 0xFFFFFFFC#32 else if rd = 15 then x &&& 0xFFFFFFFC#32 else s.cpu.pc := by
  rw [mrrcGiven, setReg_pc, setReg_pc]

theorem State.mrrcGiven_nonseq :
    (s.mrrcGiven rn rd x y).nonseq = if rn = 15 then true else if rd = 15 then true else s.nonseq := by
  rw [mrrcGiven, setReg_nonseq, setReg_nonseq]

theorem State.mrrcGiven_onlyCore : onlyCore s (s.mrrcGiven rn rd x y) :=
  onlyCore_trans (setReg_onlyCore s rd x) (setReg_onlyCore _ rn y)

theorem State.mrrcGiven_withAnswers (rest : List (List CpDrive)) :
    (s.withAnswers rest).mrrcGiven rn rd x y = (s.mrrcGiven rn rd x y).withAnswers rest := by
  rw [mrrcGiven, setReg_withAnswers, setReg_withAnswers, mrrcGiven]

theorem State.mrrcGiven_cpsr : (s.mrrcGiven rn rd x y).cpu.cpsr = s.cpu.cpsr :=
  (setReg_cpsr _ rn y).trans (setReg_cpsr s rd x)

theorem State.mrrcGiven_spsr : (s.mrrcGiven rn rd x y).cpu.spsr = s.cpu.spsr :=
  (setReg_spsr _ rn y).trans (setReg_spsr s rd x)

end

/-- What MRRC does with its words: the two registers take them, Rn the last, a word for r15 is a branch, and every other register of
the core is as it was (R461, assumption 32). -/
structure MrrcGives (rn rd : RegNum) (ws : List Word) (s t : State) : Prop where
  first : ∀ x, ws[0]? = some x → rd ≠ 15 → rn ≠ rd → t.bankReg s.mode rd = x
  second : ∀ y, ws[1]? = some y → rn ≠ 15 → t.bankReg s.mode rn = y
  others : sameRegsBut
    ((if rd = 15 then [] else [physReg s.mode rd]) ++ (if rn = 15 then [] else [physReg s.mode rn])) s t
  goesOn : rd ≠ 15 → rn ≠ 15 → t.cpu.pc = s.cpu.pc + 4#32 ∧ t.nonseq = s.nonseq
  secondPc : ∀ y, ws[1]? = some y → rn = 15 → t.cpu.pc = y &&& 0xFFFFFFFC#32 ∧ t.nonseq = true
  firstPc : ∀ x, ws[0]? = some x → rd = 15 → rn ≠ 15 → t.cpu.pc = x &&& 0xFFFFFFFC#32 ∧ t.nonseq = true
  cpsr : t.cpu.cpsr = s.cpu.cpsr
  spsr : t.cpu.spsr = s.cpu.spsr

/-- The end of MRRC: a word for r15 was a branch, else the pc goes on. -/
def State.mrrcEnd (rn rd : RegNum) (t : State) : State := if rd = 15 ∨ rn = 15 then t else t.advance

theorem State.mrrcEnd_cpu (rn rd : RegNum) (t : State) :
    (t.mrrcEnd rn rd).cpu = { t.cpu with pc := if rd = 15 ∨ rn = 15 then t.cpu.pc else t.cpu.pc + 4#32 } := by
  rw [mrrcEnd]
  split <;> rfl

theorem State.mrrcEnd_nonseq (rn rd : RegNum) (t : State) : (t.mrrcEnd rn rd).nonseq = t.nonseq := by
  rw [mrrcEnd]
  split <;> rfl

theorem State.mrrcEnd_told {rn rd : RegNum} {s t : State} {cp : BitVec 4} {instr : BitVec 28} {rest : List (List CpDrive)}
    {words : List Word} (h : t = s.told cp instr rest words t) :
    t.mrrcEnd rn rd = s.told cp instr rest words (t.mrrcEnd rn rd) := by
  rw [mrrcEnd]
  split
  · exact h
  · rw [h]
    rfl

/-- The registers, and then the pc where no register written is r15. -/
theorem MrrcGives.of_mrrcGiven {rn rd : RegNum} {ws : List Word} {free : Word} {s t : State}
    (hcpu : t.cpu = (s.mrrcGiven rn rd (ws.getD 0 0#32) (ws.getD 1 free)).cpu)
    (hseq : t.nonseq = (s.mrrcGiven rn rd (ws.getD 0 0#32) (ws.getD 1 free)).nonseq) :
    MrrcGives rn rd ws s (t.mrrcEnd rn rd) := by
  have word {n : Nat} {x z : Word} (h : ws[n]? = some x) : ws.getD n z = x := by
    rw [List.getD_eq_getElem?_getD, h, Option.getD_some]
  have ends := State.mrrcEnd_cpu rn rd t
  rw [hcpu] at ends
  have get (p : Fin 30) := congrArg (fun k : Cpu => k.regs.get p) ends
  have pc := congrArg Cpu.pc ends
  simp only [State.mrrcGiven_get] at get
  simp only [State.mrrcGiven_pc] at pc
  have seq := (State.mrrcEnd_nonseq rn rd t).trans (hseq.trans (State.mrrcGiven_nonseq ..))
  refine ⟨fun x hx h15 hne => ?_, fun y hy h15 => ?_, fun p hp => ?_, fun hd hn => ?_, fun y hy hn => ?_,
    fun x hx hd hn => ?_, ?_, ?_⟩
  · have apart : ¬(rn ≠ 15 ∧ physReg s.mode rd = physReg s.mode rn) :=
      fun ⟨hn, he⟩ => hne (physReg_injective h15 hn he).symm
    exact (get _).trans ((if_neg apart).trans ((if_pos ⟨h15, rfl⟩).trans (word hx)))
  · exact (get _).trans ((if_pos ⟨h15, rfl⟩).trans (word hy))
  · have hn : ¬(rn ≠ 15 ∧ p = physReg s.mode rn) := fun ⟨hn, he⟩ => hp (by simp [hn, he])
    have hd : ¬(rd ≠ 15 ∧ p = physReg s.mode rd) := fun ⟨hd, he⟩ => hp (by simp [hd, he])
    rw [get p, if_neg hn, if_neg hd]
  · rw [pc, seq]
    simp [hd, hn]
  · rw [pc, seq, ← word (z := free) hy]
    simp [hn]
  · rw [pc, seq, ← word (z := 0#32) hx]
    simp [hd, hn]
  · exact (congrArg Cpu.cpsr ends).trans (State.mrrcGiven_cpsr ..)
  · exact (congrArg Cpu.spsr ends).trans (State.mrrcGiven_spsr ..)

theorem extMrrc_accepted {cp : BitVec 4} (instr : BitVec 28) {ws : List Word} {rest : List (List CpDrive)} {s : State}
    (h14 : cp ≠ 14#4) (hp : coprocessorPresent s cp = true) (hr : cpReply s.cpAnswers = .accepts ws rest) (rn rd : RegNum) :
    ∃ t, extMrrc cp instr rn rd s = .next t ∧ MrrcGives rn rd ws s t ∧ t = s.told cp instr rest [] t := by
  have given : extMrrc cp instr rn rd s =
      .next (State.mrrcEnd rn rd
        ((((s.withAnswers rest).mrrcGiven rn rd (ws.getD 0 0#32) (ws.getD 1 (s.drawn 0))).spend 1).sendCp cp instr [] false)) :=
    handshake_accepts _ h14 hp hr
  rw [State.mrrcGiven_withAnswers] at given
  exact ⟨_, given, .of_mrrcGiven rfl rfl,
    State.mrrcEnd_told (State.sendCp_told (State.mrrcGiven_onlyCore ..) (State.mrrcGiven_cpsr ..) cp instr rest [] 1)⟩

end Sys2Proof.Machine
end

section
/-! SUPPORT. The unconditional coprocessor words beside the words of the same fields with condition AL (R470, assumption 35). -/

namespace Sys2Proof.Machine

open Sys2Proof.Claims

/-! The word with condition AL. -/

theorem flag_xor_bit28 (w : Word) {j : Nat} (h : j < 28) : flag (w ^^^ 0x10000000#32) j = flag w j := by
  have hbit : (0x10000000#32).getLsbD j = false := by
    rw [show 0x10000000#32 = BitVec.twoPow 32 28 from rfl, BitVec.getLsbD_twoPow]
    simp
    omega
  rw [flag, BitVec.getLsbD_xor, hbit, Bool.xor_false, flag]

theorem field_xor_bit28 (w : Word) {a k : Nat} (h : a + k ≤ 28) : field (w ^^^ 0x10000000#32) a k = field w a k := by
  refine BitVec.eq_of_getLsbD_eq fun j hj => ?_
  have hbit := flag_xor_bit28 w (j := a + j) (by omega)
  simp only [flag] at hbit
  simp only [field, BitVec.getLsbD_extractLsb', hbit]

/-- The fields of a coprocessor word with condition AL that stands beside an unconditional word. -/
structure AlTwin (v : Word) (top : BitVec 2) (mid : BitVec 12) (cp : BitVec 4) (low : BitVec 8) : Prop where
  cond : field v 28 4 = Cond.al.bits
  coprocessor : field v 26 2 = 3#2
  top : field v 24 2 = top
  mid : field v 12 12 = mid
  cp : field v 8 4 = cp
  low : field v 0 8 = low

theorem alTwin_encode (top : BitVec 2) (mid : BitVec 12) (cp : BitVec 4) (low : BitVec 8) :
    AlTwin (encode (.coprocUnconditional top mid cp low) ^^^ 0x10000000#32) top mid cp low := by
  have fields : let w := 63#6 ++ top ++ mid ++ cp ++ low
      field w 28 4 = 15#4 ∧ field w 26 2 = 3#2 ∧ field w 24 2 = top ∧ field w 12 12 = mid ∧ field w 8 4 = cp ∧
        field w 0 8 = low := by
    simp (disch := decide) only [field, BitVec.extractLsb'_append_eq_of_le, BitVec.extractLsb'_append_eq_of_add_le,
      Nat.reduceSub, BitVec.extractLsb'_eq_self, and_self, and_true]
    decide
  obtain ⟨h28, h26, h24, h12, h8, h0⟩ := fields
  have hcond : field (encode (.coprocUnconditional top mid cp low) ^^^ 0x10000000#32) 28 4 = 14#4 := by
    rw [field, BitVec.extractLsb'_xor]
    exact congrArg (· ^^^ 1#4) h28
  exact ⟨hcond, (field_xor_bit28 _ (by decide)).trans h26, (field_xor_bit28 _ (by decide)).trans h24,
    (field_xor_bit28 _ (by decide)).trans h12, (field_xor_bit28 _ (by decide)).trans h8,
    (field_xor_bit28 _ (by decide)).trans h0⟩

section
variable {v : Word} {top : BitVec 2} {mid : BitVec 12} {cp : BitVec 4} {low : BitVec 8} (h : AlTwin v top mid cp low)
include h

theorem AlTwin.flag_mid {j : Nat} (hj : j < 12) : flag v (12 + j) = mid.getLsbD j := by
  rw [flag_eq_field v j hj, h.mid]

theorem AlTwin.flag_low {j : Nat} (hj : j < 8) : flag v j = low.getLsbD j := by
  rw [← Nat.zero_add j, flag_eq_field v j hj, h.low, Nat.zero_add]

theorem AlTwin.flag_top {j : Nat} (hj : j < 2) : flag v (24 + j) = top.getLsbD j := by
  rw [flag_eq_field v j hj, h.top]

theorem AlTwin.rnOf_eq : rnOf v = regOf (mid.extractLsb' 4 4) := by
  rw [← h.mid, extract_field (by decide)]
  rfl

theorem AlTwin.rdOf_eq : rdOf v = regOf (mid.extractLsb' 0 4) := by
  rw [← h.mid, extract_field (by decide)]
  rfl

theorem AlTwin.coprocModeOf_eq : coprocModeOf v = unconditionalMode top mid := by
  have h24 : flag v 24 = top.getLsbD 0 := h.flag_top (j := 0) (by decide)
  have h23 : flag v 23 = mid.getLsbD 11 := h.flag_mid (j := 11) (by decide)
  have h22 : flag v 22 = mid.getLsbD 10 := h.flag_mid (j := 10) (by decide)
  have h21 : flag v 21 = mid.getLsbD 9 := h.flag_mid (j := 9) (by decide)
  rw [coprocModeOf, h24, h23, h22, h21, unconditionalMode]

/-- The class of the word is that of MCR, MRC and CDP, or of LDC, STC and the two-register words, by the upper of the two bits. -/
theorem AlTwin.class_eq : field v 25 3 = if top.getLsbD 1 then 7#3 else 6#3 := by
  rw [← field_append (w := v) (b := 26) (a := 25) (n := 2) (k := 1) rfl, h.coprocessor, ← ofBool_flag,
    show flag v 25 = _ from h.flag_top (j := 1) (by decide)]
  cases top.getLsbD 1 <;> rfl

end

/-! The instructions by their words. -/

section
variable (crn crd crm : BitVec 4) {cp : BitVec 4} (op1 op2 : BitVec 3) (op op' : BitVec 4) (imm8 : BitVec 8) (a : CoprocMode)
  (rn rd : RegNum) (l : Bool) (s : State)

theorem exec_extTransferInstr :
    exec (extTransferInstr .al op1 l crn rd cp op2 crm) s =
      if l then extMrc cp (shownBits (extTransferInstr .al op1 l crn rd cp op2 crm)) rd s
      else extMcr cp (shownBits (extTransferInstr .al op1 l crn rd cp op2 crm)) rd s := by
  cases l <;> rfl

theorem exec_cdpInstr (h15 : cp ≠ 15#4) :
    exec (cdpInstr .al op crn crd cp op2 crm) s = extCdp cp (shownBits (cdpInstr .al op crn crd cp op2 crm)) s := by
  rw [cdpInstr, if_neg h15]
  rfl

theorem exec_coprocMemoryInstr (h15 : cp ≠ 15#4) :
    exec (coprocMemoryInstr .al a l rn crd cp imm8) s =
      if l then extLdc a rn cp (shownBits (coprocMemoryInstr .al a l rn crd cp imm8)) imm8 s
      else extStc a rn cp (shownBits (coprocMemoryInstr .al a l rn crd cp imm8)) imm8 s := by
  rw [coprocMemoryInstr, if_neg h15]
  cases l <;> rfl

theorem exec_twoRegisterInstr (h15 : cp ≠ 15#4) :
    exec (twoRegisterInstr .al l rn rd cp op op') s =
      if l then extMrrc cp (shownBits (twoRegisterInstr .al l rn rd cp op op')) rn rd s
      else extMcrr cp (shownBits (twoRegisterInstr .al l rn rd cp op op')) rn rd s := by
  rw [twoRegisterInstr, if_neg h15]
  cases l <;> rfl

end

/-- What an unconditional coprocessor word does outside CP15, the coprocessor being shown the bits given. -/
def unconditionalMeaning (top : BitVec 2) (mid : BitVec 12) (cp : BitVec 4) (low : BitVec 8) (shown : BitVec 28) (s : State) :
    Result :=
  if top.getLsbD 1 then
    if low.getLsbD 4 then
      if mid.getLsbD 8 then extMrc cp shown (regOf (mid.extractLsb' 0 4)) s
      else extMcr cp shown (regOf (mid.extractLsb' 0 4)) s
    else extCdp cp shown s
  else if (unconditionalMode top mid).notTwoRegister then
    if mid.getLsbD 8 then extLdc (unconditionalMode top mid) (regOf (mid.extractLsb' 4 4)) cp shown low s
    else extStc (unconditionalMode top mid) (regOf (mid.extractLsb' 4 4)) cp shown low s
  else if mid.getLsbD 8 then extMrrc cp shown (regOf (mid.extractLsb' 4 4)) (regOf (mid.extractLsb' 0 4)) s
  else extMcrr cp shown (regOf (mid.extractLsb' 4 4)) (regOf (mid.extractLsb' 0 4)) s

theorem execCoprocUnconditional_eq {top : BitVec 2} {mid : BitVec 12} {cp : BitVec 4} {low : BitVec 8} (s : State)
    (h15 : cp ≠ 15#4) :
    execCoprocUnconditional top mid cp low s =
      unconditionalMeaning top mid cp low (shownBits (.coprocUnconditional top mid cp low)) s :=
  if_neg h15

/-- The word with condition AL is an instruction of the same meaning. -/
theorem AlTwin.exec_decoded {v : Word} {top : BitVec 2} {mid : BitVec 12} {cp : BitVec 4} {low : BitVec 8}
    (h : AlTwin v top mid cp low) (h3 : top ≠ 3#2) (h15 : cp ≠ 15#4) :
    ∃ j, decode v = some j ∧ conditionOf j = some .al ∧
      ∀ s, exec j s = unconditionalMeaning top mid cp low (shownBits j) s := by
  have hl : flag v 20 = mid.getLsbD 8 := h.flag_mid (j := 8) (by decide)
  have hd := decode_conditional h.cond h.class_eq
  unfold unconditionalMeaning
  cases htop : top.getLsbD 1 with
  | true =>
    have h24 : flag v 24 = false := by
      have bit0 : ∀ x : BitVec 2, x ≠ 3#2 → x.getLsbD 1 = true → x.getLsbD 0 = false := by decide
      exact (h.flag_top (j := 0) (by decide)).trans (bit0 top h3 htop)
    have hd7 : decode v = decodeClass7 .al v := hd.trans (by rw [htop]; rfl)
    have h4 : flag v 4 = low.getLsbD 4 := h.flag_low (by decide)
    cases hlow : low.getLsbD 4 with
    | true =>
      rw [decodeClass7, if_neg (by simp [h24]), if_pos (h4.trans hlow), decodeTransfer_ext .al (by rwa [h.cp]), hl, h.cp,
        h.rdOf_eq] at hd7
      exact ⟨_, hd7, by cases mid.getLsbD 8 <;> rfl, fun s => exec_extTransferInstr ..⟩
    | false =>
      rw [decodeClass7_cdp .al h24 (h4.trans hlow), h.cp] at hd7
      exact ⟨_, hd7, by rw [cdpInstr, if_neg h15]; rfl, fun s => exec_cdpInstr (h15 := h15) ..⟩
  | false =>
    have hd6 : decode v = decodeCoprocMemory .al v := hd.trans (by rw [htop]; rfl)
    rw [decodeCoprocMemory_eq, h.coprocModeOf_eq, hl, h.cp, h.low, h.rnOf_eq, h.rdOf_eq] at hd6
    cases htwo : (unconditionalMode top mid).notTwoRegister with
    | true =>
      rw [if_pos htwo] at hd6
      exact ⟨_, hd6, by rw [coprocMemoryInstr, if_neg h15]; cases mid.getLsbD 8 <;> rfl,
        fun s => exec_coprocMemoryInstr (h15 := h15) ..⟩
    | false =>
      rw [if_neg (by simp [htwo])] at hd6
      exact ⟨_, hd6, by rw [twoRegisterInstr, if_neg h15]; cases mid.getLsbD 8 <;> rfl,
        fun s => exec_twoRegisterInstr (h15 := h15) ..⟩

/-- The two words show the coprocessor the same bits. -/
theorem shownTo_alTwin {i j : Instr} (hj : decode (encode i ^^^ 0x10000000#32) = some j) : shownTo j = shownTo i := by
  rw [shownTo, (encodeOfDecode _ j hj).2]
  exact field_xor_bit28 (encode i) (a := 0) (k := 28) (by decide)

/-- An accepted unconditional word of the MCR2, MRC2 and CDP2 group goes on. -/
theorem unconditionalMeaning_goesOn {mid : BitVec 12} {cp : BitVec 4} {low : BitVec 8} (shown : BitVec 28) {ws : List Word}
    {rest : List (List CpDrive)} {s : State} (h14 : cp ≠ 14#4) (hp : coprocessorPresent s cp = true)
    (hr : cpReply s.cpAnswers = .accepts ws rest) : ∃ t, unconditionalMeaning 2#2 mid cp low shown s = .next t := by
  rw [unconditionalMeaning, if_pos (show (2#2).getLsbD 1 = true from rfl)]
  split
  · split
    · obtain ⟨t, ht, -⟩ := extMrc_accepted shown h14 hp hr (regOf (mid.extractLsb' 0 4))
      exact ⟨t, ht⟩
    · obtain ⟨t, -, ht, -⟩ := extMcr_accepted shown h14 hp hr (regOf (mid.extractLsb' 0 4))
      exact ⟨t, ht⟩
  · obtain ⟨t, ht, -⟩ := extCdp_accepted shown h14 hp hr
    exact ⟨t, ht⟩

/-- Settles O53: each accepted transfer by its own rule; an unconditional word and its twin with condition AL have one meaning and
show one instruction. -/
theorem externalCoprocessorTransfers : Obligations.ExternalCoprocessorTransfers := by
  refine ⟨fun c op1 crn crd crm op op2 rn rd cp ws rest s hc h14 hp hr => ⟨?_, ?_, ?_, ?_, ?_⟩,
    fun top mid cp low s h3 h15 => ?_⟩
  · obtain ⟨t, v, ht, h⟩ := extMcr_accepted (shownTo (.mcrExt c op1 crn rd cp op2 crm)) h14 hp hr rd
    exact ⟨t, v, (State.conditionally_passed hc).trans ht, h⟩
  · obtain ⟨t, ht, h⟩ := extMrc_accepted (shownTo (.mrcExt c op1 crn rd cp op2 crm)) h14 hp hr rd
    exact ⟨t, (State.conditionally_passed hc).trans ht, h⟩
  · obtain ⟨t, ht, h⟩ := extCdp_accepted (shownTo (.cdpExt c op crn crd cp op2 crm)) h14 hp hr
    exact ⟨t, (State.conditionally_passed hc).trans ht, h⟩
  · obtain ⟨t, x, y, ht, h⟩ := extMcrr_accepted (shownTo (.mcrrExt c rn rd cp op crm)) h14 hp hr rn rd
    exact ⟨t, x, y, (State.conditionally_passed hc).trans ht, h⟩
  · obtain ⟨t, ht, h, htold⟩ := extMrrc_accepted (shownTo (.mrrcExt c rn rd cp op crm)) h14 hp hr rn rd
    exact ⟨t, (State.conditionally_passed hc).trans ht, h.first, h.second, h.others, h.goesOn, h.secondPc, h.firstPc, h.cpsr,
      h.spsr, htold⟩
  · obtain ⟨j, hj, hal, hexec⟩ := (alTwin_encode top mid cp low).exec_decoded h3 h15
    have hshown := shownTo_alTwin hj
    have hmeaning : exec (.coprocUnconditional top mid cp low) s = _ := execCoprocUnconditional_eq s h15
    have hsame : exec j s = unconditionalMeaning top mid cp low (shownBits (.coprocUnconditional top mid cp low)) s :=
      (hexec s).trans (congrArg (fun shown => unconditionalMeaning top mid cp low shown s) hshown)
    refine ⟨j, hj, hal, hshown, hmeaning.trans hsame.symm, fun h14 hp hr h2 => ?_⟩
    obtain ⟨ws, rest, hr⟩ := hr
    subst h2
    rw [hmeaning]
    exact unconditionalMeaning_goesOn _ h14 hp hr

end Sys2Proof.Machine
end

section
/-! SUPPORT. Data accesses that go straight to AHB (State.plain): what they read and write, one word and several (R100, R127, R140,
R588). -/

namespace Sys2Proof.Machine

open Sys2Proof.Claims

/-! What one access after another may leave behind. -/

theorem MemSys.othersWrite_of_sublist {a b : MemSys} (h : b.outside.flatten.Sublist a.outside.flatten) {t : Bool} {cell : Nat}
    (ha : a.othersWrite t cell = false) : b.othersWrite t cell = false := by
  rw [MemSys.othersWrite_eq_false_iff] at ha ⊢
  exact fun w hw => ha w (h.subset hw)

theorem MemSys.alone_of_sublist {a b : MemSys} (h : b.outside.flatten.Sublist a.outside.flatten) {word : BitVec 30}
    (ha : a.alone word = true) : b.alone word = true := by
  rw [MemSys.alone_iff] at ha ⊢
  exact fun w hw => ha w (h.subset hw)

theorem onlyStores_trans {a b c : MemSys} (h : onlyStores a b) (g : onlyStores b c) : onlyStores a c := by
  obtain ⟨hframe, hitcm, hdtcm, hout⟩ := h
  obtain ⟨gframe, gitcm, gdtcm, gout⟩ := g
  exact ⟨by rw [gframe, hframe], gitcm.trans hitcm,
    fun cell hc => (gdtcm cell (MemSys.othersWrite_of_sublist hout hc)).trans (hdtcm cell hc), gout.trans hout⟩

/-- Of two accesses the later one's bytes stay. -/
theorem storesBytes_trans {f g : Nat → Option Byte} {a b c : MemSys} (h : storesBytes f a b) (k : storesBytes g b c) :
    storesBytes (fun cell => (g cell).or (f cell)) a c := by
  obtain ⟨honly, hbytes⟩ := h
  obtain ⟨konly, kbytes⟩ := k
  refine ⟨onlyStores_trans honly konly, fun cell hc => ?_⟩
  rw [kbytes cell (MemSys.othersWrite_of_sublist honly.2.2.2 hc), hbytes cell hc]
  cases hg : g cell <;> simp [hg]

theorem sameBytes_trans {a b c : MemSys} (h : sameBytes a b) (g : sameBytes b c) : sameBytes a c :=
  storesBytes_trans (f := fun _ => none) (g := fun _ => none) h g

theorem sameBytes_storesBytes {f : Nat → Option Byte} {a b c : MemSys} (h : sameBytes a b) (g : storesBytes f b c) :
    storesBytes f a c := by
  have hor : (fun cell => (f cell).or none) = f := funext fun cell => Option.or_none
  exact hor ▸ storesBytes_trans (f := fun _ => none) h g

theorem onlyStores_refl (ms : MemSys) : onlyStores ms ms := ⟨rfl, rfl, fun _ _ => rfl, List.Sublist.refl _⟩

theorem sameBytes_refl (ms : MemSys) : sameBytes ms ms := ⟨onlyStores_refl ms, fun _ _ => rfl⟩

/-- A word that other agents leave alone reads the same when the bytes are the same. -/
theorem sameBytes_readWord {a b : MemSys} (h : sameBytes a b) {word : BitVec 30} (ha : a.alone word = true) :
    b.settledMem.readWord word = a.settledMem.readWord word := by
  refine Memory.readWord_congr fun lane hl => h.2 _ ?_
  simp only [MemSys.alone, List.all_eq_true, List.mem_range, Bool.not_eq_true'] at ha
  exact ha lane hl

/-! One word. -/

theorem toNat_wordAddr (a : Word) : (wordAddr a).toNat = a.toNat / 4 := by
  have := a.isLt
  rw [wordAddr, BitVec.extractLsb'_toNat, Nat.shiftRight_eq_div_pow]
  omega

/-- What a write of a whole word leaves in each cell. -/
theorem Memory.read_writeLanes_whole {m : Memory} (a v : Word) (cell : Nat) (h : m.wf = true) :
    (m.writeLanes (wordAddr a) 15#4 v).read cell = (wordBytes a v cell).getD (m.read cell) := by
  have driven : (15#4).getLsbD (cell % 4) = true := by
    have := Nat.mod_lt cell (show 0 < 4 by decide)
    interval_cases cell % 4 <;> rfl
  rw [Memory.read_writeLanes _ _ _ _ h, toNat_wordAddr, wordBytes]
  simp only [driven, and_true]
  split <;> rfl

/-- A data access of a context goes straight to AHB and is answered (R100, R129, R130, R165, R570). -/
structure StraightToBus (k : Ctx) (a : Word) : Prop where
  unwatched : k.watched = false
  mmuOff : k.cp15.ctrl.m = false
  dcacheOff : k.cp15.ctrl.c = false
  noDtcm : tcmOffset k.cfg.dtcmSize k.cp15.dtcm a = none
  noItcm : tcmOffset k.cfg.itcmSize k.cp15.itcm a = none
  answered : busError k.cfg (wordAddr a) = false

theorem State.plain_iff (s : State) (a : Word) :
    s.plain a = true ↔ s.ms.alone (wordAddr a) = true ∧ StraightToBus s.ctx a := by
  simp only [State.plain, Bool.and_eq_true, Bool.not_eq_true', Option.isNone_iff_eq_none, and_assoc]
  exact and_congr_right' ⟨fun ⟨h1, h2, h3, h4, h5, h6⟩ => ⟨h1, h2, h3, h4, h5, h6⟩,
    fun ⟨h1, h2, h3, h4, h5, h6⟩ => ⟨h1, h2, h3, h4, h5, h6⟩⟩

section
variable {k : Ctx} {a : Word} {ms : MemSys} (h : StraightToBus k a)
include h

theorem StraightToBus.translated (kind : AccessKind) :
    dataTranslate k kind (fcse k.cp15 a) ms = .ok { pa := a, c := false, b := false } ms := by
  simp [dataTranslate, h.unwatched, h.mmuOff, fcse_mmuOff a h.mmuOff]

theorem StraightToBus.route (typ : RegionType) : dataRoute k typ a = .bus := by
  simp [dataRoute, h.noDtcm, h.noItcm, h.dcacheOff]

/-- A read finds the word that memory holds once every pending write has gone, and changes no byte. -/
theorem StraightToBus.readBus_ok (typ : RegionType) (mva : Word) (hw : ms.wf = true) :
    ∃ ms', readBus k typ mva a ms = .ok (ms.settledMem.readWord (wordAddr a)) ms' ∧ sameBytes ms ms' := by
  refine ⟨beforeBusRead typ a ms, ?_, ?_⟩
  · simp only [readBus, h.answered]
    rw [beforeBusRead_readWord typ a hw]
    rfl
  · rw [beforeBusRead]
    split
    · exact ⟨⟨rfl, rfl, fun _ _ => rfl, List.Sublist.refl _⟩, fun _ _ => rfl⟩
    · exact sameBytes_refl ms

theorem StraightToBus.dataRead_ok (hw : ms.wf = true) (ha : ms.alone (wordAddr a) = true) :
    ∃ ms', dataRead k false a ms = .ok (ms.settledMem.readWord (wordAddr a)) ms' ∧ sameBytes ms ms' ∧ ms'.wf = true := by
  have hmeanwhile := MemSys.meanwhile_sameBytes (k := k) hw (.inl h.dcacheOff)
  obtain ⟨ms', hread, hsame⟩ := h.readBus_ok (lockedType false (busType (dataType k.cp15 .read ⟨a, false, false⟩)))
    (fcse k.cp15 a) (MemSys.wf_meanwhile k hw)
  have hok : dataRead k false a ms = .ok (ms.settledMem.readWord (wordAddr a)) ms' := by
    rw [← sameBytes_readWord hmeanwhile ha, ← hread]
    simp only [dataRead, h.translated, readAt, h.route]
  have hwf := dataRead_leaves k false a hw
  rw [hok] at hwf
  exact ⟨ms', hok, sameBytes_trans hmeanwhile hsame, hwf⟩

/-- A write of a word puts its bytes, buffered or not, and changes no other. -/
theorem StraightToBus.writeBus_ok (typ : RegionType) (mva v : Word) (hw : ms.wf = true) :
    ∃ ms', writeBus k typ mva a 15#4 v ms = .ok () ms' ∧ storesBytes (wordBytes a v) ms ms' := by
  have bytes (cell : Nat) := Memory.read_writeLanes_whole a v cell (MemSys.wf_settled hw).1
  simp only [writeBus, h.answered]
  split
  · exact ⟨_, rfl, ⟨rfl, rfl, fun _ _ => rfl, List.Sublist.refl _⟩, fun cell _ => bytes cell⟩
  · refine ⟨_, rfl, ⟨rfl, rfl, fun _ _ => rfl, List.Sublist.refl _⟩, fun cell _ => ?_⟩
    rw [MemSys.pushBus_settled, Memory.applyAll_cons, Memory.applyAll_nil]
    exact bytes cell

theorem StraightToBus.dataWrite_ok (v : Word) (hw : ms.wf = true) :
    ∃ ms', dataWrite k false a 15#4 v ms = .ok () ms' ∧ storesBytes (wordBytes a v) ms ms' ∧ ms'.wf = true := by
  have hmeanwhile := MemSys.meanwhile_sameBytes (k := k) hw (.inl h.dcacheOff)
  obtain ⟨ms', hwrite, hstores⟩ := h.writeBus_ok (lockedType false (busType (dataType k.cp15 .write ⟨a, false, false⟩)))
    (fcse k.cp15 a) v (MemSys.wf_meanwhile k hw)
  have hok : dataWrite k false a 15#4 v ms = .ok () ms' := by
    rw [← hwrite]
    simp only [dataWrite, h.translated, writeAt, h.route]
  have hwf := dataWrite_leaves k false a 15#4 v hw
  rw [hok] at hwf
  exact ⟨ms', hok, sameBytes_storesBytes hmeanwhile hstores, hwf⟩

end

/-! Several words. -/

theorem wordsFrom_eq_map (a : Word) (n : Nat) :
    wordsFrom a n = (List.range n).map fun j => a + BitVec.ofNat 32 (4 * j) := by
  induction n generalizing a with
  | zero => rfl
  | succ n ih =>
    rw [wordsFrom, ih, List.range_succ_eq_map, List.map_cons, List.map_map]
    refine congrArg₂ List.cons (BitVec.add_zero a).symm (List.map_congr_left fun j _ => ?_)
    rw [Function.comp_apply, Nat.mul_succ, Nat.add_comm, BitVec.ofNat_add, ← BitVec.add_assoc]

/-- Words read straight from AHB are those that memory holds, and no byte changes. -/
theorem readWords_straight {k : Ctx} {as : List Word} {ms : MemSys} (hw : ms.wf = true)
    (h : ∀ a ∈ as, ms.alone (wordAddr a) = true ∧ StraightToBus k a) :
    ∃ out, readWords k as ms = .ok out ∧ out.failed = none ∧
      out.words = (as.map fun a => ms.settledMem.readWord (wordAddr a)) ∧ sameBytes ms out.ms := by
  induction as generalizing ms with
  | nil => exact ⟨_, rfl, rfl, rfl, sameBytes_refl ms⟩
  | cons a as ih =>
    obtain ⟨⟨halone, hstraight⟩, hrest⟩ := List.forall_mem_cons.1 h
    obtain ⟨ms', hread, hsame, hwf⟩ := hstraight.dataRead_ok hw halone
    obtain ⟨out, hout, hfailed, hwords, hsame'⟩ :=
      ih hwf fun b hb => ⟨MemSys.alone_of_sublist hsame.1.2.2.2 (hrest b hb).1, (hrest b hb).2⟩
    refine ⟨{ out with words := ms.settledMem.readWord (wordAddr a) :: out.words }, ?_, hfailed, ?_,
      sameBytes_trans hsame hsame'⟩
    · simp only [readWords, hread, hout]
    · rw [List.map_cons, hwords]
      refine congrArg _ (List.map_congr_left fun b hb => ?_)
      exact sameBytes_readWord hsame (hrest b hb).1

/-- The words of a transfer that begins elsewhere drive no byte of a word. -/
theorem wordsBytes_eq_none {vs : List Word} {start : Word} {cell : Nat}
    (h : ∀ b ∈ wordsFrom start vs.length, cell / 4 ≠ b.toNat / 4) : wordsBytes start vs cell = none := by
  induction vs generalizing start with
  | nil => rfl
  | cons v vs ih =>
    obtain ⟨hfirst, hrest⟩ := List.forall_mem_cons.1 h
    rw [wordsBytes, wordBytes, if_neg hfirst, ih hrest]
    rfl

/-- In a transfer that does not go all round the address space the words after the first are other words. -/
theorem wordsBytes_next {a v : Word} {vs : List Word} (hlen : vs.length < 2 ^ 30 - 1) (cell : Nat) :
    (wordsBytes (a + 4#32) vs cell).or (wordBytes a v cell) = wordsBytes a (v :: vs) cell := by
  by_cases hcell : cell / 4 = a.toNat / 4
  · have apart : wordsBytes (a + 4#32) vs cell = none := by
      refine wordsBytes_eq_none fun b hb => ?_
      rw [wordsFrom_eq_map, List.mem_map] at hb
      obtain ⟨j, hj, rfl⟩ := hb
      have := List.mem_range.1 hj
      rw [hcell, BitVec.toNat_add, BitVec.toNat_add, BitVec.toNat_ofNat]
      have := a.isLt
      simp only [BitVec.toNat_ofNat]
      omega
    rw [wordsBytes, apart]
    simp
  · rw [wordsBytes, wordBytes, if_neg hcell]
    simp

/-- Words written straight to AHB put their bytes there and change no other. -/
theorem writeWords_straight {k : Ctx} {vs : List Word} {a : Word} {ms : MemSys} (hw : ms.wf = true) (hlen : vs.length < 2 ^ 30)
    (h : ∀ b ∈ wordsFrom a vs.length, StraightToBus k b) :
    ∃ out, writeWords k ((wordsFrom a vs.length).zip vs) ms = .ok out ∧ out.failed = none ∧
      storesBytes (wordsBytes a vs) ms out.ms := by
  induction vs generalizing a ms with
  | nil => exact ⟨_, rfl, rfl, sameBytes_refl ms⟩
  | cons v vs ih =>
    obtain ⟨hstraight, hrest⟩ := List.forall_mem_cons.1 h
    obtain ⟨ms', hwrite, hstores, hwf⟩ := hstraight.dataWrite_ok v hw
    rw [List.length_cons] at hlen
    obtain ⟨out, hout, hfailed, hstores'⟩ := ih hwf (by omega) hrest
    have hnext : (fun cell => (wordsBytes (a + 4#32) vs cell).or (wordBytes a v cell)) = wordsBytes a (v :: vs) :=
      funext (wordsBytes_next (by omega))
    refine ⟨out, ?_, hfailed, hnext ▸ storesBytes_trans hstores hstores'⟩
    rw [List.length_cons, wordsFrom, List.zip_cons_cons, writeWords, hwrite]
    exact hout

end Sys2Proof.Machine
end

section
/-! SUPPORT. LDC and STC of external coprocessors (R464, assumption 36). -/

namespace Sys2Proof.Machine

open Sys2Proof.Claims

/-! What follows the accesses of several words. -/

section
variable {s : State} {first : Word} {count : Nat}

theorem State.afterReads_ok {out : ReadMany} (h : out.failed = none) (failed : List Word → State → State)
    (go : List Word → State → Result) : s.afterReads first count (.ok out) failed go = go out.words (s.withMs out.ms) := by
  simp only [State.afterReads, h]

theorem State.afterReads_aborted {out : ReadMany} {e : AbortInfo} {va : Word} (h : out.failed = some (e, va))
    (failed : List Word → State → State) (go : List Word → State → Result) :
    s.afterReads first count (.ok out) failed go =
      .next (takeDataAbort (multiAbort s.ctx first count e va) (failed out.words (s.withMs out.ms))) := by
  simp only [State.afterReads, h]

theorem State.afterWrites_ok {out : WriteMany} (h : out.failed = none) (failed : State → State) (go : State → Result) :
    s.afterWrites first count (.ok out) failed go = go (s.withMs out.ms) := by
  simp only [State.afterWrites, h]

theorem State.afterWrites_aborted {out : WriteMany} {e : AbortInfo} {va : Word} (h : out.failed = some (e, va))
    (failed : State → State) (go : State → Result) :
    s.afterWrites first count (.ok out) failed go =
      .next (takeDataAbort (multiAbort s.ctx first count e va) (failed (s.withMs out.ms))) := by
  simp only [State.afterWrites, h]

end

/-! Accepted transfers. -/

/-- With A = 0, or at a multiple of four, the alignment check of a word access lets it pass (R110, R111). -/
theorem not_misaligned {check : Bool} {va : Word} (h : check = false ∨ va.toNat % 4 = 0) :
    ¬(check = true ∧ wordAligned va = false) := by
  rintro ⟨hcheck, hva⟩
  rcases h with h | h
  · rw [h] at hcheck
    cases hcheck
  · rw [(wordAligned_iff va).2 h] at hva
    cases hva

section
variable {a : CoprocMode} {rn : RegNum} {cp : BitVec 4} {imm8 : BitVec 8} {ws : List Word} {rest : List (List CpDrive)}
  {s : State} (instr : BitVec 28) (h14 : cp ≠ 14#4) (hmode : undefinedMode a = false) (hp : coprocessorPresent s cp = true)
  (hr : cpReply s.cpAnswers = .accepts ws rest)
  (hal : s.cp15.ctrl.a = false ∨ (addressCoproc a rn imm8 s).address.toNat % 4 = 0)
include h14 hmode hp hr hal

/-- Once accepted, an LDC that passes the alignment check reads its words. -/
theorem extLdc_accepted :
    extLdc a rn cp instr imm8 s =
      (s.withAnswers rest).afterReads (addressCoproc a rn imm8 s).address ws.length
        (readWords s.ctx (wordsFrom ((addressCoproc a rn imm8 s).address &&& 0xFFFFFFFC#32) ws.length) s.ms)
        (fun words s => s.sendCp cp instr words true) fun words t =>
          .next (finishStore rn (addressCoproc a rn imm8 s).writeBack (t.sendCp cp instr words false)) :=
  (if_neg (by simp [hmode])).trans ((handshake_accepts _ h14 hp hr).trans (if_neg (not_misaligned hal)))

/-- Once accepted, an STC that passes the alignment check writes its words. -/
theorem extStc_accepted :
    extStc a rn cp instr imm8 s =
      (s.withAnswers rest).afterWrites (addressCoproc a rn imm8 s).address ws.length
        (writeWords s.ctx ((wordsFrom ((addressCoproc a rn imm8 s).address &&& 0xFFFFFFFC#32) ws.length).zip ws) s.ms)
        (fun s => s.sendCp cp instr [] true) fun t =>
          .next (finishStore rn (addressCoproc a rn imm8 s).writeBack (t.sendCp cp instr [] false)) :=
  (if_neg (by simp [hmode])).trans ((handshake_accepts _ h14 hp hr).trans (if_neg (not_misaligned hal)))

end

theorem plainWords_iff (s : State) (start : Word) (n : Nat) :
    plainWords s start n ↔ ∀ b ∈ wordsFrom start n, s.ms.alone (wordAddr b) = true ∧ StraightToBus s.ctx b := by
  simp only [plainWords, wordsFrom_eq_map, List.forall_mem_map, List.mem_range, State.plain_iff]

theorem wordsAt_eq_map (s : State) (start : Word) (n : Nat) :
    wordsAt s start n = (wordsFrom start n).map fun b => s.ms.settledMem.readWord (wordAddr b) := by
  rw [wordsAt, wordsFrom_eq_map, List.map_map]
  rfl

/-- Settles O54: an accepted transfer reads or writes its words straight on AHB, none aborts, and the instruction ends. -/
theorem externalCoprocessorMemory : Obligations.ExternalCoprocessorMemory := by
  intro c a rn crd cp imm8 ws rest s hc h14 hmode hp hr hlen adr hal hplain s'
  have straight := (plainWords_iff s _ _).1 hplain
  refine ⟨fun hw => ?_, fun hw => ?_⟩
  · obtain ⟨out, hout, hfailed, hwords, hsame⟩ := readWords_straight hw straight
    have hexec : exec (.ldcExt c a rn crd cp imm8) s = _ :=
      (State.conditionally_passed hc).trans (extLdc_accepted _ h14 hmode hp hr hal)
    rw [← wordsAt_eq_map] at hwords
    refine ⟨out.ms, hsame, ?_⟩
    rw [hexec, hout, State.afterReads_ok hfailed, hwords]
    rfl
  · obtain ⟨out, hout, hfailed, hstores⟩ := writeWords_straight hw (by omega) fun b hb => (straight b hb).2
    have hexec : exec (.stcExt c a rn crd cp imm8) s = _ :=
      (State.conditionally_passed hc).trans (extStc_accepted _ h14 hmode hp hr hal)
    refine ⟨out.ms, hstores, ?_⟩
    rw [hexec, hout, State.afterWrites_ok hfailed]
    rfl

end Sys2Proof.Machine
end

section
/-! SUPPORT. The Data Abort of a transfer: what it leaves of the registers (R541), and the FAR that it reports (R542). -/

namespace Sys2Proof.Machine

open Sys2Proof.Claims

/-! The exception, and the checks before it. -/

/-- Of the registers a Data Abort writes r14 of Abort mode alone. -/
theorem takeDataAbort_sameRegsBut (e : AbortInfo) {s u : State} (h : u.cpu.regs = s.cpu.regs) :
    sameRegsBut [27] s (takeDataAbort e u) := fun p hp =>
  (takeException_get ..).trans ((if_neg (List.mem_singleton.not.1 hp)).trans (congrArg (Vector.get · p) h))

/-- An instruction that ends so in a state with the old registers keeps them. -/
theorem aborts_sameRegsBut {r : Result} {e : AbortInfo} {s u : State} (h : r = .next (takeDataAbort e u))
    (hu : u.cpu.regs = s.cpu.regs) : ∃ t, r = .next t ∧ t = takeDataAbort e u ∧ sameRegsBut [27] s t :=
  ⟨_, h, rfl, takeDataAbort_sameRegsBut e hu⟩

theorem State.checkWord_passed {s : State} {va : Word} (go : State → Result)
    (h : s.cp15.ctrl.a = false ∨ va.toNat % 4 = 0) : s.checkWord va go = go s := if_neg (not_misaligned h)

theorem State.checkStrict_passed {s : State} {aligned : Bool} (va : Word) (go : State → Result) (h : aligned = true) :
    s.checkStrict aligned va go = go s := if_pos h

theorem State.afterAccess_aborted {α : Type} {s : State} {x : Access α} {e : AbortInfo} {ms : MemSys} (h : x = .abort e ms)
    (go : α → State → Result) : s.afterAccess x go = .next (takeDataAbort e (s.withMs ms)) := by
  rw [h]
  rfl

theorem transferRights_eq (a : AddrMode) (s : State) : transferRights a s = s.transferCtx a := by
  simp [transferRights, State.transferCtx, userForm]

theorem wordAllowed_iff (check : Bool) (n : Nat) : (!check || n % 4 == 0) = true ↔ check = false ∨ n % 4 = 0 := by
  simp

theorem halfAllowed_iff (n : Nat) (user : Bool) : (n % 2 == 0 && !user) = true ↔ n % 2 = 0 ∧ user = false := by
  simp

/-! One register. -/

section
variable {a : AddrMode} {rn rd : RegNum} {adr : Address} {s : State} {e : AbortInfo} {ms : MemSys}

theorem loadWord_aborted (hal : s.cp15.ctrl.a = false ∨ adr.address.toNat % 4 = 0)
    (h : dataRead (transferRights a s) false adr.address s.ms = .abort e ms) :
    loadWord a rn rd adr s = .next (takeDataAbort e (s.withMs ms)) := by
  rw [transferRights_eq] at h
  exact (State.checkWord_passed _ hal).trans (State.afterAccess_aborted h _)

theorem loadByte_aborted (h : dataRead (transferRights a s) false adr.address s.ms = .abort e ms) :
    loadByte a rn rd adr s = .next (takeDataAbort e (s.withMs ms)) := by
  rw [transferRights_eq] at h
  exact State.afterAccess_aborted h _

theorem loadHalf_aborted {extend : BitVec 16 → Word} (hal : adr.address.toNat % 2 = 0)
    (h : dataRead s.ctx false adr.address s.ms = .abort e ms) :
    loadHalf extend rn rd adr s = .next (takeDataAbort e (s.withMs ms)) :=
  (State.checkStrict_passed _ _ ((halfAligned_iff _).2 hal)).trans (State.afterAccess_aborted h _)

theorem storeWord_aborted (hal : s.cp15.ctrl.a = false ∨ adr.address.toNat % 4 = 0)
    (h : ∀ lanes data, dataWrite (transferRights a s) false adr.address lanes data s.ms = .abort e ms) :
    storeWord a rn rd adr s = .next (takeDataAbort e (s.withMs ms)) := by
  rw [transferRights_eq] at h
  exact (State.checkWord_passed _ hal).trans (State.afterAccess_aborted (h _ _) _)

theorem storeByte_aborted
    (h : ∀ lanes data, dataWrite (transferRights a s) false adr.address lanes data s.ms = .abort e ms) :
    storeByte a rn rd adr s = .next (takeDataAbort e (s.withMs ms)) := by
  rw [transferRights_eq] at h
  exact State.afterAccess_aborted (h _ _) _

theorem storeHalf_aborted (hal : adr.address.toNat % 2 = 0)
    (h : ∀ lanes data, dataWrite s.ctx false adr.address lanes data s.ms = .abort e ms) :
    storeHalf rn rd adr s = .next (takeDataAbort e (s.withMs ms)) :=
  (State.checkStrict_passed _ _ ((halfAligned_iff _).2 hal)).trans (State.afterAccess_aborted (h _ _) _)

end

/-- A load of one register that aborts does nothing but take the Data Abort. -/
theorem exec_singleLoad_aborted {i : Instr} {s : State} {l : SingleLoad} {e : AbortInfo} {ms : MemSys}
    (h : singleLoad i s = some l) (hc : conditionPassed l.cond s.cpu.cpsr = true) (hal : l.allowed = true)
    (hd : dataRead l.ctx false l.adr.address s.ms = .abort e ms) : exec i s = .next (takeDataAbort e (s.withMs ms)) := by
  cases i with
  | ldrImm | ldrReg =>
    cases h
    exact (State.conditionally_passed hc).trans (loadWord_aborted ((wordAllowed_iff _ _).1 hal) hd)
  | ldrbImm | ldrbReg =>
    cases h
    exact (State.conditionally_passed hc).trans (loadByte_aborted hd)
  | ldrh | ldrsh =>
    cases h
    obtain ⟨hal, hu⟩ := (halfAllowed_iff _ _).1 hal
    exact (halfTransfer_passed hc hu).trans (loadHalf_aborted hal hd)
  | ldrsb =>
    cases h
    exact (halfTransfer_passed hc ((Bool.not_eq_true' _).mp hal)).trans (State.afterAccess_aborted hd _)
  | _ => cases h

/-- A store of one register that aborts does nothing but take the Data Abort. -/
theorem exec_singleStore_aborted {i : Instr} {s : State} {l : SingleStore} {e : AbortInfo} {ms : MemSys}
    (h : singleStore i s = some l) (hc : conditionPassed l.cond s.cpu.cpsr = true) (hal : l.allowed = true)
    (hd : ∀ lanes data, dataWrite l.ctx false l.adr.address lanes data s.ms = .abort e ms) :
    exec i s = .next (takeDataAbort e (s.withMs ms)) := by
  cases i with
  | strImm | strReg =>
    cases h
    exact (State.conditionally_passed hc).trans (storeWord_aborted ((wordAllowed_iff _ _).1 hal) hd)
  | strbImm | strbReg =>
    cases h
    exact (State.conditionally_passed hc).trans (storeByte_aborted hd)
  | strh =>
    cases h
    obtain ⟨hal, hu⟩ := (halfAllowed_iff _ _).1 hal
    exact (halfTransfer_passed hc hu).trans (storeHalf_aborted hal hd)
  | _ => cases h

/-! Several words. -/

theorem length_wordsFrom (a : Word) (n : Nat) : (wordsFrom a n).length = n := by
  rw [wordsFrom_eq_map, List.length_map, List.length_range]

theorem listMode_stm (caret : Bool) (s : State) : listMode caret false s = if caret then 0b10000#5 else s.mode := by
  cases caret <;> rfl

/-- An STM of some register that passes the alignment check writes its words. -/
theorem exec_stm_eq {c : Cond} {a : AddrMode} {caret : Bool} {rn : RegNum} {list : BitVec 16} {s : State}
    (hc : conditionPassed c s.cpu.cpsr = true) (hl : list ≠ 0#16)
    (hal : s.cp15.ctrl.a = false ∨ (multipleStart a (s.reg rn) (listedRegs list).length).toNat % 4 = 0) :
    ∃ go, exec (.stm c a caret rn list) s =
      s.afterWrites (multipleStart a (s.reg rn) (listedRegs list).length) (listedRegs list).length
        (writeWords s.ctx ((wordsFrom (multipleStart a (s.reg rn) (listedRegs list).length &&& 0xFFFFFFFC#32)
          (listedRegs list).length).zip ((listedRegs list).map fun r =>
            if r = 15 then s.stored 15 else s.bankReg (if caret then 0b10000#5 else s.mode) r)) s.ms) id go := by
  rw [← listMode_stm]
  exact ⟨_, ((State.conditionally_passed hc : execStm c a caret rn list s = _).trans (if_neg (listedRegs_ne_nil hl))).trans
    (State.checkWord_passed _ hal)⟩

/-- An STRD at a doubleword writes its two words. -/
theorem exec_strd_eq {c : Cond} {a : AddrMode} {rn rd : RegNum} {off : HalfOffset} {s : State}
    (hc : conditionPassed c s.cpu.cpsr = true) (hu : userForm a = false) (hodd : ¬rd.val % 2 = 1)
    (hal : (addressHalf a rn off s).address.toNat % 8 = 0) :
    ∃ go, exec (.strd c a rn rd off) s =
      s.afterWrites (addressHalf a rn off s).address 2
        (writeWords s.ctx [((addressHalf a rn off s).address, s.stored rd),
          ((addressHalf a rn off s).address + 4#32, s.stored (nextReg rd))] s.ms) id go :=
  ⟨_, (pairTransfer_passed hc hu hodd : execStrd c a rn rd off s = _).trans
    (State.checkStrict_passed _ _ ((doubleAligned_iff _).2 hal))⟩

/-- An LDRD at a doubleword reads its two words. -/
theorem exec_ldrd_eq {c : Cond} {a : AddrMode} {rn rd : RegNum} {off : HalfOffset} {s : State}
    (hc : conditionPassed c s.cpu.cpsr = true) (hu : userForm a = false) (hodd : ¬rd.val % 2 = 1)
    (hal : (addressHalf a rn off s).address.toNat % 8 = 0) :
    ∃ go, exec (.ldrd c a rn rd off) s =
      s.afterReads (addressHalf a rn off s).address 2
        (readWords s.ctx [(addressHalf a rn off s).address, (addressHalf a rn off s).address + 4#32] s.ms)
        (fun _ s => s) go :=
  ⟨_, (pairTransfer_passed hc hu hodd : execLdrd c a rn rd off s = _).trans
    (State.checkStrict_passed _ _ ((doubleAligned_iff _).2 hal))⟩

/-- STM or STRD that aborts, some words written, takes the Data Abort. -/
theorem exec_multiStore_aborted {i : Instr} {s : State} {c : Cond} {first : Word} {ws : List (Word × Word)} {out : WriteMany}
    {e : AbortInfo} {va : Word} (h : multiStore i s = some (c, true, first, ws)) (hc : conditionPassed c s.cpu.cpsr = true)
    (hout : writeWords s.ctx ws s.ms = .ok out) (hfailed : out.failed = some (e, va)) :
    exec i s = .next (takeDataAbort (multiAbort s.ctx first ws.length e va) (s.withMs out.ms)) := by
  cases i with
  | stm cond a caret rn list =>
    obtain ⟨hl, he⟩ := Option.ite_none_left_eq_some.1 h
    simp only [Option.some.injEq, Prod.mk.injEq] at he
    obtain ⟨rfl, hal, rfl, rfl⟩ := he
    obtain ⟨go, hexec⟩ := exec_stm_eq (caret := caret) hc hl ((wordAllowed_iff _ _).1 hal)
    rw [hexec, hout, State.afterWrites_aborted hfailed, List.length_zip, length_wordsFrom, List.length_map, Nat.min_self]
    rfl
  | strd cond a rn rd off =>
    obtain ⟨hu, he⟩ := Option.ite_none_left_eq_some.1 h
    simp only [Option.some.injEq, Prod.mk.injEq] at he
    obtain ⟨rfl, hal, rfl, rfl⟩ := he
    obtain ⟨hu, hodd⟩ := not_or.1 hu
    obtain ⟨go, hexec⟩ := exec_strd_eq hc (Bool.eq_false_iff.2 hu) hodd (beq_iff_eq.1 hal)
    rw [hexec, hout, State.afterWrites_aborted hfailed]
    rfl
  | _ => cases h

/-! LDM. -/

/-- After loads of a register list a register of the core is as it was, or holds the word of some listed register that it is. -/
theorem loadRegs_get (m : BitVec 5) (ps : List (RegNum × Word)) (s : State) (p : Fin 30) :
    (loadRegs m ps s).cpu.regs.get p = s.cpu.regs.get p ∨
      ∃ q ∈ ps, q.1 ≠ 15 ∧ p = physReg m q.1 ∧ (loadRegs m ps s).cpu.regs.get p = q.2 := by
  induction ps generalizing s with
  | nil => exact .inl rfl
  | cons q ps ih =>
    rcases ih (if q.1 = 15 then s else s.setBankReg m q.1 q.2) with h | ⟨x, hx, h⟩
    · by_cases h15 : q.1 = 15
      · rw [if_pos h15] at h
        exact .inl ((congrArg (fun s => (loadRegs m ps s).cpu.regs.get p) (if_pos h15)).trans h)
      · rw [if_neg h15, State.setBankReg_get] at h
        have hcons : (loadRegs m (q :: ps) s).cpu.regs.get p = _ :=
          (congrArg (fun s => (loadRegs m ps s).cpu.regs.get p) (if_neg h15)).trans h
        by_cases hp : p = physReg m q.1
        · exact .inr ⟨q, List.mem_cons_self, h15, hp, hcons.trans (if_pos hp)⟩
        · exact .inl (hcons.trans (if_neg hp))
    · exact .inr ⟨x, List.mem_cons_of_mem q hx, h⟩

/-- They change registers of the core alone. -/
theorem loadRegs_eq (m : BitVec 5) (ps : List (RegNum × Word)) (s : State) :
    loadRegs m ps s = { s with cpu := { s.cpu with regs := (loadRegs m ps s).cpu.regs } } := by
  induction ps generalizing s with
  | nil => rfl
  | cons q ps ih =>
    refine (ih _).trans ?_
    rw [loadRegs]
    split <;> rfl

theorem mem_zip_iff_getElem {α β : Type} {l : List α} {k : List β} {q : α × β} :
    q ∈ l.zip k ↔ ∃ (n : Nat) (h : n < l.length) (g : n < k.length), q = (l[n], k[n]) := by
  rw [List.mem_iff_getElem]
  simp only [List.getElem_zip, List.length_zip, Nat.lt_min]
  exact ⟨fun ⟨n, ⟨h, g⟩, hq⟩ => ⟨n, h, g, hq.symm⟩, fun ⟨n, h, g, hq⟩ => ⟨n, ⟨h, g⟩, hq.symm⟩⟩

theorem isBase_eq_false {m : BitVec 5} {rn r : RegNum} {s : State} (h15 : r ≠ 15) (h : isBase m rn r s = false) :
    rn = 15 ∨ physReg m r ≠ physReg s.mode rn := by
  by_cases hn : rn = 15
  · exact .inl hn
  · rw [isBase, if_neg (by simp [hn, h15])] at h
    exact .inr (beq_eq_false_iff_ne.1 h)

/-- An aborted LDM: a register of the core is as it was, or it is a listed register read before the abort, not the base, and holds
its word (R542, assumption 30). -/
theorem partialLoad_get (m : BitVec 5) (rn : RegNum) (regs : List RegNum) (words : List Word) (s : State) (p : Fin 30) :
    (partialLoad m rn regs words s).cpu.regs.get p = s.cpu.regs.get p ∨
      ∃ (n : Nat) (h : n < regs.length) (g : n < words.length), regs[n] ≠ 15 ∧
        (rn = 15 ∨ physReg m regs[n] ≠ physReg s.mode rn) ∧ p = physReg m regs[n] ∧
        (partialLoad m rn regs words s).cpu.regs.get p = words[n] := by
  refine (loadRegs_get m _ s p).imp id fun ⟨q, hq, h15, hp, hv⟩ => ?_
  obtain ⟨hzip, hpick⟩ := List.mem_filter.1 hq
  obtain ⟨-, hbase⟩ := Bool.and_eq_true_iff.1 hpick
  obtain ⟨n, h, g, rfl⟩ := mem_zip_iff_getElem.1 hzip
  exact ⟨n, h, g, h15, isBase_eq_false h15 ((Bool.not_eq_true' _).mp hbase), hp, hv⟩

/-- The listed registers read before the abort, but for the base, are all that an aborted LDM may write. -/
theorem partialLoad_sameRegsBut (m : BitVec 5) (rn : RegNum) (regs : List RegNum) (words : List Word) (s : State) :
    sameRegsBut (((regs.take words.length).filter fun r =>
      r ≠ 15 ∧ (rn = 15 ∨ physReg m r ≠ physReg s.mode rn)).map (physReg m)) s (partialLoad m rn regs words s) := by
  intro p hp
  refine (partialLoad_get m rn regs words s p).resolve_right ?_
  rintro ⟨n, h, g, h15, hbase, rfl, -⟩
  have htake : regs[n] ∈ regs.take words.length := List.mem_take_iff_getElem.2 ⟨n, by omega, rfl⟩
  exact hp (List.mem_map_of_mem (List.mem_filter.2 ⟨htake, decide_eq_true ⟨h15, hbase⟩⟩))

/-- Each register read before the abort holds its word or is as it was. -/
theorem partialLoad_bankReg (m : BitVec 5) (rn : RegNum) {regs : List RegNum} (words : List Word) (s : State)
    (hregs : regs.Nodup) (n : Nat) (h : n < regs.length) (g : n < words.length) (h15 : regs[n] ≠ 15) :
    (partialLoad m rn regs words s).bankReg m regs[n] = words[n] ∨
      (partialLoad m rn regs words s).bankReg m regs[n] = s.bankReg m regs[n] := by
  refine (partialLoad_get m rn regs words s (physReg m regs[n])).symm.imp_left ?_
  rintro ⟨k, _, _, h15', -, hsame, hv⟩
  have hn : n = k := hregs.getElem_inj_iff.1 (physReg_injective h15 h15' hsame)
  subst hn
  exact hv

theorem partialLoad_eq (m : BitVec 5) (rn : RegNum) (regs : List RegNum) (words : List Word) (s : State) :
    let u := partialLoad m rn regs words s
    u = { s with cpu := { s.cpu with regs := u.cpu.regs }, ms := { s.ms with draws := u.ms.draws } } := by
  intro u
  rw [show u = (loadRegs m _ s).spend 1 from rfl, loadRegs_eq]
  rfl

theorem listMode_ldm (caret : Bool) (list : BitVec 16) (s : State) :
    listMode caret (caret && (listedRegs list).contains 15) s =
      if caret && !list.getLsbD 15 then 0b10000#5 else s.mode := by
  have hmem : (listedRegs list).contains 15 = list.getLsbD 15 := by
    rw [Bool.eq_iff_iff, List.contains_iff_mem]
    exact mem_listedRegs list 15
  rw [listMode, hmem]
  cases caret <;> rfl

/-- An LDM of some register that passes the alignment check reads its words. -/
theorem exec_ldm_eq {c : Cond} {a : AddrMode} {caret : Bool} {rn : RegNum} {list : BitVec 16} {s : State}
    (hc : conditionPassed c s.cpu.cpsr = true) (hl : list ≠ 0#16)
    (hal : s.cp15.ctrl.a = false ∨ (multipleStart a (s.reg rn) (listedRegs list).length).toNat % 4 = 0) :
    ∃ go, exec (.ldm c a caret rn list) s =
      s.afterReads (multipleStart a (s.reg rn) (listedRegs list).length) (listedRegs list).length
        (readWords s.ctx (wordsFrom (multipleStart a (s.reg rn) (listedRegs list).length &&& 0xFFFFFFFC#32)
          (listedRegs list).length) s.ms)
        (fun words t => partialLoad (listMode caret (caret && (listedRegs list).contains 15) t) rn (listedRegs list) words t)
        go :=
  ⟨_, ((State.conditionally_passed hc : execLdm c a caret rn list s = _).trans (if_neg (listedRegs_ne_nil hl))).trans
    (State.checkWord_passed _ hal)⟩

/-! The FAR. -/

theorem and_fffffffc_of_aligned {a : Word} (h : a.toNat % 4 = 0) : a &&& 0xFFFFFFFC#32 = a := by
  have low : a &&& fieldMask 0 2 = 0#32 := by
    rw [← bitsAt_extractLsb', (extractLsb'_zero_eq_zero_iff a 2).2 h, bitsAt_zero]
  have ones : fieldMask 0 2 ||| 0xFFFFFFFC#32 = 0xFFFFFFFF#32 := by decide
  calc a &&& 0xFFFFFFFC#32 = (a &&& fieldMask 0 2) ||| (a &&& 0xFFFFFFFC#32) := by rw [low, BitVec.zero_or]
    _ = a &&& 0xFFFFFFFF#32 := by rw [← BitVec.and_or_distrib_left, ones]
    _ = a := and_ones a

theorem externalFar_eq (first count aborted : Nat) :
    externalFar first count aborted =
      if (first / 1024 + 1) * 1024 ≤ first + 4 * (count - 1) ∧ aborted < (first / 1024 + 1) * 1024
        then (first / 1024 + 1) * 1024 - 4 else first + 4 * (count - 1) := by
  simp only [externalFar]
  split_ifs <;> omega

/-- After an external abort of the word j of an aligned transfer the FAR holds an address that the first 1KB boundary decides (R542,
assumption 54). -/
theorem multiAbort_external (k : Ctx) {first : Word} {count j : Nat} {a : AbortInfo} (h : a.status = .external)
    (hal : first.toNat % 4 = 0) (hend : first.toNat + 4 * count ≤ 2 ^ 32) (hj : j < count) :
    multiAbort k first count a (first + BitVec.ofNat 32 (4 * j)) =
      { a with mva := fcse k.cp15 (BitVec.ofNat 32
        (if (first.toNat / 1024 + 1) * 1024 ≤ first.toNat + 4 * (count - 1) ∧
            first.toNat + 4 * j < (first.toNat / 1024 + 1) * 1024
          then (first.toNat / 1024 + 1) * 1024 - 4 else first.toNat + 4 * (count - 1))) } := by
  have hword : (first + BitVec.ofNat 32 (4 * j) - first).toNat = 4 * j := by
    rw [BitVec.add_comm, BitVec.add_sub_cancel, BitVec.toNat_ofNat, Nat.mod_eq_of_lt (by omega)]
  simp only [multiAbort, if_pos h, and_fffffffc_of_aligned hal, hword, externalFar_eq]

/-- Settles O16: by kind of transfer the access that aborts is the one the instruction makes, and nothing but the Data Abort follows;
of an LDM the registers read before it are as partialLoad leaves them. -/
theorem abortedTransferWritesNoRegister : Obligations.AbortedTransferWritesNoRegister := by
  refine ⟨?_, ?_, ?_, ?_, ?_, ?_, ?_, fun k first va count a h => if_neg h,
    fun k first count j a h hal hend hj => multiAbort_external k h hal hend hj⟩
  · intro i s l e ms hl hc hal hd
    exact ⟨_, exec_singleLoad_aborted hl hc hal hd, rfl, takeDataAbort_sameRegsBut e rfl, rfl⟩
  · intro i s l e ms hl hc hal hd
    exact ⟨_, exec_singleStore_aborted hl hc hal hd, rfl, takeDataAbort_sameRegsBut e rfl, rfl⟩
  · intro i s c first ws out e va hm hc hout hfailed
    exact aborts_sameRegsBut (exec_multiStore_aborted hm hc hout hfailed) rfl
  · intro c a rn rd off s out e va hc hu heven adr hal hout hfailed
    obtain ⟨go, hexec⟩ := exec_ldrd_eq hc hu (by omega : ¬rd.val % 2 = 1) hal
    rw [hexec, hout, State.afterReads_aborted hfailed]
    exact aborts_sameRegsBut rfl rfl
  · intro c a caret rn list s out e va hc hl regs start m hal hout hfailed
    obtain ⟨go, hexec⟩ := exec_ldm_eq (caret := caret) hc hl hal
    have hm : listMode caret (caret && regs.contains 15) (s.withMs out.ms) = m := listMode_ldm caret list _
    rw [hexec, hout, State.afterReads_aborted hfailed, hm]
    exact ⟨_, partialLoad m rn regs out.words (s.withMs out.ms), rfl, rfl, partialLoad_eq ..,
      partialLoad_sameRegsBut m rn regs out.words (s.withMs out.ms),
      partialLoad_bankReg m rn out.words (s.withMs out.ms) (listedRegs_pairwise list).nodup⟩
  · intro c rn rd rm s e ms hc
    refine ⟨fun hal hswap => ?_, fun hswap => ?_⟩
    · have hexec : exec (.swp c rn rd rm) s = _ :=
        (State.conditionally_passed hc : execSwp c rn rd rm s = _).trans
          ((State.checkStrict_passed _ _ ((wordAligned_iff _).2 hal)).trans (State.afterAccess_aborted hswap _))
      exact aborts_sameRegsBut hexec rfl
    · have hexec : exec (.swpb c rn rd rm) s = _ :=
        (State.conditionally_passed hc : execSwpb c rn rd rm s = _).trans (State.afterAccess_aborted hswap _)
      exact aborts_sameRegsBut hexec rfl
  · intro c a rn crd cp imm8 ws rest s e va hc h14 hmode hp hr adr hal
    refine ⟨fun out hout hfailed => ?_, fun out hout hfailed => ?_⟩
    · have hexec : exec (.ldcExt c a rn crd cp imm8) s = _ :=
        (State.conditionally_passed hc).trans (extLdc_accepted _ h14 hmode hp hr hal)
      rw [hexec, hout, State.afterReads_aborted hfailed]
      exact ⟨_, rfl, takeDataAbort_sameRegsBut _ rfl, rfl⟩
    · have hexec : exec (.stcExt c a rn crd cp imm8) s = _ :=
        (State.conditionally_passed hc).trans (extStc_accepted _ h14 hmode hp hr hal)
      rw [hexec, hout, State.afterWrites_aborted hfailed]
      exact ⟨_, rfl, takeDataAbort_sameRegsBut _ rfl, rfl⟩

end Sys2Proof.Machine
end

section
/-! SUPPORT. Writes of registers at the end of an instruction: Rd, a written base, the T bit, a load to the pc (R483, R500, R504,
R505), and the end of the single and doubleword transfers. -/

namespace Sys2Proof.Machine

open Sys2Proof.Claims

/-! Registers that are as they were. -/

theorem sameRegsBut_refl (s : State) : sameRegsBut [] s s := fun _ _ => rfl

/-- The registers depend on the core alone. -/
theorem sameRegsBut_congr {ps : List (Fin 30)} {s t u : State} (h : sameRegsBut ps s t) (hu : u.cpu.regs = t.cpu.regs) :
    sameRegsBut ps s u := fun p hp => (congrArg (Vector.get · p) hu).trans (h p hp)

/-! One register. -/

theorem State.setReg_sameRegsBut (s : State) (r : RegNum) (v : Word) :
    sameRegsBut (if r = 15 then [] else [physReg s.mode r]) s (s.setReg r v) := by
  intro p hp
  refine (s.setReg_get r v p).trans (if_neg ?_)
  rintro ⟨h15, rfl⟩
  simp [h15] at hp

theorem State.setReg_bankReg (s : State) {r : RegNum} (v : Word) (h15 : r ≠ 15) : (s.setReg r v).bankReg s.mode r = v :=
  (s.setReg_get r v _).trans (if_pos ⟨h15, rfl⟩)

/-- Another register of the mode is as it was. -/
theorem State.setReg_bankReg_of_ne (s : State) {r q : RegNum} (v : Word) (hq : q ≠ 15) (hne : r ≠ q) :
    (s.setReg r v).bankReg s.mode q = s.bankReg s.mode q :=
  (s.setReg_get r v _).trans (if_neg fun ⟨hr, he⟩ => hne (physReg_injective hq hr he).symm)

/-- What a register written at the end of an instruction does to the core. -/
theorem State.finish_cpu (s : State) (r : RegNum) (v : Word) :
    (s.finish r v).cpu = { (s.setReg r v).cpu with pc := if r = 15 then v &&& 0xFFFFFFFC#32 else s.cpu.pc + 4#32 } := by
  by_cases h15 : r = 15 <;> simp [State.finish, State.setReg, h15] <;> rfl

theorem State.finish_onlyCore (s : State) (r : RegNum) (v : Word) : onlyCore s (s.finish r v) := by
  rw [State.finish]
  split
  · exact s.setReg_onlyCore r v
  · exact onlyCore_trans (s.setReg_onlyCore r v) rfl

theorem registerGets_finish (rd : RegNum) (v : Word) {s u : State} (hu : u.cpu = s.cpu) :
    registerGets rd v s (u.finish rd v) := by
  have hm : u.mode = s.mode := congrArg (fun k : Cpu => modeOf k.cpsr) hu
  have get (p : Fin 30) : (u.finish rd v).cpu.regs.get p = _ :=
    (congrArg (fun k : Cpu => k.regs.get p) (u.finish_cpu rd v)).trans (u.setReg_get rd v p)
  have pc := congrArg Cpu.pc (u.finish_cpu rd v)
  rw [hu] at pc
  simp only [hm, hu] at get
  refine ⟨fun h => ⟨?_, fun p hp => ?_, ?_⟩, fun h => ⟨?_, fun p _ => ?_⟩, ?_, ?_⟩
  · exact (get _).trans (if_pos ⟨h, rfl⟩)
  · exact (get p).trans (if_neg fun hp' => hp (List.mem_singleton.2 hp'.2))
  · exact pc.trans (if_neg h)
  · exact pc.trans (if_pos h)
  · exact (get p).trans (if_neg fun hp' => hp'.1 h)
  · rw [u.finish_cpu, ← hu]
    exact u.setReg_cpsr rd v
  · rw [u.finish_cpu, ← hu]
    exact u.setReg_spsr rd v

/-! A written base. -/

theorem State.writeBase_sameRegsBut (s : State) (rn : RegNum) (wb : Option Word) :
    sameRegsBut (baseWritten rn wb s) s (s.writeBase rn wb) := by
  cases wb with
  | none => exact fun _ _ => rfl
  | some b =>
    have hbase : baseWritten rn (some b) s = if rn = 15 then [] else [physReg s.mode rn] := by simp [baseWritten]
    exact hbase ▸ s.setReg_sameRegsBut rn b

theorem State.writeBase_mode (s : State) (rn : RegNum) (wb : Option Word) : (s.writeBase rn wb).mode = s.mode :=
  congrArg modeOf (s.writeBase_cpsr rn wb)

theorem State.writeBase_spsr (s : State) (rn : RegNum) (wb : Option Word) : (s.writeBase rn wb).cpu.spsr = s.cpu.spsr := by
  cases wb with
  | none => rfl
  | some b => exact s.setReg_spsr rn b

theorem State.writeBase_onlyCore (s : State) (rn : RegNum) (wb : Option Word) : onlyCore s (s.writeBase rn wb) := by
  cases wb with
  | none => rfl
  | some b => exact s.setReg_onlyCore rn b

/-- The pc of a written base: r15 takes it as a branch. -/
theorem State.writeBase_pc (s : State) (rn : RegNum) (wb : Option Word) :
    (s.writeBase rn wb).cpu.pc = if rn = 15 then wb.elim s.cpu.pc (· &&& 0xFFFFFFFC#32) else s.cpu.pc := by
  cases wb with
  | none => exact (ite_self _).symm
  | some b => exact s.setReg_pc rn b

theorem State.advanceAfter_cpu (s : State) (rn : RegNum) (wb : Option Word) :
    (s.advanceAfter rn wb).cpu =
      { s.cpu with pc := if wb.isSome = true ∧ rn = 15 then s.cpu.pc else s.cpu.pc + 4#32 } := by
  rw [State.advanceAfter]
  split <;> rfl

theorem State.advanceAfter_onlyCore (s : State) (rn : RegNum) (wb : Option Word) : onlyCore s (s.advanceAfter rn wb) := by
  rw [State.advanceAfter]
  split <;> rfl

/-- After the base is written the pc goes on, unless the base is r15. -/
theorem State.baseThenAdvance_pc {s u : State} {rn : RegNum} {wb : Option Word} (h : u.cpu.pc = (s.writeBase rn wb).cpu.pc) :
    (u.advanceAfter rn wb).cpu.pc =
      if rn = 15 then wb.elim (s.cpu.pc + 4#32) (· &&& 0xFFFFFFFC#32) else s.cpu.pc + 4#32 := by
  rw [State.advanceAfter_cpu, h, State.writeBase_pc]
  cases wb <;> split_ifs <;> simp_all

/-- The end of a store writes the base alone (R504). -/
theorem finishStore_ends (rn : RegNum) (wb : Option Word) (s : State) :
    let t := finishStore rn wb s
    (∀ b, wb = some b → rn ≠ 15 → t.bankReg s.mode rn = b) ∧ sameRegsBut (baseWritten rn wb s) s t ∧
    ((wb = none ∨ rn ≠ 15) → t.cpu.pc = s.cpu.pc + 4#32) ∧
    (∀ b, wb = some b → rn = 15 → t.cpu.pc = b &&& 0xFFFFFFFC#32) ∧
    t.cpu.cpsr = s.cpu.cpsr ∧ t.cpu.spsr = s.cpu.spsr ∧ onlyCore s t := by
  intro t
  have hcpu : t.cpu = _ := State.advanceAfter_cpu (s.writeBase rn wb) rn wb
  have hregs : t.cpu.regs = (s.writeBase rn wb).cpu.regs := by rw [hcpu]
  have pc : t.cpu.pc = _ := State.baseThenAdvance_pc (s := s) (rn := rn) (wb := wb) rfl
  refine ⟨?_, sameRegsBut_congr (s.writeBase_sameRegsBut rn wb) hregs, fun h => ?_, ?_,
    (congrArg Cpu.cpsr hcpu).trans (s.writeBase_cpsr rn wb), (congrArg Cpu.spsr hcpu).trans (s.writeBase_spsr rn wb),
    onlyCore_trans (s.writeBase_onlyCore rn wb) (State.advanceAfter_onlyCore _ rn wb)⟩
  · rintro b rfl h15
    exact (congrArg (Vector.get · (physReg s.mode rn)) hregs).trans (s.setReg_bankReg b h15)
  · rw [pc]
    rcases h with rfl | h
    · exact ite_self _
    · exact if_neg h
  · rintro b rfl h15
    exact pc.trans (if_pos h15)

/-! The T bit. -/

theorem thumbBit_withThumb (psr : Word) (t : Bool) : thumbBit (withThumb psr t) = t := by
  cases t <;> simp [thumbBit, withThumb]

/-- Every other bit is kept. -/
theorem withThumb_and (psr : Word) (t : Bool) : withThumb psr t &&& 0xFFFFFFDF#32 = psr &&& 0xFFFFFFDF#32 := by
  cases t
  · exact BitVec.and_assoc ..
  · have hbit : (0x20#32 &&& 0xFFFFFFDF#32 : Word) = 0#32 := by decide
    rw [withThumb, if_pos rfl, BitVec.and_comm, BitVec.and_or_distrib_left, BitVec.and_comm _ 0x20#32, hbit, BitVec.or_zero,
      BitVec.and_comm]

/-! A loaded register. -/

theorem State.loadPc_onlyCore (s : State) (v : Word) : onlyCore s (s.loadPc v) := by
  rw [State.loadPc]
  split <;> rfl

theorem State.loadPc_regs (s : State) (v : Word) : (s.loadPc v).cpu.regs = s.cpu.regs := by
  rw [State.loadPc]
  split <;> rfl

theorem State.loadPc_spsr (s : State) (v : Word) : (s.loadPc v).cpu.spsr = s.cpu.spsr := by
  rw [State.loadPc]
  split <;> rfl

/-- With L4 = 0 a load to the pc may change the state (R295, R505). -/
theorem State.loadPc_interworks {s : State} (v : Word) (h : s.cp15.ctrl.l4 = false) :
    (s.loadPc v).cpu.pc = v &&& 0xFFFFFFFE#32 ∧ thumbBit (s.loadPc v).cpu.cpsr = v.getLsbD 0 ∧
      (s.loadPc v).cpu.cpsr &&& 0xFFFFFFDF#32 = s.cpu.cpsr &&& 0xFFFFFFDF#32 := by
  have hpc : s.loadPc v = (s.setCpsr (withThumb s.cpu.cpsr (v.getLsbD 0))).branchTo (v &&& 0xFFFFFFFE#32) :=
    if_neg (by simp [h])
  rw [hpc]
  exact ⟨rfl, thumbBit_withThumb _ _, withThumb_and _ _⟩

/-- With L4 = 1 it is a branch. -/
theorem State.loadPc_branches {s : State} (v : Word) (h : s.cp15.ctrl.l4 = true) :
    s.loadPc v = s.branchTo (v &&& 0xFFFFFFFC#32) := if_pos h

theorem State.loadReg_ne {s : State} (word : Bool) {rd : RegNum} (v : Word) (h : rd ≠ 15) :
    s.loadReg word rd v = s.setReg rd v := if_neg h

theorem State.loadReg_word (s : State) (v : Word) : s.loadReg true 15 v = s.loadPc v := rfl

/-- A narrower load to r15, and a word with L4 = 1, is a branch (assumption 32). -/
theorem State.loadReg_branches {s : State} {word : Bool} (v : Word) (h : word = false ∨ s.cp15.ctrl.l4 = true) :
    s.loadReg word 15 v = s.branchTo (v &&& 0xFFFFFFFC#32) := by
  cases word with
  | false => rfl
  | true => exact State.loadPc_branches v (h.resolve_left Bool.noConfusion)

theorem State.loadReg_regs (s : State) (word : Bool) (rd : RegNum) (v : Word) :
    (s.loadReg word rd v).cpu.regs = (s.setReg rd v).cpu.regs := by
  by_cases h15 : rd = 15
  · subst h15
    cases word with
    | false => rfl
    | true => exact s.loadPc_regs v
  · rw [State.loadReg_ne word v h15]

theorem State.loadReg_spsr (s : State) (word : Bool) (rd : RegNum) (v : Word) :
    (s.loadReg word rd v).cpu.spsr = s.cpu.spsr := by
  by_cases h15 : rd = 15
  · subst h15
    cases word with
    | false => rfl
    | true => exact s.loadPc_spsr v
  · rw [State.loadReg_ne word v h15, State.setReg_spsr]

theorem State.loadReg_cpsr {s : State} {word : Bool} {rd : RegNum} (v : Word)
    (h : rd ≠ 15 ∨ word = false ∨ s.cp15.ctrl.l4 = true) : (s.loadReg word rd v).cpu.cpsr = s.cpu.cpsr := by
  by_cases h15 : rd = 15
  · subst h15
    rw [State.loadReg_branches v (h.resolve_left fun h => h rfl)]
    rfl
  · rw [State.loadReg_ne word v h15, State.setReg_cpsr]

theorem State.loadReg_onlyCore (s : State) (word : Bool) (rd : RegNum) (v : Word) : onlyCore s (s.loadReg word rd v) := by
  by_cases h15 : rd = 15
  · subst h15
    cases word with
    | false => rfl
    | true => exact s.loadPc_onlyCore v
  · rw [State.loadReg_ne word v h15]
    exact s.setReg_onlyCore rd v

/-! The end of a load. -/

/-- What a loaded register takes: the value, or a free one where it is the written base (assumption 29). -/
def loadedValue (rn rd : RegNum) (wb : Option Word) (v : Word) (s : State) : Word :=
  if wb.isSome && rn == rd then s.drawn 0 else v

theorem loadedValue_eq {rn rd : RegNum} {wb : Option Word} (v : Word) (s : State) (h : wb = none ∨ rn ≠ rd) :
    loadedValue rn rd wb v s = v := by
  refine if_neg fun hclash => ?_
  rcases h with rfl | h
  · cases hclash
  · exact h (by simpa using (Bool.and_eq_true_iff.1 hclash).2)

/-- The state in which a load has written the base and Rd. -/
def State.loaded (word : Bool) (rn rd : RegNum) (wb : Option Word) (v : Word) (s : State) : State :=
  (s.writeBase rn wb).loadReg word rd (loadedValue rn rd wb v s)

/-- Nothing but the core and the values drawn differs, where some frame of a load is to be stated. -/
def coreAndDraws (s t : State) : Prop :=
  t = { s with cpu := t.cpu, nonseq := t.nonseq, ms := { s.ms with draws := t.ms.draws } }

theorem coreAndDraws_of_onlyCore {s t : State} (h : onlyCore s t) (n : Nat) : coreAndDraws s (t.spend n) := by
  unfold coreAndDraws
  rw [h]
  rfl

/-- After the base and Rd are written the pc goes on, but for a load to r15. -/
theorem finishLoad_eq (word : Bool) (rn rd : RegNum) (wb : Option Word) (v : Word) (s : State) :
    ∃ n, finishLoad word rn rd wb v s =
      (if rd = 15 then s.loaded word rn rd wb v else (s.loaded word rn rd wb v).advanceAfter rn wb).spend n := by
  by_cases hclash : (wb.isSome && rn == rd) = true
  · refine ⟨1, ?_⟩
    simp only [finishLoad, State.loaded, loadedValue, hclash, if_true, State.advanceAfter]
    split_ifs <;> rfl
  · refine ⟨0, ?_⟩
    simp only [finishLoad, State.loaded, loadedValue, Bool.eq_false_iff.2 hclash, Bool.false_eq_true, if_false,
      State.advanceAfter]
    split_ifs <;> rfl

section
variable (word : Bool) (rn rd : RegNum) (wb : Option Word) (v : Word) (s : State)

theorem finishLoad_regs :
    (finishLoad word rn rd wb v s).cpu.regs =
      ((s.writeBase rn wb).setReg rd (loadedValue rn rd wb v s)).cpu.regs := by
  obtain ⟨n, h⟩ := finishLoad_eq word rn rd wb v s
  rw [h, ← State.loadReg_regs _ word]
  split
  · rfl
  · exact (congrArg Cpu.regs (State.advanceAfter_cpu _ rn wb) :)

theorem finishLoad_cpsr : (finishLoad word rn rd wb v s).cpu.cpsr = (s.loaded word rn rd wb v).cpu.cpsr := by
  obtain ⟨n, h⟩ := finishLoad_eq word rn rd wb v s
  rw [h]
  split
  · rfl
  · exact (congrArg Cpu.cpsr (State.advanceAfter_cpu _ rn wb) :)

theorem finishLoad_spsr : (finishLoad word rn rd wb v s).cpu.spsr = s.cpu.spsr := by
  have hloaded : (s.loaded word rn rd wb v).cpu.spsr = s.cpu.spsr :=
    (State.loadReg_spsr _ word rd _).trans (s.writeBase_spsr rn wb)
  obtain ⟨n, h⟩ := finishLoad_eq word rn rd wb v s
  rw [h, ← hloaded]
  split
  · rfl
  · exact (congrArg Cpu.spsr (State.advanceAfter_cpu _ rn wb) :)

theorem finishLoad_frame : coreAndDraws s (finishLoad word rn rd wb v s) := by
  have hloaded : onlyCore s (s.loaded word rn rd wb v) :=
    onlyCore_trans (s.writeBase_onlyCore rn wb) (State.loadReg_onlyCore _ word rd _)
  obtain ⟨n, h⟩ := finishLoad_eq word rn rd wb v s
  rw [h]
  split
  · exact coreAndDraws_of_onlyCore hloaded n
  · exact coreAndDraws_of_onlyCore (onlyCore_trans hloaded (State.advanceAfter_onlyCore _ rn wb)) n

variable {rd}

/-- The pc goes on, but for a base of r15. -/
theorem finishLoad_pc (h15 : rd ≠ 15) :
    (finishLoad word rn rd wb v s).cpu.pc =
      if rn = 15 then wb.elim (s.cpu.pc + 4#32) (· &&& 0xFFFFFFFC#32) else s.cpu.pc + 4#32 := by
  have hloaded : (s.loaded word rn rd wb v).cpu.pc = (s.writeBase rn wb).cpu.pc := by
    rw [State.loaded, State.loadReg_ne _ _ h15, State.setReg_pc, if_neg h15]
  obtain ⟨n, h⟩ := finishLoad_eq word rn rd wb v s
  rw [h, if_neg h15]
  exact State.baseThenAdvance_pc hloaded

/-- A load to r15, whose base is not r15, takes the value as a load to the pc or as a branch. -/
theorem finishLoad_cpu_15 {rn : RegNum} {wb : Option Word} (h : wb = none ∨ rn ≠ 15) :
    (finishLoad word rn 15 wb v s).cpu = ((s.writeBase rn wb).loadReg word 15 v).cpu := by
  obtain ⟨n, hn⟩ := finishLoad_eq word rn 15 wb v s
  rw [hn, if_pos rfl, State.loaded, loadedValue_eq v s h]
  rfl

end

/-- The end of a load (R504 to R506). -/
theorem finishLoad_ends (word : Bool) (rn rd : RegNum) (wb : Option Word) (v : Word) (s : State) :
    let t := finishLoad word rn rd wb v s
    (rd ≠ 15 → (wb = none ∨ rn ≠ rd) → t.bankReg s.mode rd = v) ∧
    (∀ b, wb = some b → rn ≠ 15 → rn ≠ rd → t.bankReg s.mode rn = b) ∧
    sameRegsBut ((if rd = 15 then [] else [physReg s.mode rd]) ++ baseWritten rn wb s) s t ∧
    (rd ≠ 15 → (wb = none ∨ rn ≠ 15) → t.cpu.pc = s.cpu.pc + 4#32) ∧
    (∀ b, rd ≠ 15 → wb = some b → rn = 15 → t.cpu.pc = b &&& 0xFFFFFFFC#32) ∧
    (rd = 15 → word = true → s.cp15.ctrl.l4 = false → (wb = none ∨ rn ≠ 15) →
      t.cpu.pc = v &&& 0xFFFFFFFE#32 ∧ thumbBit t.cpu.cpsr = v.getLsbD 0 ∧
      t.cpu.cpsr &&& 0xFFFFFFDF#32 = s.cpu.cpsr &&& 0xFFFFFFDF#32) ∧
    (rd = 15 → (word = false ∨ s.cp15.ctrl.l4 = true) → (wb = none ∨ rn ≠ 15) → t.cpu.pc = v &&& 0xFFFFFFFC#32) ∧
    ((rd ≠ 15 ∨ word = false ∨ s.cp15.ctrl.l4 = true) → t.cpu.cpsr = s.cpu.cpsr) ∧
    t.cpu.spsr = s.cpu.spsr ∧ coreAndDraws s t := by
  intro t
  have hmode := s.writeBase_mode rn wb
  have hbase := s.writeBase_onlyCore rn wb
  have hl4 : (s.writeBase rn wb).cp15 = s.cp15 := by rw [hbase]
  have hregs : t.cpu.regs = _ := finishLoad_regs word rn rd wb v s
  have reg (p : Fin 30) : t.cpu.regs.get p = _ := congrArg (Vector.get · p) hregs
  refine ⟨fun h15 h => ?_, ?_, ?_, fun h15 h => ?_, ?_, ?_, ?_, fun h => ?_, finishLoad_spsr .., finishLoad_frame ..⟩
  · rw [State.bankReg, reg, ← hmode, loadedValue_eq v s h]
    exact State.setReg_bankReg _ v h15
  · rintro b rfl h15 hne
    rw [State.bankReg, reg, ← hmode]
    refine (State.setReg_bankReg_of_ne _ _ h15 hne.symm).trans ?_
    rw [hmode]
    exact s.setReg_bankReg b h15
  · intro p hp
    obtain ⟨hrd, hrn⟩ := not_or.1 (mt List.mem_append.2 hp)
    rw [reg]
    exact (State.setReg_sameRegsBut _ rd _ p (hmode ▸ hrd)).trans (s.writeBase_sameRegsBut rn wb p hrn)
  · rw [finishLoad_pc word rn wb v s h15]
    rcases h with rfl | h
    · exact ite_self _
    · exact if_neg h
  · rintro b h15 rfl rfl
    exact finishLoad_pc word 15 (some b) v s h15
  · rintro rfl rfl hzero h
    rw [finishLoad_cpu_15 true v s h, State.loadReg_word, ← s.writeBase_cpsr rn wb]
    exact State.loadPc_interworks v (hl4 ▸ hzero)
  · rintro rfl hbranch h
    rw [finishLoad_cpu_15 word v s h, State.loadReg_branches v (hl4 ▸ hbranch)]
    rfl
  · rw [finishLoad_cpsr, State.loaded, State.loadReg_cpsr _ (hl4 ▸ h), s.writeBase_cpsr]

/-! The end of LDRD. -/

theorem nextReg_val {rd : RegNum} (h : rd.val % 2 = 0) : (nextReg rd).val = rd.val + 1 := by
  have := rd.isLt
  rw [nextReg, Fin.ofNat]
  exact Nat.mod_eq_of_lt (by omega)

/-- The registers of a pair: the first is even, so not r15, and the second is r15 just where the first is r14. -/
theorem nextReg_facts {rd : RegNum} (h : rd.val % 2 = 0) :
    rd ≠ 15 ∧ rd ≠ nextReg rd ∧ (nextReg rd = 15 ↔ rd = 14) := by
  have hnext := nextReg_val h
  refine ⟨?_, ?_, ?_⟩
  · rintro rfl
    cases h
  · intro he
    have := congrArg Fin.val he
    omega
  · rw [Fin.ext_iff, Fin.ext_iff, hnext]
    exact ⟨fun h => by simpa using h, fun h => by rw [h]; rfl⟩

/-- The state in which LDRD has written the base and both registers. -/
def State.loadedPair (rn rd : RegNum) (wb : Option Word) (lo hi : Word) (s : State) : State :=
  ((s.writeBase rn wb).setReg rd (loadedValue rn rd wb lo s)).setReg (nextReg rd) (loadedValue rn (nextReg rd) wb hi s)

theorem finishLoadPair_eq (rn rd : RegNum) (wb : Option Word) (lo hi : Word) (s : State) :
    finishLoadPair rn rd wb lo hi s =
      (if nextReg rd = 15 then s.loadedPair rn rd wb lo hi else (s.loadedPair rn rd wb lo hi).advanceAfter rn wb).spend 1 := by
  simp only [finishLoadPair, State.loadedPair, loadedValue, State.advanceAfter]
  split_ifs <;> rfl

section
variable (rn : RegNum) {rd : RegNum} (wb : Option Word) (lo hi : Word) (s : State)

/-- The registers after LDRD, the second the last. -/
theorem State.loadedPair_get (p : Fin 30) :
    (s.loadedPair rn rd wb lo hi).cpu.regs.get p =
      if nextReg rd ≠ 15 ∧ p = physReg s.mode (nextReg rd) then loadedValue rn (nextReg rd) wb hi s
      else if rd ≠ 15 ∧ p = physReg s.mode rd then loadedValue rn rd wb lo s else (s.writeBase rn wb).cpu.regs.get p := by
  rw [State.loadedPair, State.setReg_get, State.setReg_get, State.setReg_mode, State.writeBase_mode]

theorem State.loadedPair_onlyCore : onlyCore s (s.loadedPair rn rd wb lo hi) :=
  onlyCore_trans (onlyCore_trans (s.writeBase_onlyCore rn wb) (State.setReg_onlyCore ..)) (State.setReg_onlyCore ..)

theorem finishLoadPair_frame : coreAndDraws s (finishLoadPair rn rd wb lo hi s) := by
  have hpair := s.loadedPair_onlyCore rn (rd := rd) wb lo hi
  rw [finishLoadPair_eq]
  split
  · exact coreAndDraws_of_onlyCore hpair 1
  · exact coreAndDraws_of_onlyCore (onlyCore_trans hpair (State.advanceAfter_onlyCore _ rn wb)) 1

/-- But for the pc the core is as the two registers leave it. -/
theorem finishLoadPair_cpu :
    (finishLoadPair rn rd wb lo hi s).cpu =
      { (s.loadedPair rn rd wb lo hi).cpu with pc := (finishLoadPair rn rd wb lo hi s).cpu.pc } := by
  rw [finishLoadPair_eq]
  split
  · rfl
  · rw [State.spend, State.withMs, State.advanceAfter_cpu]

theorem finishLoadPair_pc (h : rd.val % 2 = 0) (hne : rd ≠ 14) (hb : wb = none ∨ rn ≠ 15) :
    (finishLoadPair rn rd wb lo hi s).cpu.pc = s.cpu.pc + 4#32 := by
  obtain ⟨h15, -, hnext⟩ := nextReg_facts h
  have hpair : (s.loadedPair rn rd wb lo hi).cpu.pc = (s.writeBase rn wb).cpu.pc := by
    rw [State.loadedPair, State.setReg_pc, if_neg (mt hnext.1 hne), State.setReg_pc, if_neg h15]
  rw [finishLoadPair_eq, if_neg (mt hnext.1 hne)]
  refine (State.baseThenAdvance_pc hpair).trans ?_
  rcases hb with rfl | hb
  · exact ite_self _
  · exact if_neg hb

/-- The second word, loaded into r15, is a branch (assumption 32). -/
theorem finishLoadPair_pc_14 {rn rd : RegNum} {wb : Option Word} (hnext : nextReg rd = 15) (hb : wb = none ∨ rn ≠ 15) :
    (finishLoadPair rn rd wb lo hi s).cpu.pc = hi &&& 0xFFFFFFFC#32 := by
  rw [finishLoadPair_eq, if_pos hnext, State.loadedPair, hnext, loadedValue_eq hi s hb]
  rfl

end

/-- The end of LDRD (R506). -/
theorem finishLoadPair_ends (rn rd : RegNum) (wb : Option Word) (lo hi : Word) (s : State) (h : rd.val % 2 = 0) :
    let t := finishLoadPair rn rd wb lo hi s
    ((wb = none ∨ rn ≠ rd) → t.bankReg s.mode rd = lo) ∧
    (rd ≠ 14 → (wb = none ∨ rn ≠ nextReg rd) → t.bankReg s.mode (nextReg rd) = hi) ∧
    (∀ b, wb = some b → rn ≠ 15 → rn ≠ rd → rn ≠ nextReg rd → t.bankReg s.mode rn = b) ∧
    sameRegsBut ([physReg s.mode rd] ++ (if rd = 14 then [] else [physReg s.mode (nextReg rd)]) ++ baseWritten rn wb s) s t ∧
    (rd ≠ 14 → (wb = none ∨ rn ≠ 15) → t.cpu.pc = s.cpu.pc + 4#32) ∧
    (rd = 14 → (wb = none ∨ rn ≠ 15) → t.cpu.pc = hi &&& 0xFFFFFFFC#32) ∧
    t.cpu.cpsr = s.cpu.cpsr ∧ t.cpu.spsr = s.cpu.spsr ∧ coreAndDraws s t := by
  intro t
  obtain ⟨h15, hne, hnext⟩ := nextReg_facts h
  have hcpu : t.cpu = _ := finishLoadPair_cpu rn wb lo hi s
  have reg (p : Fin 30) : t.cpu.regs.get p = _ :=
    (congrArg (fun k : Cpu => k.regs.get p) hcpu).trans (s.loadedPair_get rn wb lo hi p)
  have apart {r q : RegNum} (hq : q ≠ 15) (hrq : r ≠ q) : ¬(r ≠ 15 ∧ physReg s.mode q = physReg s.mode r) :=
    fun ⟨hr, he⟩ => hrq (physReg_injective hq hr he).symm
  refine ⟨fun hb => ?_, fun h14 hb => ?_, ?_, fun p hp => ?_, finishLoadPair_pc rn wb lo hi s h, ?_, ?_, ?_,
    finishLoadPair_frame ..⟩
  · rw [State.bankReg, reg, if_neg (apart h15 hne.symm), if_pos ⟨h15, rfl⟩, loadedValue_eq lo s hb]
  · rw [State.bankReg, reg, if_pos ⟨mt hnext.1 h14, rfl⟩, loadedValue_eq hi s hb]
  · rintro b rfl hn hnrd hnnext
    rw [State.bankReg, reg, if_neg (apart hn hnnext.symm), if_neg (apart hn hnrd.symm)]
    exact s.setReg_bankReg b hn
  · obtain ⟨hp, hbase⟩ := not_or.1 (mt List.mem_append.2 hp)
    obtain ⟨hfirst, hsecond⟩ := not_or.1 (mt List.mem_append.2 hp)
    rw [reg, if_neg, if_neg, s.writeBase_sameRegsBut rn wb p hbase]
    · exact fun he => hfirst (List.mem_singleton.2 he.2)
    · rintro ⟨hn, rfl⟩
      simp [mt hnext.2 hn] at hsecond
  · exact fun h14 hb => finishLoadPair_pc_14 lo hi s (hnext.2 h14) hb
  · rw [hcpu]
    simp only [State.loadedPair, State.setReg_cpsr, State.writeBase_cpsr]
  · rw [hcpu]
    simp only [State.loadedPair, State.setReg_spsr, State.writeBase_spsr]

/-- Settles O28: the ends of the three kinds of transfer. -/
theorem transferWritesRegisters : Obligations.TransferWritesRegisters :=
  ⟨finishLoad_ends, finishLoadPair_ends, finishStore_ends⟩

end Sys2Proof.Machine
end

section
/-! SUPPORT. Data processing (R482 to R501): the opcodes over the integers, the flags, and the return from an exception (R513). -/

namespace Sys2Proof.Machine

open Sys2Proof.Claims

/-! Sums and differences over the integers. -/

/-- A signed value is not its remainder just where it leaves 32 bits. -/
theorem bmod_ne_iff (x : Int) : x.bmod (2 ^ 32) ≠ x ↔ x < -2 ^ 31 ∨ 2 ^ 31 ≤ x := by
  rw [Int.bmod_def]
  split <;> omega

theorem bitNat_eq_toNat (c : Bool) : bitNat c = c.toNat := by cases c <;> rfl

theorem toInt_ofNat_toNat (c : Bool) : (BitVec.ofNat 32 c.toNat).toInt = (c.toNat : Int) := by cases c <;> rfl

/-- What an opcode computes, as an outcome. -/
def AluOut.outcome (a : AluOut) : Claims.Outcome := ⟨a.value, a.carry, a.overflow⟩

/-- An ADD-type opcode gives the sum of the integers (R483). -/
theorem addCarry_outcome (a b : Word) (c : Bool) : (addCarry a b c).outcome = sumOutcome a b c := by
  have hvalue : a + b + BitVec.ofNat 32 c.toNat = BitVec.ofNat 32 (a.toNat + b.toNat + c.toNat) := by
    rw [BitVec.ofNat_add, BitVec.ofNat_add, BitVec.ofNat_toNat, BitVec.ofNat_toNat, BitVec.setWidth_eq, BitVec.setWidth_eq]
  have hsigned : (a + b + BitVec.ofNat 32 c.toNat).toInt = (a.toInt + b.toInt + c.toNat : Int).bmod (2 ^ 32) := by
    rw [BitVec.toInt_add, BitVec.toInt_add, toInt_ofNat_toNat, Int.bmod_add_bmod]
  simp only [AluOut.outcome, addCarry, sumOutcome, bitNat_eq_toNat, ← hvalue, hsigned, bmod_ne_iff]

/-- A SUB-type opcode gives the difference of the integers (R483). -/
theorem subCarry_outcome (a b : Word) (c : Bool) : (subCarry a b c).outcome = differenceOutcome a b c := by
  have hvalue : a - b - BitVec.ofNat 32 (!c).toNat = BitVec.ofInt 32 ((a.toNat : Int) - b.toNat - (!c).toNat) := by
    rw [sub_sub, ← BitVec.ofInt_natCast, add_ofInt, sub_ofInt, Int.sub_sub]
  have hsigned : (a - b - BitVec.ofNat 32 (!c).toNat).toInt = (a.toInt - b.toInt - (!c).toNat : Int).bmod (2 ^ 32) := by
    rw [BitVec.toInt_sub, BitVec.toInt_sub, toInt_ofNat_toNat, Int.bmod_sub_bmod]
  simp only [AluOut.outcome, subCarry, differenceOutcome, bitNat_eq_toNat, ← hvalue, hsigned, bmod_ne_iff]

/-! The opcodes. -/

/-- The computation of an opcode with a result. -/
def resultAlu : ResultOp → Word → Shifted → Word → AluOut
  | .and => aluAnd
  | .eor => aluEor
  | .sub => aluSub
  | .rsb => aluRsb
  | .add => aluAdd
  | .adc => aluAdc
  | .sbc => aluSbc
  | .rsc => aluRsc
  | .orr => aluOrr
  | .mov => aluMov
  | .bic => aluBic
  | .mvn => aluMvn

/-- The computation of a compare. -/
def compareAlu : CompareOp → Word → Shifted → Word → AluOut
  | .tst => aluAnd
  | .teq => aluEor
  | .cmp => aluSub
  | .cmn => aluAdd

theorem resultAlu_outcome (o : ResultOp) (x : Word) (y : Shifted) (psr : Word) :
    (resultAlu o x y psr).outcome = o.outcome x y (flagC psr) (flagV psr) := by
  cases o with
  | and | eor | orr | bic | mov | mvn => rfl
  | add | adc => exact addCarry_outcome ..
  | sub | sbc | rsb | rsc => exact subCarry_outcome ..

theorem compareAlu_outcome (o : CompareOp) (x : Word) (y : Shifted) (psr : Word) :
    (compareAlu o x y psr).outcome = o.outcome x y (flagV psr) := by
  cases o with
  | tst | teq => rfl
  | cmp => exact subCarry_outcome ..
  | cmn => exact addCarry_outcome ..

/-- Every opcode with a result writes it as R483 says; MOV and MVN do not look at the first operand. -/
theorem exec_resultOp {c : Cond} {s : State} (hc : conditionPassed c s.cpu.cpsr = true) (o : ResultOp) (setFlags : Bool)
    (rn rd : RegNum) (op : Operand) :
    exec (o.instr c setFlags rn rd op) s = dpWrite setFlags rd (resultAlu o (s.reg rn) (op.shifted s) s.cpu.cpsr) s := by
  cases o <;> cases op <;> exact if_pos hc

theorem exec_compareOp {c : Cond} {s : State} (hc : conditionPassed c s.cpu.cpsr = true) (o : CompareOp) (rn : RegNum)
    (sbz : BitVec 4) (op : Operand) :
    exec (o.instr c rn sbz op) s = dpFlags (compareAlu o (s.reg rn) (op.shifted s) s.cpu.cpsr) s := by
  cases o <;> cases op <;> exact if_pos hc

/-! The flags. -/

/-- The flags stand in the four top bits. -/
theorem getLsbD_top (flags : BitVec 4) (rest : BitVec 28) (k : Nat) :
    (flags ++ rest : Word).getLsbD (28 + k) = flags.getLsbD k := by
  refine BitVec.getLsbD_append.trans ?_
  rw [if_neg (by omega), Nat.add_sub_cancel_left]

theorem flagBits (n z c v : Bool) :
    let flags : BitVec 4 := BitVec.ofBool n ++ BitVec.ofBool z ++ BitVec.ofBool c ++ BitVec.ofBool v
    flags.getLsbD 3 = n ∧ flags.getLsbD 2 = z ∧ flags.getLsbD 1 = c ∧ flags.getLsbD 0 = v := by
  revert n z c v
  decide

theorem withNzcv_bits (psr : Word) (n z c v : Bool) :
    flagN (withNzcv psr n z c v) = n ∧ flagZ (withNzcv psr n z c v) = z ∧ flagC (withNzcv psr n z c v) = c ∧
      flagV (withNzcv psr n z c v) = v ∧ (withNzcv psr n z c v).extractLsb' 0 28 = psr.extractLsb' 0 28 := by
  have top (k : Nat) : (withNzcv psr n z c v).getLsbD (28 + k) = _ := getLsbD_top _ _ k
  obtain ⟨hn, hz, hc, hv⟩ := flagBits n z c v
  exact ⟨(top 3).trans hn, (top 2).trans hz, (top 1).trans hc, (top 0).trans hv,
    (BitVec.extractLsb'_append_eq_of_add_le (by decide)).trans BitVec.extractLsb'_eq_self⟩

/-- The flags that an opcode writes are those of its outcome. -/
theorem flagsAre_withAluFlags (psr : Word) (out : AluOut) : flagsAre out.outcome psr (withAluFlags psr out) := by
  obtain ⟨hn, hz, hc, hv, hrest⟩ :=
    withNzcv_bits psr (out.value.getLsbD 31) (out.value == 0#32) out.carry out.overflow
  exact ⟨hn, hz, hc, hv, hrest⟩

/-! The instructions. -/

/-- The state in which an opcode has written Rd, which is not r15, and the flags. -/
def State.dpWritten (s : State) (setFlags : Bool) (rd : RegNum) (out : AluOut) : State :=
  ((s.setReg rd out.value).setCpsr (if setFlags then withAluFlags s.cpu.cpsr out else s.cpu.cpsr)).advance

theorem dpWrite_of_ne (setFlags : Bool) {rd : RegNum} (out : AluOut) (s : State) (h15 : rd ≠ 15) :
    dpWrite setFlags rd out s = .next (s.dpWritten setFlags rd out) :=
  (if_neg fun h => h15 h.1).trans (if_neg h15)

/-- Settles O20: the opcode's outcome over the integers, and the write of Rd and the flags field by field. -/
theorem dataProcessingResults : Obligations.DataProcessingResults := by
  intro o c setFlags rn rd op s hc h15 out
  have houtcome : (resultAlu o (s.reg rn) (op.shifted s) s.cpu.cpsr).outcome = out := resultAlu_outcome ..
  have hexec := (exec_resultOp hc o setFlags rn rd op).trans (dpWrite_of_ne setFlags _ s h15)
  rw [← houtcome]
  have hregs := s.setReg_sameRegsBut rd (resultAlu o (s.reg rn) (op.shifted s) s.cpu.cpsr).value
  have hcore := s.setReg_onlyCore rd (resultAlu o (s.reg rn) (op.shifted s) s.cpu.cpsr).value
  have hms := congrArg State.ms hcore
  rw [if_neg h15] at hregs
  refine ⟨by rw [encode_resultOp]; simp, _, hexec, s.setReg_bankReg _ h15, hregs, s.setReg_spsr rd _, ?_, ?_,
    onlyCore_trans hcore rfl, (s.setReg_nonseq rd _).trans (if_neg h15), fun cell => congrArg (·.settledMem.read cell) hms⟩
  · exact congrArg (· + 4#32) ((s.setReg_pc rd _).trans (if_neg h15))
  · cases setFlags with
    | false => rfl
    | true => exact flagsAre_withAluFlags _ _

/-- The S bit stands right after the opcode. -/
theorem extract_dpHi_flag (i : Bool) (code : BitVec 4) (flags : Bool) :
    (dpHi i code flags).extractLsb' 0 1 = BitVec.ofBool flags := by
  revert i code flags
  decide

/-- Settles O22: the compare's outcome over the integers, and the write of the flags. -/
theorem compareFlags : Obligations.CompareFlags := by
  intro o c rn sbz op s hc
  rw [encode_compareOp, ← compareAlu_outcome]
  exact ⟨by simp, by simp [extract_dpHi_flag], _, exec_compareOp hc o rn sbz op, flagsAre_withAluFlags _ _,
    fun _ _ => rfl, rfl, rfl, rfl, rfl, fun _ => rfl⟩

/-- With Rd = r15 and without flags an opcode is a branch to its result (R483, R500). -/
theorem dpWrite_branch (out : AluOut) (s : State) :
    dpWrite false 15 out s = .next (s.branchTo (out.value &&& 0xFFFFFFFC#32)) := rfl

/-- With flags it is a return from an exception (R513). -/
theorem dpWrite_return (out : AluOut) (s : State) : dpWrite true 15 out s = returnFromException out.value s := rfl

theorem returnFromException_legal {s : State} {n : Fin 5} (v : Word) (hn : spsrIndex s.mode = some n)
    (hl : legalMode (modeOf (s.cpu.spsr.get n)) = true) :
    returnFromException v s =
      .next ((s.setCpsr (s.cpu.spsr.get n)).branchTo (returnTarget (s.cpu.spsr.get n) v)) := by
  simp only [returnFromException, hn, hl, if_true]

theorem returnFromException_illegal {s : State} {n : Fin 5} (v : Word) (hn : spsrIndex s.mode = some n)
    (hl : legalMode (modeOf (s.cpu.spsr.get n)) = false) : returnFromException v s = .fault .illegalMode := by
  simp only [returnFromException, hn, hl, Bool.false_eq_true, if_false]

theorem returnFromException_none {s : State} (v : Word) (hn : spsrIndex s.mode = none) :
    returnFromException v s = .refused .unpredictableReturn := by
  simp only [returnFromException, hn]

theorem returnTarget_arm {psr : Word} (v : Word) (ht : thumbBit psr = false) (hj : jazelleBit psr = false) :
    returnTarget psr v = v &&& 0xFFFFFFFC#32 := by
  simp only [returnTarget, ht, hj, Bool.false_eq_true, if_false, armTarget]

theorem returnTarget_thumb {psr : Word} (v : Word) (ht : thumbBit psr = true) : returnTarget psr v = v &&& 0xFFFFFFFE#32 :=
  if_pos ht

/-- Settles O21: the branch, and the ways in which a return from an exception ends. -/
theorem dataProcessingToPc : Obligations.DataProcessingToPc := by
  intro o c rn op s hc v
  have hv : (resultAlu o (s.reg rn) (op.shifted s) s.cpu.cpsr).value = v := congrArg Outcome.value (resultAlu_outcome ..)
  have hbranch := (exec_resultOp hc o false rn 15 op).trans (dpWrite_branch _ s)
  have hreturn := (exec_resultOp hc o true rn 15 op).trans (dpWrite_return _ s)
  rw [hv] at hbranch hreturn
  refine ⟨⟨_, hbranch, rfl, rfl, rfl, fun _ _ => rfl, rfl, rfl⟩, fun n hn hl => ?_, fun n hn hl => ?_, fun hn => ?_⟩
  · exact ⟨_, hreturn.trans (returnFromException_legal v hn hl), rfl, fun ht hj => returnTarget_arm v ht hj,
      fun ht => returnTarget_thumb v ht, rfl, fun _ _ => rfl, rfl, rfl⟩
  · exact hreturn.trans (returnFromException_illegal v hn hl)
  · exact hreturn.trans (returnFromException_none v hn)

/-! ADR. -/

/-- Without flags an opcode writes Rd and nothing else. -/
theorem dpWrite_finish (rd : RegNum) (out : AluOut) (s : State) : dpWrite false rd out s = .next (s.finish rd out.value) := by
  by_cases h15 : rd = 15
  · subst h15
    rfl
  · rw [dpWrite_of_ne false out s h15, State.finish, if_neg h15, State.dpWritten, ← s.setReg_cpsr rd out.value]
    rfl

/-- Settles O24: ADD or SUB of the immediate and r15. -/
theorem adrAddress : Obligations.AdrAddress := by
  intro c rd op s ahead hc off v
  have hadd : (addCarry (s.cpu.pc + 8#32) off false).value = s.cpu.pc + 8#32 + off := BitVec.add_zero _
  have hsub : (subCarry (s.cpu.pc + 8#32) off true).value = s.cpu.pc + 8#32 - off := BitVec.sub_zero _
  have hexec : exec (if ahead then .adrAhead c rd op else .adrBehind c rd op) s = .next (s.finish rd v) := by
    have ends {out : AluOut} (hout : out.value = v) : dpWrite false rd out s = .next (s.finish rd v) :=
      hout ▸ dpWrite_finish rd out s
    cases ahead with
    | true => exact (if_pos hc).trans (ends hadd)
    | false => exact (if_pos hc).trans (ends hsub)
  exact ⟨_, hexec, registerGets_finish rd v rfl, s.finish_onlyCore rd v⟩

end Sys2Proof.Machine
end

section
/-! SUPPORT. Conditional execution (R25, R481). -/

namespace Sys2Proof.Machine

open Sys2Proof.Claims

/-- Each instruction that has a condition tests it before anything else (R25). -/
theorem exec_condition_failed {i : Instr} {c : Cond} {s : State} (h : conditionOf i = some c)
    (hc : conditionPassed c s.cpu.cpsr = false) : exec i s = .next s.advance := by
  have failed : ¬conditionPassed c s.cpu.cpsr = true := Bool.eq_false_iff.1 hc
  cases i with
  | pld | coprocUnconditional => cases h
  | _ =>
    cases h
    exact if_neg failed

/-- Settles O8: the table by the flags, and the test that each instruction with a condition begins with. -/
theorem conditionalExecution : Obligations.ConditionalExecution := by
  refine ⟨?_, fun _ _ _ h hc => exec_condition_failed h hc⟩
  rintro n z c v psr rfl rfl rfl rfl
  rfl

end Sys2Proof.Machine
end

section
/-! SUPPORT. The return that undoes an exception entry (R513, R538), the branches (R502, R503) and the moves between a register and
a status register (R510). -/

namespace Sys2Proof.Machine

open Sys2Proof.Claims

/-! Word addresses. -/

theorem toNat_mod_four {a : Word} (h : a &&& 3#32 = 0#32) : a.toNat % 4 = 0 := by
  have hlow : a.toNat &&& 3 = 0 := congrArg BitVec.toNat h
  rwa [Nat.and_two_pow_sub_one_eq_mod a.toNat 2] at hlow

/-- A word address, and any other a multiple of four from it, keeps its two low bits clear. -/
theorem and_fffffffc_add {a b : Word} (ha : a &&& 3#32 = 0#32) (hb : b.toNat % 4 = 0) :
    (a + b) &&& 0xFFFFFFFC#32 = a + b := by
  refine and_fffffffc_of_aligned ?_
  have := toNat_mod_four ha
  rw [BitVec.toNat_add]
  omega

/-! The return that undoes an exception entry. -/

/-- The registers and the SPSR that an exception entry leaves to its handler (R531, R532). -/
theorem takeException_handler (e : Exception) (link : Word) (s : State) :
    (takeException e link s).reg 14 = link ∧ spsrIndex (takeException e link s).mode = some (exceptionSpsr e) ∧
      (takeException e link s).cpu.spsr.get (exceptionSpsr e) = s.cpu.cpsr := by
  have hmode := takeException_mode e link s
  refine ⟨?_, ?_, (takeException_spsr_get e link s _).trans (if_pos rfl)⟩
  · show (takeException e link s).cpu.regs.get (physReg (takeException e link s).mode 14) = link
    rw [hmode, takeException_get, if_pos rfl]
  · rw [hmode]
    cases e <;> rfl

/-- A return to a word address of ARM state gives back the status register that the exception found (R513). -/
theorem returnFromException_takeException (e : Exception) (link : Word) {v : Word} {s : State}
    (hlegal : legalMode s.mode = true) (ht : thumbBit s.cpu.cpsr = false) (hj : jazelleBit s.cpu.cpsr = false)
    (hv : v &&& 0xFFFFFFFC#32 = v) :
    ∃ t, returnFromException v (takeException e link s) = .next t ∧ t.cpu.pc = v ∧ t.cpu.cpsr = s.cpu.cpsr ∧
      onlyCore s t := by
  obtain ⟨-, hindex, hsaved⟩ := takeException_handler e link s
  have hreturn := returnFromException_legal v hindex (hsaved ▸ hlegal)
  rw [hsaved, returnTarget_arm v ht hj, hv] at hreturn
  exact ⟨_, hreturn, rfl, rfl, rfl⟩

/-- MOVS pc, r14 returns to the link register. -/
theorem exec_movs_pc (s : State) :
    exec (.movReg .al true 0#4 15 ⟨0#5, .lsl, 14⟩) s = returnFromException (s.reg 14) s := rfl

theorem rotateRight_zero (v : Word) : v.rotateRight 0 = v := by
  simp [BitVec.rotateRight, BitVec.rotateRightAux, BitVec.shiftLeft_eq_zero]

/-- SUBS pc, r14, #n returns to the link register less n. -/
theorem exec_subs_pc (n : BitVec 8) (s : State) :
    exec (.subImm .al true 14 15 ⟨0#4, n⟩) s = returnFromException (s.reg 14 - n.setWidth 32) s := by
  have hvalue : (operandImm ⟨0#4, n⟩ s).value = n.setWidth 32 := rotateRight_zero _
  have hsub (a b : Word) : (subCarry a b true).value = a - b := BitVec.sub_zero _
  exact congrArg (returnFromException · s) ((hsub ..).trans (congrArg (s.reg 14 - ·) hvalue))

/-- SUBS pc, r14, #n after an exception whose link is n past a word address goes to that address. -/
theorem exec_subs_pc_takeException (e : Exception) (n : BitVec 8) {s : State} (hlegal : legalMode s.mode = true)
    (ht : thumbBit s.cpu.cpsr = false) (hj : jazelleBit s.cpu.cpsr = false) (hpc : s.cpu.pc &&& 3#32 = 0#32) :
    ∃ t, exec (.subImm .al true 14 15 ⟨0#4, n⟩) (takeException e (s.cpu.pc + n.setWidth 32) s) = .next t ∧
      t.cpu.pc = s.cpu.pc ∧ t.cpu.cpsr = s.cpu.cpsr ∧ onlyCore s t := by
  obtain ⟨hlink, -, -⟩ := takeException_handler e (s.cpu.pc + n.setWidth 32) s
  rw [exec_subs_pc, hlink, BitVec.add_sub_cancel]
  exact returnFromException_takeException e _ hlegal ht hj (and_fffffffc_of_aligned (toNat_mod_four hpc))

/-- Settles O19: the handler's registers, and the return through them. -/
theorem returnUndoesEntry : Obligations.ReturnUndoesEntry := by
  intro s hlegal ht hj hpc
  refine ⟨?_, fun e _ => exec_subs_pc_takeException e 4#8 hlegal ht hj hpc, fun a => ?_⟩
  · obtain ⟨hlink, -, -⟩ := takeException_handler .swi (s.cpu.pc + 4#32) s
    rw [exec_movs_pc, hlink]
    exact returnFromException_takeException .swi _ hlegal ht hj (and_fffffffc_add hpc (by decide))
  · obtain ⟨t, hexec, htarget, hcpsr, -⟩ := exec_subs_pc_takeException (s := { s with
        cp15 := { s.cp15 with dfsr := faultStatusWord a (s.drawn 0), far := a.mva }
        ms := s.ms.spend 1
        cpPins :=
          { s.cpPins with cppass := s.cpPins.cppass || followerPasses s, cplatecancel := coprocessorFollows s } })
      .dataAbort 8#8 hlegal ht hj hpc
    exact ⟨t, hexec, htarget, hcpsr⟩

/-! The branches. -/

/-- The target of a branch over the integers (R502). -/
theorem branchTarget_eq (imm24 : BitVec 24) (s : State) :
    branchTarget imm24 s = BitVec.ofInt 32 ((s.cpu.pc.toNat : Int) + 8 + 4 * imm24.toInt) := by
  have hoffset : imm24.signExtend 32 <<< 2 = BitVec.ofInt 32 (4 * imm24.toInt) := by
    rw [BitVec.signExtend, BitVec.shiftLeft_eq_mul_twoPow, Int.mul_comm, BitVec.ofInt_mul]
    rfl
  rw [branchTarget, hoffset, BitVec.ofInt_add, BitVec.ofInt_add, BitVec.ofInt_natCast, BitVec.ofNat_toNat,
    BitVec.setWidth_eq]
  rfl

/-- A branch from a word address goes to one. -/
theorem armTarget_branchTarget (imm24 : BitVec 24) {s : State} (hpc : s.cpu.pc &&& 3#32 = 0#32) :
    armTarget (branchTarget imm24 s) = branchTarget imm24 s := by
  rw [branchTarget, BitVec.add_assoc]
  refine and_fffffffc_add hpc ?_
  rw [BitVec.toNat_add, BitVec.toNat_shiftLeft, Nat.shiftLeft_eq]
  have : (8#32 : Word).toNat = 8 := rfl
  omega

/-- The link register written, of the registers r14 of the mode alone. -/
theorem State.link_regs (s : State) :
    s.link.bankReg s.mode 14 = s.cpu.pc + 4#32 ∧ sameRegsBut [physReg s.mode 14] s s.link :=
  ⟨s.setBankReg_bankReg s.mode 14 _, fun p hp => (s.setBankReg_get s.mode 14 _ p).trans
    (if_neg fun he => hp (List.mem_singleton.2 he))⟩

/-- Settles O25: the target over the integers, and the link register that BL writes. -/
theorem branchAndLink : Obligations.BranchAndLink := by
  intro c imm24 s hc hpc target
  have htarget : armTarget (branchTarget imm24 s) = target :=
    (armTarget_branchTarget imm24 hpc).trans (branchTarget_eq imm24 s)
  obtain ⟨hlink, hregs⟩ := s.link_regs
  exact ⟨⟨_, if_pos hc, htarget, sameRegsBut_refl s, rfl, rfl, rfl, rfl⟩,
    ⟨_, if_pos hc, htarget, hlink, hregs, rfl, rfl, rfl, rfl⟩⟩

/-- The source of BLX after the link register is written (assumption 25). -/
theorem State.link_reg (s : State) (rm : RegNum) : s.link.reg rm = if rm = 14 then s.cpu.pc + 4#32 else s.reg rm := by
  by_cases h15 : rm = 15
  · subst h15
    rfl
  · rw [State.reg, State.reg, if_neg h15, if_neg h15]
    refine (s.setBankReg_get s.mode 14 _ (physReg s.mode rm)).trans (if_congr ⟨fun he => ?_, fun he => ?_⟩ rfl rfl)
    · exact physReg_injective h15 (by decide) he
    · rw [he]

/-- Settles O26: the T bit and the target that the register's value gives. -/
theorem branchExchange : Obligations.BranchExchange := by
  intro c rm s hc
  refine ⟨⟨_, if_pos hc, rfl, thumbBit_withThumb _ _, withThumb_and _ _, sameRegsBut_refl s, rfl, rfl, rfl⟩, ?_⟩
  intro v
  have hv : s.link.reg rm = v := s.link_reg rm
  have hexec : exec (.blx c rm) s = .next (s.link.exchange v) := hv ▸ if_pos hc
  obtain ⟨hlink, hregs⟩ := s.link_regs
  exact ⟨_, hexec, rfl, thumbBit_withThumb _ _, withThumb_and _ _, hlink, hregs, rfl, rfl, rfl⟩

/-! The status registers. -/

/-- Settles O39: the CPSR, the SPSR of the mode, or a free value where the mode has none. -/
theorem mrsReadsStatus : Obligations.MrsReadsStatus := by
  intro c r rd s hc
  have frame (v : Word) (n : Nat) := coreAndDraws_of_onlyCore (s.finish_onlyCore rd v) n
  cases r with
  | false => exact ⟨_, _, if_pos hc, registerGets_finish rd _ rfl, fun _ => rfl, nofun, frame _ 0⟩
  | true =>
    have hexec : exec (.mrs c true rd) s = match spsrIndex s.mode with
      | some i => .next (s.finish rd (s.cpu.spsr.get i))
      | none => .next ((s.finish rd (s.drawn 0)).spend 1) := if_pos hc
    cases hn : spsrIndex s.mode with
    | some n =>
      rw [hn] at hexec
      exact ⟨_, _, hexec, registerGets_finish rd _ rfl, nofun, fun m _ hm => Option.some.inj hm ▸ rfl, frame _ 0⟩
    | none =>
      rw [hn] at hexec
      exact ⟨_, _, hexec, registerGets_finish rd _ rfl, nofun, nofun, frame _ 1⟩

/-- A replaced register bit by bit. -/
theorem getLsbD_replaceBits (old new bits : Word) {j : Nat} (hj : j < 32) :
    (replaceBits old new bits).getLsbD j = if bits.getLsbD j then new.getLsbD j else old.getLsbD j := by
  rw [replaceBits, BitVec.getLsbD_or, BitVec.getLsbD_and, BitVec.getLsbD_and, BitVec.getLsbD_not, decide_eq_true hj]
  cases bits.getLsbD j <;> simp

/-- The field mask names whole bytes (R510). -/
theorem getLsbD_fieldBits (mask : BitVec 4) {j : Nat} (hj : j < 32) : (fieldBits mask).getLsbD j = mask.getLsbD (j / 8) := by
  revert mask
  interval_cases j <;> decide

/-- The bits of the CPSR that MSR writes: the named bytes, in User mode the top one alone, and never T or J. -/
theorem getLsbD_cpsrWriteBits (privileged : Bool) (mask : BitVec 4) {j : Nat} (hj : j < 32) :
    (cpsrWriteBits privileged mask).getLsbD j =
      decide (mask.getLsbD (j / 8) ∧ (privileged = true ∨ 24 ≤ j) ∧ j ≠ 5 ∧ j ≠ 24) := by
  have never : (0xFEFFFFDF#32 : Word).getLsbD j = decide (j ≠ 5 ∧ j ≠ 24) := by interval_cases j <;> decide
  have top : (0xFF000000#32 : Word).getLsbD j = decide (24 ≤ j) := by interval_cases j <;> decide
  cases privileged <;> simp [cpsrWriteBits, getLsbD_fieldBits mask hj, never, top, Bool.and_assoc]

theorem exec_msr {i : Instr} {c : Cond} {r : Bool} {mask : BitVec 4} {v : Word} {s : State}
    (hi : (∃ rm, i = .msrReg c r mask rm ∧ v = s.reg rm) ∨ (∃ op, i = .msrImm c r mask op ∧ v = (operandImm op s).value))
    (hc : conditionPassed c s.cpu.cpsr = true) : exec i s = writeStatus r mask v s := by
  rcases hi with ⟨rm, rfl, rfl⟩ | ⟨op, rfl, rfl⟩ <;> exact if_pos hc

/-- Settles O40: the bits that the write replaces, one by one. -/
theorem msrWritesStatus : Obligations.MsrWritesStatus := by
  intro i c r mask v s hi hc
  have hexec := exec_msr hi hc
  refine ⟨?_, ?_⟩
  · rintro rfl
    refine ⟨replaceBits s.cpu.cpsr v (cpsrWriteBits s.privileged mask), fun j hj => ?_, hexec⟩
    have hpriv : s.privileged = true ↔ s.mode ≠ 0b10000#5 := bne_iff_ne
    rw [getLsbD_replaceBits _ _ _ hj, getLsbD_cpsrWriteBits _ _ hj]
    simp only [hpriv, decide_eq_true_eq]
  · rintro n rfl hn
    have hwrite : exec i s = .next { s with
        cpu := { s.cpu with
          spsr := s.cpu.spsr.set n.val (replaceBits (s.cpu.spsr.get n) v (fieldBits mask)) n.isLt } }.advance := by
      rw [hexec]
      simp only [writeStatus, writeSpsr, hn, if_true]
    refine ⟨_, hwrite, fun j hj => ?_, fun p hp => ?_, rfl, rfl, rfl, rfl⟩
    · show ((s.cpu.spsr.set n.val (replaceBits (s.cpu.spsr.get n) v (fieldBits mask)) n.isLt).get n).getLsbD j = _
      rw [Vector.get_eq_getElem, Vector.getElem_set_self, getLsbD_replaceBits _ _ _ hj, getLsbD_fieldBits mask hj]
    · show (s.cpu.spsr.set n.val _ n.isLt).get p = _
      rw [Vector.get_eq_getElem, Vector.getElem_set_ne _ _ fun he => hp (Fin.ext he).symm]
      rfl

end Sys2Proof.Machine
end

section
/-! SUPPORT. The bytes of a narrower access in the word that holds it (R106), and single accesses straight to AHB of any lanes
(R100, R117). -/

namespace Sys2Proof.Machine

open Sys2Proof.Claims

/-! Cells and lanes. -/

theorem toNat_xor_low (a : Word) (j : Nat) (hj : j < 4) :
    (a ^^^ BitVec.ofNat 32 j).toNat / 4 = a.toNat / 4 ∧ (a ^^^ BitVec.ofNat 32 j).toNat % 4 = (a.toNat % 4) ^^^ j := by
  have hxor : (a ^^^ BitVec.ofNat 32 j).toNat = a.toNat ^^^ j := by
    rw [BitVec.toNat_xor, BitVec.toNat_ofNat, Nat.mod_eq_of_lt (by omega)]
  rw [hxor]
  have hdiv := Nat.xor_div_two_pow (a := a.toNat) (b := j) (n := 2)
  have hmod := Nat.xor_mod_two_pow (a := a.toNat) (b := j) (n := 2)
  rw [Nat.div_eq_of_lt (show j < 2 ^ 2 from hj), Nat.xor_zero] at hdiv
  rw [Nat.mod_eq_of_lt (show j < 2 ^ 2 from hj)] at hmod
  exact ⟨hdiv, hmod⟩

theorem wordAddr_xor_low (a : Word) (j : Nat) (hj : j < 4) : wordAddr (a ^^^ BitVec.ofNat 32 j) = wordAddr a := by
  apply BitVec.eq_of_toNat_eq
  rw [toNat_wordAddr, toNat_wordAddr, (toNat_xor_low a j hj).1]

/-- The cell of a byte is its lane of the word that holds it (R106). -/
theorem byteCell_eq (big : Bool) (a : Word) : byteCell big a = cellOf (wordAddr a) (laneOf big a).toNat := by
  have little (a : Word) : a.toNat = cellOf (wordAddr a) (laneOf false a).toNat := by
    have hlane : (laneOf false a).toNat = a.toNat % 4 := by simp [laneOf]
    rw [cellOf, toNat_wordAddr, hlane]
    omega
  cases big with
  | false => exact little a
  | true =>
    have hlittle := little (a ^^^ 3#32)
    rwa [wordAddr_xor_low a 3 (by decide), show laneOf false (a ^^^ 3#32) = laneOf true a from laneOf_not true a] at hlittle

theorem halfLaneOf_cases (big : Bool) (a : Word) : halfLaneOf big a = 0#2 ∨ halfLaneOf big a = 2#2 := by
  have table : ∀ x : BitVec 1, x ++ 0#1 = 0#2 ∨ x ++ 0#1 = 2#2 := by decide
  exact table _

/-- The lower cell of an aligned halfword is its lower lane of the word that holds it (R106). -/
theorem halfCell_eq (big : Bool) {a : Word} (ha : a.toNat % 2 = 0) :
    halfCell big a = cellOf (wordAddr a) (halfLaneOf big a).toNat := by
  have little {a : Word} (ha : a.toNat % 2 = 0) : a.toNat = cellOf (wordAddr a) (halfLaneOf false a).toNat := by
    have table : ∀ x : BitVec 1, (x ++ 0#1).toNat = 2 * x.toNat := by decide
    have hlane : (halfLaneOf false a).toNat = 2 * (a.toNat / 2 % 2) := by
      refine (table _).trans (congrArg (2 * ·) ((BitVec.extractLsb'_toNat ..).trans ?_))
      rw [Nat.shiftRight_eq_div_pow]
    rw [cellOf, toNat_wordAddr, hlane]
    omega
  cases big with
  | false => exact little ha
  | true =>
    have heven : (a ^^^ 2#32).toNat % 2 = 0 := by
      have hxor := Nat.xor_mod_two_pow (a := a.toNat) (b := 2) (n := 1)
      rw [BitVec.toNat_xor]
      exact hxor.trans (by rw [show a.toNat % 2 ^ 1 = 0 from ha]; rfl)
    have hlittle := little heven
    rwa [wordAddr_xor_low a 2 (by decide), show halfLaneOf false (a ^^^ 2#32) = halfLaneOf true a from halfLaneOf_not true a]
      at hlittle

/-! The bytes of a word read. -/

theorem laneByte_readWord (m : Memory) (word : BitVec 30) (lane : BitVec 2) :
    laneByte (m.readWord word) lane = m.read (cellOf word lane.toNat) := by
  have lanes : lane = 0#2 ∨ lane = 1#2 ∨ lane = 2#2 ∨ lane = 3#2 := by
    revert lane
    decide
  rcases lanes with rfl | rfl | rfl | rfl <;>
    simp (disch := decide) only [laneByte, Memory.readWord, wordOfLanes, BitVec.toNat_ofNat, Nat.reducePow, Nat.reduceMod,
      Nat.reduceMul, BitVec.extractLsb'_append_eq_of_le, BitVec.extractLsb'_append_eq_of_add_le, Nat.reduceSub,
      BitVec.extractLsb'_eq_self]

theorem byteOfWord_readWord (big : Bool) (a : Word) (m : Memory) :
    byteOfWord big a (m.readWord (wordAddr a)) = m.read (byteCell big a) := by
  rw [byteOfWord, laneByte_readWord, byteCell_eq]

theorem halfOfWord_readWord (big : Bool) {a : Word} (ha : a.toNat % 2 = 0) (m : Memory) :
    halfOfWord big a (m.readWord (wordAddr a)) = m.read (halfCell big a + 1) ++ m.read (halfCell big a) := by
  have halves (w : Word) (lane next : BitVec 2) (h : 8 * next.toNat = 8 * lane.toNat + 8) :
      w.extractLsb' (8 * lane.toNat) 16 = laneByte w next ++ laneByte w lane :=
    (BitVec.extractLsb'_append_extractLsb'_eq_extractLsb' (x := w) (start₁ := 8 * lane.toNat) (len₁ := 8) (len₂ := 8)
      h).symm
  rw [halfCell_eq big ha]
  rcases halfLaneOf_cases big a with h | h
  · rw [halfOfWord, h, halves _ 0#2 1#2 rfl, laneByte_readWord, laneByte_readWord]
    rfl
  · rw [halfOfWord, h, halves _ 2#2 3#2 rfl, laneByte_readWord, laneByte_readWord]
    rfl

theorem rotatedWord_eq (a w : Word) : rotatedWord a w = w.rotateRight (8 * (a.toNat % 4)) := by
  rw [rotatedWord, BitVec.extractLsb'_toNat]
  rfl

/-! The bytes that lanes drive. -/

/-- What a write of some lanes of a word drives, by cell. -/
def lanesBytes (word : BitVec 30) (lanes : BitVec 4) (data : Word) (cell : Nat) : Option Byte :=
  if cell / 4 = word.toNat ∧ lanes.getLsbD (cell % 4) then some (data.extractLsb' (8 * (cell % 4)) 8) else none

theorem Memory.read_writeLanes_getD {m : Memory} (word : BitVec 30) (lanes : BitVec 4) (data : Word) (cell : Nat)
    (h : m.wf = true) : (m.writeLanes word lanes data).read cell = (lanesBytes word lanes data cell).getD (m.read cell) := by
  rw [Memory.read_writeLanes _ _ _ _ h, lanesBytes]
  split <;> rfl

theorem lanesBytes_word (a v : Word) : lanesBytes (wordAddr a) 15#4 v = wordBytes a v := by
  funext cell
  have driven : (15#4).getLsbD (cell % 4) = true := by
    have := Nat.mod_lt cell (show 0 < 4 by decide)
    interval_cases cell % 4 <;> rfl
  rw [lanesBytes, wordBytes, toNat_wordAddr]
  simp only [driven, and_true]

theorem cell_eq_cellOf {word : BitVec 30} {lane cell : Nat} (h : lane < 4) :
    cell = cellOf word lane ↔ cell / 4 = word.toNat ∧ cell % 4 = lane := by
  rw [cellOf]
  omega

theorem extract_placed {k : Nat} (v : BitVec k) {n i len : Nat} (hlen : n + i + len ≤ 32) :
    (v.setWidth 32 <<< n).extractLsb' (n + i) len = v.extractLsb' i len := by
  ext j hj
  have hin : n + i + j < 32 := by omega
  have hpast : ¬n + i + j < n := by omega
  have hsub : n + i + j - n = i + j := by omega
  simp [hin, hpast, hsub]

/-- A byte on its lane drives its cell alone (R106). -/
theorem lanesBytes_byte (big : Bool) (a : Word) (v : Byte) :
    lanesBytes (wordAddr a) (byteLanes big a) (byteOnLane big a v) =
      fun cell => if cell = byteCell big a then some v else none := by
  funext cell
  have hlt : (laneOf big a).toNat < 4 := (laneOf big a).isLt
  have driven : (byteLanes big a).getLsbD (cell % 4) = true ↔ cell % 4 = (laneOf big a).toNat := by
    have table : ∀ (lane : BitVec 2) (j : Fin 4), (1#4 <<< lane.toNat).getLsbD j = true ↔ j.val = lane.toNat := by decide
    exact table _ ⟨cell % 4, Nat.mod_lt cell (by decide)⟩
  have here : cell / 4 = (wordAddr a).toNat ∧ (byteLanes big a).getLsbD (cell % 4) = true ↔ cell = byteCell big a := by
    rw [driven, byteCell_eq, cell_eq_cellOf hlt]
  rw [lanesBytes]
  by_cases h : cell = byteCell big a
  · rw [if_pos (here.2 h), if_pos h, driven.1 (here.2 h).2]
    have hplaced := extract_placed v (n := 8 * (laneOf big a).toNat) (i := 0) (len := 8) (by omega)
    exact congrArg some (hplaced.trans BitVec.extractLsb'_eq_self)
  · rw [if_neg (mt here.1 h), if_neg h]

/-- An aligned halfword on its lanes drives its two cells alone (R106). -/
theorem lanesBytes_half (big : Bool) {a : Word} (ha : a.toNat % 2 = 0) (v : BitVec 16) :
    lanesBytes (wordAddr a) (halfLanes big a) (halfOnLanes big a v) =
      fun cell => if cell = halfCell big a then some (v.extractLsb' 0 8)
        else if cell = halfCell big a + 1 then some (v.extractLsb' 8 8) else none := by
  funext cell
  have hlt : (halfLaneOf big a).toNat + 1 < 4 := by rcases halfLaneOf_cases big a with h | h <;> rw [h] <;> decide
  have driven : (halfLanes big a).getLsbD (cell % 4) = true ↔
      cell % 4 = (halfLaneOf big a).toNat ∨ cell % 4 = (halfLaneOf big a).toNat + 1 := by
    have table : ∀ (lane : BitVec 2) (j : Fin 4),
        (3#4 <<< lane.toNat).getLsbD j = true ↔ j.val = lane.toNat ∨ j.val = lane.toNat + 1 := by decide
    exact table _ ⟨cell % 4, Nat.mod_lt cell (by decide)⟩
  have low := cell_eq_cellOf (word := wordAddr a) (cell := cell) (Nat.lt_of_succ_lt hlt)
  have high := cell_eq_cellOf (word := wordAddr a) (cell := cell) hlt
  have here : cell / 4 = (wordAddr a).toNat ∧ (halfLanes big a).getLsbD (cell % 4) = true ↔
      cell = halfCell big a ∨ cell = halfCell big a + 1 := by
    rw [driven, halfCell_eq big ha, and_or_left, ← low, ← high]
    rfl
  rw [lanesBytes]
  by_cases h : cell = halfCell big a
  · have hlane := (low.1 (h.trans (halfCell_eq big ha))).2
    rw [if_pos (here.2 (.inl h)), if_pos h, hlane]
    exact congrArg some (extract_placed v (n := 8 * (halfLaneOf big a).toNat) (i := 0) (by omega))
  · rw [if_neg h]
    by_cases h1 : cell = halfCell big a + 1
    · have hlane := (high.1 (h1.trans (congrArg (· + 1) (halfCell_eq big ha)))).2
      rw [if_pos (here.2 (.inr h1)), if_pos h1, hlane]
      exact congrArg some (extract_placed v (n := 8 * (halfLaneOf big a).toNat) (i := 8) (by omega))
    · rw [if_neg (mt here.1 (not_or.2 ⟨h, h1⟩)), if_neg h1]

/-! Single accesses straight to AHB. -/

/-- Of its context an access straight to AHB looks at CP15, the pins and the configuration alone. -/
theorem StraightToBus.of_eq {k j : Ctx} {a : Word} (h : StraightToBus k a) (hcp15 : j.cp15 = k.cp15) (hpins : j.pins = k.pins)
    (hcfg : j.cfg = k.cfg) : StraightToBus j a := by
  obtain ⟨cp15, pins, cfg, priv, held⟩ := k
  obtain ⟨_, _, _, priv', held'⟩ := j
  cases hcp15
  cases hpins
  cases hcfg
  exact { h with }

theorem StraightToBus.transferCtx {s : State} {w : Word} (h : StraightToBus s.ctx w) (a : AddrMode) :
    StraightToBus (s.transferCtx a) w := by
  rw [State.transferCtx]
  split
  · exact h.of_eq rfl rfl rfl
  · exact h

section
variable {k : Ctx} {a : Word} {ms : MemSys} (h : StraightToBus k a) (locked : Bool)
include h

/-- What may come before such an access, other agents' writes among it, changes no byte but theirs. -/
theorem StraightToBus.meanwhile_sameBytes (hw : ms.wf = true) : sameBytes ms (ms.meanwhile k) :=
  MemSys.meanwhile_sameBytes hw (.inl h.dcacheOff)

theorem StraightToBus.dataRead_eq :
    dataRead k locked a ms =
      readBus k (lockedType locked (busType (dataType k.cp15 .read ⟨a, false, false⟩))) (fcse k.cp15 a) a (ms.meanwhile k) := by
  simp only [dataRead, h.translated, readAt, h.route]

theorem StraightToBus.dataWrite_eq (lanes : BitVec 4) (data : Word) :
    dataWrite k locked a lanes data ms =
      writeBus k (lockedType locked (busType (dataType k.cp15 .write ⟨a, false, false⟩))) (fcse k.cp15 a) a lanes data
        (ms.meanwhile k) := by
  simp only [dataWrite, h.translated, writeAt, h.route]

/-- A read, of a swap or not, gives the word that memory holds. -/
theorem StraightToBus.reads (hw : ms.wf = true) (ha : ms.alone (wordAddr a) = true) :
    ∃ ms', dataRead k locked a ms = .ok (ms.settledMem.readWord (wordAddr a)) ms' ∧ sameBytes ms ms' ∧ ms'.wf = true := by
  have hmeanwhile := h.meanwhile_sameBytes hw
  obtain ⟨ms', hread, hsame⟩ := h.readBus_ok (lockedType locked (busType (dataType k.cp15 .read ⟨a, false, false⟩)))
    (fcse k.cp15 a) (MemSys.wf_meanwhile k hw)
  rw [← h.dataRead_eq locked, sameBytes_readWord hmeanwhile ha] at hread
  have hwf := dataRead_leaves k locked a hw
  rw [hread] at hwf
  exact ⟨ms', hread, sameBytes_trans hmeanwhile hsame, hwf⟩

/-- A write to the bus puts the bytes that its lanes drive, buffered or not. -/
theorem StraightToBus.writeBus_lanes (typ : RegionType) (mva : Word) (lanes : BitVec 4) (data : Word) (hw : ms.wf = true) :
    ∃ ms', writeBus k typ mva a lanes data ms = .ok () ms' ∧ storesBytes (lanesBytes (wordAddr a) lanes data) ms ms' := by
  have bytes (cell : Nat) := Memory.read_writeLanes_getD (wordAddr a) lanes data cell (MemSys.wf_settled hw).1
  simp only [writeBus, h.answered]
  split
  · exact ⟨_, rfl, ⟨rfl, rfl, fun _ _ => rfl, List.Sublist.refl _⟩, fun cell _ => bytes cell⟩
  · refine ⟨_, rfl, ⟨rfl, rfl, fun _ _ => rfl, List.Sublist.refl _⟩, fun cell _ => ?_⟩
    rw [MemSys.pushBus_settled, Memory.applyAll_cons, Memory.applyAll_nil]
    exact bytes cell

/-- A write, of a swap or not, puts the bytes that its lanes drive. -/
theorem StraightToBus.writes (lanes : BitVec 4) (data : Word) (hw : ms.wf = true) :
    ∃ ms', dataWrite k locked a lanes data ms = .ok () ms' ∧ storesBytes (lanesBytes (wordAddr a) lanes data) ms ms' := by
  obtain ⟨ms', hwrite, hstores⟩ := h.writeBus_lanes
    (lockedType locked (busType (dataType k.cp15 .write ⟨a, false, false⟩))) (fcse k.cp15 a) lanes data
    (MemSys.wf_meanwhile k hw)
  exact ⟨ms', (h.dataWrite_eq locked lanes data).trans hwrite, sameBytes_storesBytes (h.meanwhile_sameBytes hw) hstores⟩

/-- A read is answered whatever form memory has. -/
theorem StraightToBus.answers : ∃ w ms', dataRead k locked a ms = .ok w ms' := by
  rw [h.dataRead_eq, readBus, if_neg (by simp [h.answered])]
  exact ⟨_, _, rfl⟩

/-- A swap gives the word that memory held and puts its bytes (R117). -/
theorem StraightToBus.swaps (lanes : BitVec 4) (data : Word) (hw : ms.wf = true) (ha : ms.alone (wordAddr a) = true) :
    ∃ ms', swapAccess k a lanes data ms = .ok (ms.settledMem.readWord (wordAddr a)) ms' ∧
      storesBytes (lanesBytes (wordAddr a) lanes data) ms ms' := by
  obtain ⟨ms1, hread, hsame, hwf⟩ := h.reads true hw ha
  obtain ⟨ms2, hwrite, hstores⟩ :=
    (h.of_eq (j := { k with held := holdsBus k a ms }) rfl rfl rfl).writes true lanes data hwf
  exact ⟨ms2, by simp only [swapAccess, hread, hwrite], sameBytes_storesBytes hsame hstores⟩

end

end Sys2Proof.Machine
end

section
/-! SUPPORT. The loads and stores of one register, the doubleword transfers and the swaps, straight to AHB (R504, R506, R508). -/

namespace Sys2Proof.Machine

open Sys2Proof.Claims

theorem State.afterAccess_ok {α : Type} {s : State} {x : Access α} {v : α} {ms : MemSys} (h : x = .ok v ms)
    (go : α → State → Result) : s.afterAccess x go = go v (s.withMs ms) := by
  rw [h]
  rfl

/-! One register. -/

section
variable {a : AddrMode} {rn rd : RegNum} {adr : Address} {s : State} {w v : Word} {ms : MemSys}

theorem loadWord_ok (hal : s.cp15.ctrl.a = false ∨ adr.address.toNat % 4 = 0)
    (h : dataRead (transferRights a s) false adr.address s.ms = .ok w ms) (hv : rotatedWord adr.address w = v) :
    loadWord a rn rd adr s = .next (finishLoad true rn rd adr.writeBack v (s.withMs ms)) := by
  subst hv
  rw [transferRights_eq] at h
  exact (State.checkWord_passed _ hal).trans (State.afterAccess_ok h _)

theorem loadByte_ok (h : dataRead (transferRights a s) false adr.address s.ms = .ok w ms)
    (hv : (byteOfWord s.cp15.ctrl.b adr.address w).setWidth 32 = v) :
    loadByte a rn rd adr s = .next (finishLoad false rn rd adr.writeBack v (s.withMs ms)) := by
  subst hv
  rw [transferRights_eq] at h
  exact State.afterAccess_ok h _

theorem loadHalf_ok (extend : BitVec 16 → Word) (hal : adr.address.toNat % 2 = 0)
    (h : dataRead s.ctx false adr.address s.ms = .ok w ms)
    (hv : extend (halfOfWord s.cp15.ctrl.b adr.address w) = v) :
    loadHalf extend rn rd adr s = .next (finishLoad false rn rd adr.writeBack v (s.withMs ms)) := by
  subst hv
  exact (State.checkStrict_passed _ _ ((halfAligned_iff _).2 hal)).trans (State.afterAccess_ok h _)

theorem loadSignedByte_ok (h : dataRead s.ctx false adr.address s.ms = .ok w ms)
    (hv : (byteOfWord s.cp15.ctrl.b adr.address w).signExtend 32 = v) :
    loadSignedByte rn rd adr s = .next (finishLoad false rn rd adr.writeBack v (s.withMs ms)) := by
  subst hv
  exact State.afterAccess_ok h _

theorem storeWord_ok (hal : s.cp15.ctrl.a = false ∨ adr.address.toNat % 4 = 0)
    (h : dataWrite (transferRights a s) false adr.address 15#4 (s.stored rd) s.ms = .ok () ms) :
    storeWord a rn rd adr s = .next (finishStore rn adr.writeBack (s.withMs ms)) := by
  rw [transferRights_eq] at h
  exact (State.checkWord_passed _ hal).trans (State.afterAccess_ok h _)

theorem storeByte_ok
    (h : dataWrite (transferRights a s) false adr.address (byteLanes s.cp15.ctrl.b adr.address)
      (byteOnLane s.cp15.ctrl.b adr.address ((s.stored rd).extractLsb' 0 8)) s.ms = .ok () ms) :
    storeByte a rn rd adr s = .next (finishStore rn adr.writeBack (s.withMs ms)) := by
  rw [transferRights_eq] at h
  exact State.afterAccess_ok h _

theorem storeHalf_ok (hal : adr.address.toNat % 2 = 0)
    (h : dataWrite s.ctx false adr.address (halfLanes s.cp15.ctrl.b adr.address)
      (halfOnLanes s.cp15.ctrl.b adr.address ((s.stored rd).extractLsb' 0 16)) s.ms = .ok () ms) :
    storeHalf rn rd adr s = .next (finishStore rn adr.writeBack (s.withMs ms)) :=
  (State.checkStrict_passed _ _ ((halfAligned_iff _).2 hal)).trans (State.afterAccess_ok h _)

end

/-! What the loads make of the word they read. -/

theorem rotatedWord_wordAt (s : State) (a : Word) : rotatedWord a (s.wordAt (wordAddr a)) = wordLoaded s a := rotatedWord_eq a _

theorem byteOfWord_wordAt (s : State) (a : Word) : byteOfWord s.cp15.ctrl.b a (s.wordAt (wordAddr a)) = byteLoaded s a :=
  byteOfWord_readWord _ a _

theorem halfOfWord_wordAt (s : State) {a : Word} (ha : a.toNat % 2 = 0) :
    halfOfWord s.cp15.ctrl.b a (s.wordAt (wordAddr a)) = halfLoaded s a := halfOfWord_readWord _ ha _

theorem StraightToBus.transferRights {s : State} {w : Word} (h : StraightToBus s.ctx w) (a : AddrMode) :
    StraightToBus (Claims.transferRights a s) w := by
  rw [transferRights_eq]
  exact h.transferCtx a

/-- The rights of a load's access do not keep it from the bus. -/
theorem StraightToBus.singleLoad {i : Instr} {s : State} {l : SingleLoad} (hl : Claims.singleLoad i s = some l)
    (h : StraightToBus s.ctx l.adr.address) : StraightToBus l.ctx l.adr.address := by
  cases i with
  | ldrImm | ldrReg | ldrbImm | ldrbReg =>
    cases hl
    exact h.transferRights _
  | ldrh | ldrsh | ldrsb =>
    cases hl
    exact h
  | _ => cases hl

/-- A load of one register that reads the word at its address takes its value out of that word. -/
theorem exec_singleLoad_ok {i : Instr} {s : State} {l : SingleLoad} {ms : MemSys} (h : singleLoad i s = some l)
    (hc : conditionPassed l.cond s.cpu.cpsr = true) (hal : l.allowed = true)
    (hd : dataRead l.ctx false l.adr.address s.ms = .ok (s.wordAt (wordAddr l.adr.address)) ms) :
    exec i s = .next (finishLoad l.word l.base l.dest l.adr.writeBack l.value (s.withMs ms)) := by
  cases i with
  | ldrImm | ldrReg =>
    cases h
    exact (State.conditionally_passed hc).trans
      (loadWord_ok ((wordAllowed_iff _ _).1 hal) hd (rotatedWord_wordAt s _))
  | ldrbImm | ldrbReg =>
    cases h
    exact (State.conditionally_passed hc).trans (loadByte_ok hd (congrArg _ (byteOfWord_wordAt s _)))
  | ldrh | ldrsh =>
    cases h
    obtain ⟨hal, hu⟩ := (halfAllowed_iff _ _).1 hal
    exact (halfTransfer_passed hc hu).trans (loadHalf_ok _ hal hd (congrArg _ (halfOfWord_wordAt s hal)))
  | ldrsb =>
    cases h
    exact (halfTransfer_passed hc ((Bool.not_eq_true' _).mp hal)).trans
      (loadSignedByte_ok hd (congrArg _ (byteOfWord_wordAt s _)))
  | _ => cases h

/-- Settles O27: the read of the word, and the value that the load takes out of it. -/
theorem loadsReadMemory : Obligations.LoadsReadMemory := by
  intro i s l hl hc hal hplain hw
  obtain ⟨halone, hstraight⟩ := (s.plain_iff _).1 hplain
  obtain ⟨ms, hread, hsame, -⟩ := (hstraight.singleLoad hl).reads false hw halone
  exact ⟨ms, hsame, exec_singleLoad_ok hl hc hal hread⟩

/-- A store of one register straight to AHB puts its bytes, and ends as a store ends. -/
theorem exec_singleStore_ok {i : Instr} {s : State} {l : SingleStore} (h : singleStore i s = some l)
    (hc : conditionPassed l.cond s.cpu.cpsr = true) (hal : l.allowed = true) (hs : StraightToBus s.ctx l.adr.address)
    (hw : s.ms.wf = true) :
    ∃ ms, storesBytes l.bytes s.ms ms ∧ exec i s = .next (finishStore l.base l.adr.writeBack (s.withMs ms)) := by
  cases i with
  | strImm c a rn rd | strReg c a rn rd =>
    cases h
    obtain ⟨ms, hwrite, hstores⟩ := (hs.transferRights a).writes false 15#4 (s.stored rd) hw
    rw [lanesBytes_word] at hstores
    exact ⟨ms, hstores, (State.conditionally_passed hc).trans (storeWord_ok ((wordAllowed_iff _ _).1 hal) hwrite)⟩
  | strbImm c a rn rd | strbReg c a rn rd =>
    cases h
    obtain ⟨ms, hwrite, hstores⟩ := (hs.transferRights a).writes false (byteLanes s.cp15.ctrl.b _)
      (byteOnLane s.cp15.ctrl.b _ ((s.stored rd).extractLsb' 0 8)) hw
    rw [lanesBytes_byte] at hstores
    exact ⟨ms, hstores, (State.conditionally_passed hc).trans (storeByte_ok hwrite)⟩
  | strh c a rn rd =>
    cases h
    obtain ⟨hal, hu⟩ := (halfAllowed_iff _ _).1 hal
    obtain ⟨ms, hwrite, hstores⟩ := hs.writes false (halfLanes s.cp15.ctrl.b _)
      (halfOnLanes s.cp15.ctrl.b _ ((s.stored rd).extractLsb' 0 16)) hw
    rw [lanesBytes_half _ hal, BitVec.extractLsb'_extractLsb'_of_le (by decide),
      BitVec.extractLsb'_extractLsb'_of_le (by decide)] at hstores
    exact ⟨ms, hstores, (halfTransfer_passed hc hu).trans (storeHalf_ok hal hwrite)⟩
  | _ => cases h

/-- Settles O29: the bytes that the store's lanes drive, and the end of the store. -/
theorem storesWriteMemory : Obligations.StoresWriteMemory := by
  intro i s l hl hc hal hplain hw
  obtain ⟨-, hstraight⟩ := (s.plain_iff _).1 hplain
  obtain ⟨ms, hstores, hexec⟩ := exec_singleStore_ok hl hc hal hstraight hw
  obtain ⟨hbase, hregs, hpc, -, hcpsr, hspsr, hcore⟩ := finishStore_ends l.base l.adr.writeBack (s.withMs ms)
  exact ⟨ms, _, hstores, hexec, rfl, hcpsr, hspsr, (congrArg State.cp15 hcore).trans rfl, hbase, hregs, hpc⟩

/-! The doubleword transfers. -/

/-- Settles O30: two words read or written straight to AHB. -/
theorem doublewordTransfers : Obligations.DoublewordTransfers := by
  intro c a rn rd off s hc hu heven adr hal hplain
  have straight := (plainWords_iff s _ _).1 hplain
  have hodd : ¬rd.val % 2 = 1 := by omega
  have hal := (doubleAligned_iff adr.address).2 hal
  refine ⟨fun hw => ?_, fun hw => ?_⟩
  · obtain ⟨out, hout, hfailed, hwords, hsame⟩ := readWords_straight hw straight
    have hexec : exec (.ldrd c a rn rd off) s = _ :=
      (pairTransfer_passed hc hu hodd : execLdrd c a rn rd off s = _).trans
        ((State.checkStrict_passed _ _ hal).trans (congrArg (s.afterReads _ _ · _ _) hout))
    refine ⟨out.ms, hsame, ?_⟩
    rw [hexec, State.afterReads_ok hfailed, hwords]
    rfl
  · obtain ⟨out, hout, hfailed, hstores⟩ :=
      writeWords_straight (vs := [s.stored rd, s.stored (nextReg rd)]) hw (by simp) fun b hb => (straight b hb).2
    have hexec : exec (.strd c a rn rd off) s = _ :=
      (pairTransfer_passed hc hu hodd : execStrd c a rn rd off s = _).trans
        ((State.checkStrict_passed _ _ hal).trans (congrArg (s.afterWrites _ _ · _ _) hout))
    exact ⟨out.ms, hstores, hexec.trans (State.afterWrites_ok hfailed _ _)⟩

/-! The swaps. -/

/-- The state that a swap ends in: the bytes are stored, and Rd takes what was read. -/
theorem swap_ends (rd : RegNum) (v : Word) {s : State} {ms : MemSys} {f : Nat → Option Byte} (h : storesBytes f s.ms ms) :
    let t := (s.withMs ms).finish rd v
    storesBytes f s.ms t.ms ∧ registerGets rd v s t ∧ t.cp15 = s.cp15 ∧ t.pins = s.pins ∧ t.cfg = s.cfg := by
  intro t
  have hcore : onlyCore (s.withMs ms) t := (s.withMs ms).finish_onlyCore rd v
  have hms : t.ms = ms := (congrArg State.ms hcore).trans rfl
  exact ⟨hms ▸ h, registerGets_finish rd v rfl, (congrArg State.cp15 hcore).trans rfl, (congrArg State.pins hcore).trans rfl,
    (congrArg State.cfg hcore).trans rfl⟩

/-- Settles O34: the swap's read and write straight to AHB, and the register that takes what was read. -/
theorem swapExchanges : Obligations.SwapExchanges := by
  intro c rn rd rm s hc hplain hw
  obtain ⟨halone, hstraight⟩ := (s.plain_iff _).1 hplain
  refine ⟨fun hal => ?_, ?_⟩
  · obtain ⟨ms, hswap, hstores⟩ := hstraight.swaps 15#4 (s.stored rm) hw halone
    rw [lanesBytes_word] at hstores
    have hexec : exec (.swp c rn rd rm) s = .next ((s.withMs ms).finish rd (s.wordAt (wordAddr (s.reg rn)))) :=
      (State.conditionally_passed hc : execSwp c rn rd rm s = _).trans
        ((State.checkStrict_passed _ _ ((wordAligned_iff _).2 hal)).trans (State.afterAccess_ok hswap _))
    exact ⟨_, hexec, swap_ends rd _ hstores⟩
  · obtain ⟨ms, hswap, hstores⟩ := hstraight.swaps (byteLanes s.cp15.ctrl.b (s.reg rn))
      (byteOnLane s.cp15.ctrl.b (s.reg rn) ((s.stored rm).extractLsb' 0 8)) hw halone
    rw [lanesBytes_byte] at hstores
    have hexec : exec (.swpb c rn rd rm) s = .next ((s.withMs ms).finish rd ((byteLoaded s (s.reg rn)).setWidth 32)) := by
      rw [← byteOfWord_wordAt]
      exact (State.conditionally_passed hc : execSwpb c rn rd rm s = _).trans (State.afterAccess_ok hswap _)
    exact ⟨_, hexec, swap_ends rd _ hstores⟩

end Sys2Proof.Machine
end

section
/-! SUPPORT. LDM and STM (R507): the words straight to AHB, and the registers, the pc and the status register at the end of an
LDM. -/

namespace Sys2Proof.Machine

open Sys2Proof.Claims

/-! The pc in the list. -/

/-- r15 is the last of the list. -/
theorem listedRegs_eq_append {list : BitVec 16} (h : list.getLsbD 15 = true) :
    ∃ front, listedRegs list = front ++ [15] ∧ ∀ r ∈ front, r ≠ 15 := by
  refine ⟨((List.finRange 15).map Fin.castSucc).filter fun r => list.getLsbD r.val, ?_, fun r hr => ?_⟩
  · rw [listedRegs, List.finRange_succ_last, List.filter_append]
    congr 1
    exact List.filter_cons_of_pos h
  · obtain ⟨j, -, rfl⟩ := List.mem_map.1 (List.mem_of_mem_filter hr)
    exact fun he => absurd (congrArg Fin.val he) (Nat.ne_of_lt j.isLt)

theorem mem_loadedPairs {m : BitVec 5} {rn : RegNum} {wb : Bool} {regs : List RegNum} {words : List Word} {s : State}
    {q : RegNum × Word} (h : q ∈ loadedPairs m rn wb regs words s) : q.1 ∈ regs := by
  obtain ⟨p, hp, rfl⟩ := List.mem_map.1 h
  exact (List.of_mem_zip hp).1

theorem find_loadedPairs_none {m : BitVec 5} {rn : RegNum} {wb : Bool} {regs : List RegNum} (words : List Word) (s : State)
    (h : ∀ r ∈ regs, r ≠ 15) : (loadedPairs m rn wb regs words s).find? (fun p => p.1 == 15) = none :=
  List.find?_eq_none.2 fun _ hq he => h _ (mem_loadedPairs hq) (eq_of_beq he)

/-- The word that the pc takes is the last one. -/
theorem find_loadedPairs_15 {m : BitVec 5} {rn : RegNum} {wb : Option Word} {list : BitVec 16} {words : List Word} (s : State)
    (hlen : words.length = (listedRegs list).length) (h : list.getLsbD 15 = true) :
    (loadedPairs m rn wb.isSome (listedRegs list) words s).find? (fun p => p.1 == 15) =
      some (15, loadedValue rn 15 wb (words.getLastD 0#32) s) := by
  obtain ⟨front, hfront, hne⟩ := listedRegs_eq_append h
  rw [hfront, List.length_append, List.length_singleton] at hlen
  obtain rfl | ⟨ws, v, hwords⟩ := List.eq_nil_or_concat words
  · cases hlen
  · rw [List.concat_eq_append] at hwords
    subst hwords
    rw [List.length_append, List.length_singleton] at hlen
    have hzip := List.zip_append (r₁ := [(15 : RegNum)]) (r₂ := [v]) (Nat.succ.inj hlen).symm
    have hlast : isBase m rn 15 s = (rn == 15) := if_pos (.inr rfl)
    rw [loadedPairs, hfront, hzip, List.map_append, List.find?_append]
    have hnone := find_loadedPairs_none (m := m) (rn := rn) (wb := wb.isSome) ws s hne
    rw [loadedPairs] at hnone
    rw [hnone]
    simp [hlast, loadedValue]

/-! The registers loaded. -/

/-- A listed register holds its word after the loads, the listed registers being different ones. -/
theorem loadRegs_get_of_mem {m : BitVec 5} {ps : List (RegNum × Word)} {q : RegNum × Word} (s : State)
    (hnodup : (ps.map Prod.fst).Nodup) (hq : q ∈ ps) (h15 : q.1 ≠ 15) :
    (loadRegs m ps s).cpu.regs.get (physReg m q.1) = q.2 := by
  induction ps generalizing s with
  | nil => cases hq
  | cons p ps ih =>
    rw [List.map_cons, List.nodup_cons] at hnodup
    obtain ⟨hfresh, hnodup⟩ := hnodup
    rcases List.mem_cons.1 hq with rfl | hq
    · rw [loadRegs, if_neg h15]
      rcases loadRegs_get m ps (s.setBankReg m q.1 q.2) (physReg m q.1) with h | ⟨x, hx, hx15, hsame, -⟩
      · rw [h, State.setBankReg_get, if_pos rfl]
      · exact absurd (physReg_injective h15 hx15 hsame ▸ List.mem_map_of_mem hx) hfresh
    · exact ih _ hnodup hq

/-- The state in which an LDM has written the base and the listed registers but r15. -/
def State.listLoaded (s : State) (m : BitVec 5) (rn : RegNum) (wb : Option Word) (regs : List RegNum) (words : List Word) :
    State := (loadRegs m (loadedPairs m rn wb.isSome regs words s) (s.writeBase rn wb)).spend 1

section
variable (s : State) (m : BitVec 5) (rn : RegNum) (wb : Option Word) (regs : List RegNum) (words : List Word)

theorem State.listLoaded_eq :
    s.listLoaded m rn wb regs words = { (s.writeBase rn wb).spend 1 with
      cpu := { (s.writeBase rn wb).cpu with regs := (s.listLoaded m rn wb regs words).cpu.regs } } := by
  rw [show s.listLoaded m rn wb regs words = (loadRegs m _ _).spend 1 from rfl, loadRegs_eq]
  rfl

theorem State.listLoaded_pc : (s.listLoaded m rn wb regs words).cpu.pc = (s.writeBase rn wb).cpu.pc := by
  rw [State.listLoaded_eq]

theorem State.listLoaded_cpsr : (s.listLoaded m rn wb regs words).cpu.cpsr = s.cpu.cpsr := by
  rw [State.listLoaded_eq]
  exact s.writeBase_cpsr rn wb

theorem State.listLoaded_spsr : (s.listLoaded m rn wb regs words).cpu.spsr = s.cpu.spsr := by
  rw [State.listLoaded_eq]
  exact s.writeBase_spsr rn wb

theorem State.listLoaded_mode : (s.listLoaded m rn wb regs words).mode = s.mode :=
  congrArg modeOf (s.listLoaded_cpsr m rn wb regs words)

theorem State.listLoaded_frame : coreAndDraws s (s.listLoaded m rn wb regs words) := by
  have hbase : coreAndDraws s ((s.writeBase rn wb).spend 1) := coreAndDraws_of_onlyCore (s.writeBase_onlyCore rn wb) 1
  unfold coreAndDraws at hbase ⊢
  rw [State.listLoaded_eq, hbase]

theorem State.listLoaded_cp15 : (s.listLoaded m rn wb regs words).cp15 = s.cp15 :=
  (congrArg State.cp15 (s.listLoaded_frame m rn wb regs words)).trans rfl

/-- A register is as the base's write leaves it, or a listed one. -/
theorem State.listLoaded_get (p : Fin 30) :
    (s.listLoaded m rn wb regs words).cpu.regs.get p = (s.writeBase rn wb).cpu.regs.get p ∨
      ∃ r ∈ regs, r ≠ 15 ∧ p = physReg m r :=
  (loadRegs_get m _ (s.writeBase rn wb) p).imp id fun ⟨q, hq, h15, hp, _⟩ => ⟨q.1, mem_loadedPairs hq, h15, hp⟩

end

/-- The registers at the end of an LDM (R507). -/
structure ListLoaded (m : BitVec 5) (rn : RegNum) (wb : Option Word) (regs : List RegNum) (words : List Word) (s t : State) :
    Prop where
  listed : ∀ n (h : n < regs.length) (g : n < words.length), regs[n] ≠ 15 →
    (wb = none ∨ rn = 15 ∨ physReg m regs[n] ≠ physReg s.mode rn) → t.bankReg m regs[n] = words[n]
  base : ∀ b, wb = some b → rn ≠ 15 → (∀ r ∈ regs, r ≠ 15 → physReg m r ≠ physReg s.mode rn) → t.bankReg s.mode rn = b
  others : sameRegsBut ((regs.filter (· ≠ 15)).map (physReg m) ++ baseWritten rn wb s) s t

/-- The written base among the listed registers takes a free value, any other listed register its word. -/
theorem loadedPairs_getElem {m : BitVec 5} {rn : RegNum} {wb : Option Word} {regs : List RegNum} {words : List Word} {s : State}
    {n : Nat} (h : n < regs.length) (g : n < words.length) (h15 : regs[n] ≠ 15)
    (hb : wb = none ∨ rn = 15 ∨ physReg m regs[n] ≠ physReg s.mode rn) :
    (regs[n], words[n]) ∈ loadedPairs m rn wb.isSome regs words s := by
  have hclash : (wb.isSome && isBase m rn regs[n] s) = false := by
    rcases hb with rfl | rfl | hb
    · rfl
    · simp [isBase, Ne.symm h15]
    · by_cases hn : rn = 15
      · simp [isBase, hn, Ne.symm h15]
      · simp [isBase, hn, h15, hb]
  refine List.mem_map.2 ⟨(regs[n], words[n]), mem_zip_iff_getElem.2 ⟨n, h, g, rfl⟩, ?_⟩
  rw [hclash]
  rfl

theorem State.listLoaded_loaded {m : BitVec 5} {rn : RegNum} {wb : Option Word} {regs : List RegNum} {words : List Word}
    {s t : State} (hlen : words.length = regs.length) (hnodup : regs.Nodup)
    (ht : t.cpu.regs = (s.listLoaded m rn wb regs words).cpu.regs) : ListLoaded m rn wb regs words s t := by
  have hkeys : ((loadedPairs m rn wb.isSome regs words s).map Prod.fst) = regs := by
    rw [loadedPairs, List.map_map]
    exact List.map_fst_zip (Nat.le_of_eq hlen.symm)
  refine ⟨fun n h g h15 hb => ?_, ?_, fun p hp => ?_⟩
  · rw [State.bankReg, ht]
    exact loadRegs_get_of_mem (s.writeBase rn wb) (hkeys.symm ▸ hnodup) (loadedPairs_getElem h g h15 hb) h15
  · rintro b rfl hn hapart
    rw [State.bankReg, ht]
    rcases s.listLoaded_get m rn (some b) regs words (physReg s.mode rn) with h | ⟨r, hr, h15, he⟩
    · exact h.trans (s.setReg_bankReg b hn)
    · exact absurd he.symm (hapart r hr h15)
  · obtain ⟨hlist, hbase⟩ := not_or.1 (mt List.mem_append.2 hp)
    rw [ht]
    rcases s.listLoaded_get m rn wb regs words p with h | ⟨r, hr, h15, rfl⟩
    · exact h.trans (s.writeBase_sameRegsBut rn wb p hbase)
    · exact absurd (List.mem_map_of_mem (List.mem_filter.2 ⟨hr, decide_eq_true h15⟩)) hlist

/-! The end of an LDM. -/

theorem coreAndDraws_trans_onlyCore {s t u : State} (h : coreAndDraws s t) (g : onlyCore t u) : coreAndDraws s u := by
  unfold coreAndDraws onlyCore at *
  rw [g, h]

section
variable (rn : RegNum) (wb : Option Word) {list : BitVec 16} {words : List Word} {s : State}
  (hlen : words.length = (listedRegs list).length)

/-- Without r15 in the list the pc goes on; the caret names the User bank. -/
theorem finishMultiple_advances (caret : Bool) (words : List Word) (s : State) (h : list.getLsbD 15 = false) :
    finishMultiple caret rn wb (listedRegs list) words s =
      .next ((s.listLoaded (if caret then 0b10000#5 else s.mode) rn wb (listedRegs list) words).advanceAfter rn wb) := by
  have hne : ∀ r ∈ listedRegs list, r ≠ 15 := by
    rintro r hr rfl
    exact Bool.false_ne_true (h.symm.trans ((mem_listedRegs list 15).1 hr))
  have hm := listMode_ldm caret list s
  simp only [h, Bool.not_false, Bool.and_true] at hm
  simp only [finishMultiple, hm, find_loadedPairs_none words s hne]
  rfl

include hlen

/-- With r15 in the list and no caret the pc takes its word as a load to the pc (R505). -/
theorem finishMultiple_loads (h : list.getLsbD 15 = true) :
    finishMultiple false rn wb (listedRegs list) words s =
      .next ((s.listLoaded s.mode rn wb (listedRegs list) words).loadPc (loadedValue rn 15 wb (words.getLastD 0#32) s)) := by
  have hm := listMode_ldm false list s
  simp only [Bool.false_and, Bool.false_eq_true, if_false] at hm
  simp only [finishMultiple, Bool.false_and, hm, find_loadedPairs_15 s hlen h]
  rfl

/-- With r15 in the list and the caret an LDM returns from an exception (R513). -/
theorem finishMultiple_returns (h : list.getLsbD 15 = true) :
    finishMultiple true rn wb (listedRegs list) words s =
      returnFromException (loadedValue rn 15 wb (words.getLastD 0#32) s)
        (s.listLoaded s.mode rn wb (listedRegs list) words) := by
  have hm := listMode_ldm true list s
  have hreturns : (listedRegs list).contains 15 = true := List.contains_iff_mem.2 ((mem_listedRegs list 15).2 h)
  simp only [h, hreturns, Bool.true_and, Bool.not_true, Bool.false_eq_true, if_false] at hm
  simp only [finishMultiple, Bool.true_and, hreturns, hm, find_loadedPairs_15 s hlen h, if_true]
  rfl

end

/-- Settles O32: the registers loaded, and the three ways in which an LDM ends. -/
theorem loadMultipleWritesRegisters : Obligations.LoadMultipleWritesRegisters := by
  intro caret rn wb list words s hlen toPc m v
  have loaded (m : BitVec 5) {t : State} (ht : t.cpu.regs = (s.listLoaded m rn wb (listedRegs list) words).cpu.regs) :=
    State.listLoaded_loaded hlen (listedRegs_pairwise list).nodup ht
  have hspsr (m : BitVec 5) := s.listLoaded_spsr m rn wb (listedRegs list) words
  have hcpsr (m : BitVec 5) := s.listLoaded_cpsr m rn wb (listedRegs list) words
  have hframe (m : BitVec 5) := s.listLoaded_frame m rn wb (listedRegs list) words
  have hcp15 := s.listLoaded_cp15 s.mode rn wb (listedRegs list) words
  have hmode := congrArg spsrIndex (s.listLoaded_mode s.mode rn wb (listedRegs list) words)
  refine ⟨fun hgoes => ?_, ?_, ?_⟩
  · cases hpc : toPc with
    | false =>
      have hm : m = if caret then 0b10000#5 else s.mode := by simp [m, hpc]
      have hafter := State.advanceAfter_cpu (s.listLoaded m rn wb (listedRegs list) words) rn wb
      have pc := State.baseThenAdvance_pc (s.listLoaded_pc m rn wb (listedRegs list) words)
      obtain ⟨hlisted, hbase, hothers⟩ := loaded m ((congrArg Cpu.regs hafter).trans rfl)
      refine ⟨_, hm ▸ finishMultiple_advances rn wb caret words s hpc, hlisted, hbase, hothers,
        fun _ => ⟨(congrArg Cpu.cpsr hafter).trans (hcpsr m), fun hb => ?_, ?_⟩, nofun, nofun,
        (congrArg Cpu.spsr hafter).trans (hspsr m), coreAndDraws_trans_onlyCore (hframe m) (State.advanceAfter_onlyCore _ rn wb)⟩
      · rw [pc]
        rcases hb with rfl | hb
        · exact ite_self _
        · exact if_neg hb
      · rintro b rfl h15
        exact pc.trans (if_pos h15)
    | true =>
      have hm : m = s.mode := by simp [m, hpc]
      rw [hm]
      cases caret with
      | false =>
        obtain ⟨hlisted, hbase, hothers⟩ := loaded s.mode (State.loadPc_regs _ _)
        refine ⟨_, finishMultiple_loads rn wb hlen hpc, hlisted, hbase, hothers, nofun,
          fun _ _ hb => ⟨fun hl4 => ?_, fun hl4 => ?_⟩, nofun, (State.loadPc_spsr _ _).trans (hspsr s.mode),
          coreAndDraws_trans_onlyCore (hframe s.mode) (State.loadPc_onlyCore _ _)⟩
        · rw [loadedValue_eq _ _ hb, ← hcpsr s.mode]
          exact State.loadPc_interworks v (hcp15 ▸ hl4)
        · rw [loadedValue_eq _ _ hb, State.loadPc_branches _ (hcp15 ▸ hl4)]
          exact ⟨rfl, hcpsr s.mode⟩
      | true =>
        obtain ⟨n, hn, hlegal⟩ := (hgoes.resolve_left nofun).resolve_left (by simp [hpc])
        obtain ⟨hlisted, hbase, hothers⟩ := loaded s.mode rfl
        have hreturn := returnFromException_legal (loadedValue rn 15 wb v s) (hmode.trans hn) (by rw [hspsr]; exact hlegal)
        refine ⟨_, (finishMultiple_returns rn wb hlen hpc).trans hreturn, hlisted, hbase, hothers, nofun, nofun,
          fun _ _ k hk => ?_, hspsr s.mode, coreAndDraws_trans_onlyCore (hframe s.mode) rfl⟩
        obtain rfl : n = k := Option.some.inj (hn.symm.trans hk)
        rw [hspsr]
        refine ⟨rfl, fun hb ht hj => ?_⟩
        rw [loadedValue_eq _ _ hb]
        exact returnTarget_arm v ht hj
  · rintro rfl hpc hn
    exact (finishMultiple_returns rn wb hlen hpc).trans (returnFromException_none _ (hmode.trans hn))
  · rintro n rfl hpc hn hl
    exact (finishMultiple_returns rn wb hlen hpc).trans
      (returnFromException_illegal _ (hmode.trans hn) (by rw [hspsr]; exact hl))

end Sys2Proof.Machine
end

section
/-! SUPPORT. The words of an LDM and of an STM, straight to AHB (R507). -/

namespace Sys2Proof.Machine

open Sys2Proof.Claims

/-- Words read straight from AHB are answered, whatever form memory has. -/
theorem readWords_answered {k : Ctx} {as : List Word} (ms : MemSys) (h : ∀ a ∈ as, StraightToBus k a) :
    ∃ out, readWords k as ms = .ok out ∧ out.failed = none ∧ out.words.length = as.length := by
  induction as generalizing ms with
  | nil => exact ⟨_, rfl, rfl, rfl⟩
  | cons a as ih =>
    obtain ⟨hstraight, hrest⟩ := List.forall_mem_cons.1 h
    obtain ⟨w, ms', hread⟩ := hstraight.answers false (ms := ms)
    obtain ⟨out, hout, hfailed, hlen⟩ := ih ms' hrest
    exact ⟨{ out with words := w :: out.words }, by simp only [readWords, hread, hout], hfailed, congrArg (· + 1) hlen⟩

section
variable {c : Cond} {a : AddrMode} {rn : RegNum} {s : State} (caret : Bool) (hc : conditionPassed c s.cpu.cpsr = true)
include hc

/-- An LDM of no register writes its base alone (assumption 29). -/
theorem exec_ldm_empty :
    exec (.ldm c a caret rn 0#16) s =
      .next (finishStore rn (if a.w then some (multipleBase a (s.reg rn) (listedRegs 0#16).length) else none) s) :=
  (State.conditionally_passed hc : execLdm c a caret rn 0#16 s = _).trans (if_pos rfl)

theorem exec_stm_empty :
    exec (.stm c a caret rn 0#16) s =
      .next (finishStore rn (if a.w then some (multipleBase a (s.reg rn) (listedRegs 0#16).length) else none) s) :=
  (State.conditionally_passed hc : execStm c a caret rn 0#16 s = _).trans (if_pos rfl)

variable {list : BitVec 16} (hl : list ≠ 0#16)
  (hal : s.cp15.ctrl.a = false ∨ (multipleStart a (s.reg rn) (listedRegs list).length).toNat % 4 = 0)
include hl hal

/-- An LDM whose words are all answered ends with them. -/
theorem exec_ldm_ok {out : ReadMany}
    (hout : readWords s.ctx (wordsFrom (multipleStart a (s.reg rn) (listedRegs list).length &&& 0xFFFFFFFC#32)
      (listedRegs list).length) s.ms = .ok out) (hfailed : out.failed = none) :
    exec (.ldm c a caret rn list) s =
      finishMultiple caret rn (if a.w then some (multipleBase a (s.reg rn) (listedRegs list).length) else none)
        (listedRegs list) out.words (s.withMs out.ms) := by
  have hexec : exec (.ldm c a caret rn list) s = _ :=
    ((State.conditionally_passed hc : execLdm c a caret rn list s = _).trans (if_neg (listedRegs_ne_nil hl))).trans
      ((State.checkWord_passed _ hal).trans (congrArg (s.afterReads _ _ · _ _) hout))
  exact hexec.trans (State.afterReads_ok hfailed _ _)

/-- An STM whose words are all written ends. -/
theorem exec_stm_ok {out : WriteMany}
    (hout : writeWords s.ctx ((wordsFrom (multipleStart a (s.reg rn) (listedRegs list).length &&& 0xFFFFFFFC#32)
      (listedRegs list).length).zip (storedWords caret (listedRegs list) s)) s.ms = .ok out) (hfailed : out.failed = none) :
    exec (.stm c a caret rn list) s =
      .next (finishStore rn (if a.w then some (multipleBase a (s.reg rn) (listedRegs list).length) else none)
        (s.withMs out.ms)) := by
  have hexec : exec (.stm c a caret rn list) s = _ :=
    ((State.conditionally_passed hc : execStm c a caret rn list s = _).trans (if_neg (listedRegs_ne_nil hl))).trans
      ((State.checkWord_passed _ hal).trans (congrArg (s.afterWrites _ _ · _ _) hout))
  exact hexec.trans (State.afterWrites_ok hfailed _ _)

end

/-- Settles O31: the words read straight from AHB, and the end of the LDM, which goes on by loadMultipleWritesRegisters. -/
theorem loadMultipleReadsMemory : Obligations.LoadMultipleReadsMemory := by
  intro c a caret rn list s hc regs start wb
  refine ⟨?_, fun hl hal hplain => ?_⟩
  · rintro rfl
    exact exec_ldm_empty caret hc
  have straight := (plainWords_iff s _ _).1 hplain
  refine ⟨fun hw => ?_, fun hgoes => ?_⟩
  · obtain ⟨out, hout, hfailed, hwords, hsame⟩ := readWords_straight hw straight
    rw [← wordsAt_eq_map] at hwords
    exact ⟨out.ms, hsame, hwords ▸ exec_ldm_ok caret hc hl hal hout hfailed⟩
  · obtain ⟨out, hout, hfailed, hlen⟩ := readWords_answered s.ms fun b hb => (straight b hb).2
    rw [length_wordsFrom] at hlen
    obtain ⟨hends, -, -⟩ := loadMultipleWritesRegisters caret rn wb list out.words (s.withMs out.ms) hlen
    obtain ⟨t, ht, -⟩ := hends hgoes
    exact ⟨t, (exec_ldm_ok caret hc hl hal hout hfailed).trans ht⟩

theorem length_listedRegs_le (list : BitVec 16) : (listedRegs list).length ≤ 16 :=
  (List.length_filter_le ..).trans_eq List.length_finRange

/-- Settles O33: the words written straight to AHB, those of the listed registers. -/
theorem storeMultipleWritesMemory : Obligations.StoreMultipleWritesMemory := by
  intro c a caret rn list s hc hw regs start wb values hal hplain
  by_cases hl : list = 0#16
  · subst hl
    exact ⟨s.ms, sameBytes_refl s.ms, exec_stm_empty caret hc⟩
  have straight := (plainWords_iff s _ _).1 hplain
  have hvalues : storedWords caret (listedRegs list) s = values := by rw [storedWords, listMode_stm]
  have hlen : values.length = regs.length := List.length_map _
  have hbound : regs.length ≤ 16 := length_listedRegs_le list
  rw [← hlen] at straight
  obtain ⟨out, hout, hfailed, hstores⟩ := writeWords_straight hw (by omega) fun b hb => (straight b hb).2
  rw [hlen, ← hvalues] at hout
  exact ⟨out.ms, hstores, exec_stm_ok caret hc hl (hal.imp_right (·.resolve_right hl)) hout hfailed⟩

end Sys2Proof.Machine
end

section
/-! SUPPORT. The step at a boundary without inputs (R516, R550, R371): the interrupts, the Prefetch Abort and BKPT (R537, R545). -/

namespace Sys2Proof.Machine

open Sys2Proof.Claims

/-! The step down to the instruction boundary. -/

theorem State.awake_eq {s : State} (h : s.standby = false) : s.awake = s := by
  rw [State.awake, ← h]

/-- Without inputs and with debug disabled a step begins after the debugger's turn. -/
theorem step_without_inputs {s : State} (hin : s.inputs = []) (hdbg : s.cfg.dbgen = false) : step s = stepCore s.cleared := by
  have hclash : itcmClash s = false := by simp [itcmClash, hin]
  have hdma : s.dmaChecked = s := by simp [State.dmaChecked, hin]
  have habsorb : s.absorb = s := by
    rw [State.absorb, hin]
  have hscan : scanPhase s.cleared = .next s.cleared := if_neg (by simp [hdbg])
  simp only [step, stepAll, hclash, Bool.false_eq_true, if_false, hdma, habsorb, stepInside, hscan]

/-- Awake, and without a trace stall, the boundary follows. -/
theorem stepCore_awake {s : State} (hdbg : s.cfg.dbgen = false) (hstandby : s.standby = false) (hstall : traceStall s = false) :
    stepCore s = runBoundary s := by
  simp only [stepCore, hdbg, hstandby, State.awake_eq hstandby, hstall, Bool.false_and, Bool.false_eq_true, if_false]

/-- A quiet boundary runs an instruction. -/
theorem State.quiet.step_eq {s : State} (h : s.quiet) : step s = runInstruction s.cleared := by
  obtain ⟨hin, hdbg, hstandby, hstall, hfiq, hirq, ht, hj⟩ := h
  have hcore : stepCore s.cleared = runBoundary s.cleared := stepCore_awake hdbg hstandby hstall
  have hnofiq : ¬(s.cleared.pins.nfiq = false ∧ fiqMasked s.cleared.cpu.cpsr = false) := by simp [hfiq]
  have hnoirq : ¬(s.cleared.pins.nirq = false ∧ irqMasked s.cleared.cpu.cpsr = false) := by simp [hirq]
  have hthumb : ¬thumbBit s.cleared.cpu.cpsr = true := by simp [ht]
  have hjazelle : ¬jazelleBit s.cleared.cpu.cpsr = true := by simp [hj]
  rw [step_without_inputs hin hdbg, hcore, runBoundary, if_neg hnofiq, if_neg hnoirq, if_neg hthumb, if_neg hjazelle]

/-! The interrupts. -/

/-- What an exception entry leaves to its handler, by the mode entered (R531, R532). -/
theorem takeException_enters (e : Exception) (link : Word) (s : State) :
    (takeException e link s).bankReg (exceptionMode e) 14 = link ∧
      (takeException e link s).cpu.spsr.get (exceptionSpsr e) = s.cpu.cpsr ∧
      (takeException e link s).mode = exceptionMode e ∧ irqMasked (takeException e link s).cpu.cpsr = true ∧
      fiqMasked (takeException e link s).cpu.cpsr = (fiqMasked s.cpu.cpsr || e == .fiq) :=
  ⟨(takeException_get ..).trans (if_pos rfl), (takeException_spsr_get ..).trans (if_pos rfl), takeException_mode e link s,
    irqMasked_exceptionCpsr e _, fiqMasked_exceptionCpsr e _⟩

/-- Settles O7: the order in which the boundary looks at the lines, and the standby that a LOW line ends. -/
theorem stepTakesInterrupts : Obligations.StepTakesInterrupts := by
  refine ⟨fun s hin hdbg hstandby hetm => ?_, fun s hin hdbg hstandby => ⟨fun hirq hfiq => ?_, fun hline => ?_⟩⟩
  · have hstall : traceStall s.cleared = false := by simp [traceStall, hetm]
    have hstep : step s = runBoundary s.cleared :=
      (step_without_inputs hin hdbg).trans (stepCore_awake hdbg hstandby hstall)
    refine ⟨fun hline hmask => ?_, fun hline hmask hnofiq => ?_⟩
    · obtain ⟨hlink, hsaved, hmode, hirq, hfiq⟩ := takeException_enters .fiq (s.cpu.pc + 4#32) s.cleared.abandoned
      exact ⟨_, hstep.trans (if_pos ⟨hline, hmask⟩), rfl, hlink, hsaved, hmode, hirq, hfiq.trans (Bool.or_true _)⟩
    · obtain ⟨hlink, hsaved, hmode, hirq, hfiq⟩ := takeException_enters .irq (s.cpu.pc + 4#32) s.cleared.abandoned
      have hother : ¬(s.pins.nfiq = false ∧ fiqMasked s.cpu.cpsr = false) := by
        rcases hnofiq with h | h <;> simp [h]
      exact ⟨_, hstep.trans ((if_neg hother).trans (if_pos ⟨hline, hmask⟩)), rfl, hlink, hsaved, hmode, hirq,
        hfiq.trans (Bool.or_false _)⟩
  · rw [step_without_inputs hin hdbg]
    simp only [stepCore, State.cleared_cfg, State.cleared_standby, State.cleared_pins, hdbg, hstandby, hirq, hfiq,
      Bool.false_and, Bool.true_and, Bool.false_eq_true, if_false, if_true]
  · have hlow : (s.pins.nirq && s.pins.nfiq) = false := by
      rcases hline with h | h <;> simp [h]
    rw [step_without_inputs hin hdbg, step_without_inputs (s := { s with standby := false }) hin hdbg]
    simp only [stepCore, State.cleared_cfg, State.cleared_standby, State.cleared_pins, hdbg, hstandby, hlow,
      Bool.false_and, Bool.true_and, Bool.false_eq_true, if_false]
    rfl

/-! The Prefetch Abort and BKPT. -/

/-- What showed for one step does not change what a fetch brings. -/
theorem fetchedResult_cleared (s : State) : fetchedResult s.cleared = fetchedResult s := rfl

theorem runInstruction_abort {s : State} {a : AbortInfo} (h : fetchedResult s = .abort a) :
    runInstruction s = .next (takePrefetchAbort a s.prepared) := by
  simp only [runInstruction, h]

theorem runInstruction_word {s : State} {w : Word} (h : fetchedResult s = .word w) :
    runInstruction s = afterInstruction s (currentSlot s.ticked).1 (runWord w s.prepared) := by
  simp only [runInstruction, h]

theorem afterInstruction_nonseq {before t : State} {slot : Slot} (h : t.nonseq = true) :
    afterInstruction before slot (.next t) = .next t := if_pos h

/-- A field on which a mask is all ones. -/
theorem field_of_and_eq {w mask v : Word} {a n : Nat} (h : w &&& mask = v) (hm : field mask a n = BitVec.allOnes n) :
    field w a n = field v a n := by
  rw [← h, field, field, BitVec.extractLsb'_and, show mask.extractLsb' a n = _ from hm, BitVec.and_allOnes]

/-- No row of the table matches a BKPT word (assumption 53). -/
theorem decode_breakpoint {w : Word} (h : w &&& 0xFFF000F0#32 = 0xE1200070#32) : decode w = none := by
  have hcond : field w 28 4 = Cond.al.bits := field_of_and_eq h (by decide)
  have hclass : field w 25 3 = 0#3 := field_of_and_eq h (by decide)
  have hlow : field w 4 4 = 7#4 := field_of_and_eq h (by decide)
  have bit {j : Nat} (hj : j < 4) : flag w (4 + j) = (7#4).getLsbD j := by
    rw [← hlow, field, BitVec.getLsbD_extractLsb', decide_eq_true hj, Bool.true_and, flag]
  have h4 : flag w 4 = true := bit (j := 0) (by decide)
  have h6 : flag w 6 = true := bit (j := 2) (by decide)
  have h7 : flag w 7 = false := bit (j := 3) (by decide)
  have hne {v : BitVec 24} (hv : v.getLsbD 2 = false) : ¬field w 4 24 = v := by
    rintro rfl
    rw [field, BitVec.getLsbD_extractLsb', decide_eq_true (by decide), Bool.true_and] at hv
    exact Bool.false_ne_true (hv.symm.trans h6)
  rw [decode_conditional hcond hclass, classDecoder_zero, decodeClass0, if_pos h4, if_neg (by simp [h7]), decodeBranchExchange,
    if_neg (hne rfl), if_neg (hne rfl)]

/-- With debug disabled BKPT takes the Prefetch Abort (R537). -/
theorem runWord_breakpoint {w : Word} {s : State} (h : w &&& 0xFFF000F0#32 = 0xE1200070#32) (hdbg : s.cfg.dbgen = false) :
    runWord w s = .next (takeException .prefetchAbort (s.cpu.pc + 4#32) s) := by
  have hb : isBreakpoint w = true := beq_iff_eq.2 h
  simp only [runWord, decode_breakpoint h, hb, runBreakpoint, hdbg, Bool.false_eq_true, if_false, if_true]

/-- Settles O6: the Prefetch Abort of a fetch, and that of BKPT. -/
theorem stepTakesPrefetchAbort : Obligations.StepTakesPrefetchAbort := by
  refine ⟨fun s a hq hf => ?_, fun s w hq hf hw => ?_⟩
  · have hstep : step s = .next (takePrefetchAbort a s.cleared.prepared) :=
      hq.step_eq.trans (runInstruction_abort ((fetchedResult_cleared s).trans hf))
    obtain ⟨hlink, hsaved, hmode, -, -⟩ := takeException_enters .prefetchAbort (s.cleared.prepared.cpu.pc + 4#32)
      { s.cleared.prepared with
        cp15 := { s.cleared.prepared.cp15 with ifsr := faultStatusWord a (s.cleared.prepared.drawn 0) }
        ms := s.cleared.prepared.ms.spend 1 }
    exact ⟨_, hstep, rfl, hlink, hsaved, hmode, rfl, faultStatusWord_status a _, fun d hd => faultStatusWord_domain hd _⟩
  · obtain ⟨hin, hdbg, hrest⟩ := hq
    have hstep := (State.quiet.step_eq ⟨hin, hdbg, hrest⟩).trans (runInstruction_word ((fetchedResult_cleared s).trans hf))
    rw [runWord_breakpoint (s := s.cleared.prepared) hw hdbg, afterInstruction_nonseq rfl] at hstep
    obtain ⟨hlink, hsaved, hmode, -, -⟩ :=
      takeException_enters .prefetchAbort (s.cleared.prepared.cpu.pc + 4#32) s.cleared.prepared
    exact ⟨_, hstep, rfl, hlink, hsaved, hmode, rfl⟩

end Sys2Proof.Machine
end

section
/-! SUPPORT. What a step's fetches leave of memory (R18, R62, R143), and the instruction that a step runs (R516). -/

namespace Sys2Proof.Machine

open Sys2Proof.Claims

/-! What fetching keeps. -/

/-- What fetches, and what may come before each, keep of the memory on AHB: where no line is dirty, every byte that no other agent
is to write reads the same, pending writes included. -/
structure KeepsBus (a b : MemSys) : Prop where
  wf : a.wf = true → b.wf = true
  dcache : (∀ l ∈ a.dcache, l.dirty = false) → b.dcache = a.dcache
  outside : b.outside.flatten.Sublist a.outside.flatten
  bytes : (∀ l ∈ a.dcache, l.dirty = false) → a.wf = true → ∀ cell, a.othersWrite false cell = false →
    b.settledMem.read cell = a.settledMem.read cell

theorem KeepsBus.refl (ms : MemSys) : KeepsBus ms ms := ⟨id, fun _ => rfl, List.Sublist.refl _, fun _ _ _ _ => rfl⟩

theorem KeepsBus.trans {a b c : MemSys} (h : KeepsBus a b) (g : KeepsBus b c) : KeepsBus a c where
  wf ha := g.wf (h.wf ha)
  dcache hl := (g.dcache (h.dcache hl ▸ hl)).trans (h.dcache hl)
  outside := g.outside.trans h.outside
  bytes hl ha cell hc := (g.bytes (h.dcache hl ▸ hl) (h.wf ha) cell (MemSys.othersWrite_of_sublist h.outside hc)).trans
    (h.bytes hl ha cell hc)

theorem TranslationStep.keepsBus {a b : MemSys} (h : TranslationStep a b) : KeepsBus a b :=
  have ⟨hk, ho⟩ := h
  ⟨hk.wf, hk.dcache, ho, hk.bus⟩

/-- The prefetch buffer, the ICache and the values drawn are no part of what it says. -/
theorem KeepsBus.fetched {a b : MemSys} (h : KeepsBus a b) (prefetch : List (Word × Word)) (icache : List CacheLine)
    (draws : Nat) : KeepsBus a { b with prefetch := prefetch, icache := icache, draws := draws } :=
  ⟨h.wf, h.dcache, h.outside, h.bytes⟩

/-! The fetches. -/

theorem fetchICache_keepsBus (k : Ctx) (mva pa : Word) (ms : MemSys) : KeepsBus ms (fetchICache k mva pa ms).ms := by
  simp only [fetchICache]
  split
  · exact KeepsBus.refl ms
  · split
    · exact (KeepsBus.refl ms).fetched _ _ _
    · simp only [fillICache]
      split <;> exact (KeepsBus.refl ms).fetched _ _ _

theorem fetchRouted_keepsBus (k : Ctx) (mmuOn : Bool) (mva : Word) (t : Translated) (ms : MemSys) :
    KeepsBus ms (fetchRouted k mmuOn mva t ms).ms := by
  unfold fetchRouted
  cases fetchRoute k (fetchType k mmuOn t) t.pa with
  | itcm => exact KeepsBus.refl ms
  | cache => exact fetchICache_keepsBus k mva t.pa ms
  | bus | dtcm => exact (KeepsBus.refl ms).fetched _ _ _

theorem afterRefusal_keepsBus (k : Ctx) (ms : MemSys) : KeepsBus ms (afterRefusal k ms) := by
  rw [afterRefusal]
  split
  · exact (((TranslationStep.churn k ms).trans (.spend 1 _)).trans (.meanwhile k _)).keepsBus
  · exact KeepsBus.refl ms

theorem fetchMapped_keepsBus (k : Ctx) (mva : Word) (ms : MemSys) : KeepsBus ms (fetchMapped k mva ms).ms := by
  have htranslate := translate_translationStep k .fetch mva ms
  simp only [fetchMapped]
  split
  · next t ms' heq =>
    rw [heq] at htranslate
    exact (TranslationStep.keepsBus htranslate).trans (fetchRouted_keepsBus k true mva _ ms')
  · next heq =>
    rw [heq] at htranslate
    exact TranslationStep.keepsBus htranslate
  · exact afterRefusal_keepsBus k ms

theorem fetchAt_keepsBus (k : Ctx) (mmuOn : Bool) (mva : Word) (ms : MemSys) : KeepsBus ms (fetchAt k mmuOn mva ms).ms := by
  rw [fetchAt]
  split
  · exact fetchMapped_keepsBus k mva ms
  · exact fetchRouted_keepsBus k false mva _ ms

theorem fetchSlot_keepsBus (k : Ctx) (va : Word) (ms : MemSys) : KeepsBus ms (fetchSlot k va ms).2 :=
  (TranslationStep.meanwhile k ms).keepsBus.trans (fetchAt_keepsBus k _ _ _)

theorem fillPipe_keepsBus (k : Ctx) (n : Nat) (va : Word) (slots : List Slot) (ms : MemSys) :
    KeepsBus ms (fillPipe k n va slots ms).2 := by
  induction n generalizing va slots ms with
  | zero =>
    simp only [fillPipe]
    exact KeepsBus.refl ms
  | succ n ih =>
    cases slots with
    | nil =>
      simp only [fillPipe]
      exact (fetchSlot_keepsBus k va ms).trans (ih ..)
    | cons slot rest =>
      simp only [fillPipe]
      split
      · exact ih ..
      · exact (fetchSlot_keepsBus k va ms).trans (ih ..)

theorem freshSlot_keepsBus (s : State) : KeepsBus s.ms (freshSlot s).2 := by
  rw [freshSlot]
  split
  · exact ((KeepsBus.refl s.ms).fetched [] s.ms.icache s.ms.draws).trans (fetchSlot_keepsBus ..)
  · exact fetchSlot_keepsBus ..

theorem pipelinedSlot_keepsBus (s : State) (slot : Slot) : KeepsBus s.ms (pipelinedSlot s slot).2 := by
  have hlate : KeepsBus s.ms (lateFetch s slot).ms := fetchAt_keepsBus ..
  simp only [pipelinedSlot]
  split
  · exact KeepsBus.refl s.ms
  · split
    · exact hlate.fetched _ _ _
    · exact (KeepsBus.refl s.ms).fetched _ _ _

theorem currentSlot_keepsBus (s : State) : KeepsBus s.ms (currentSlot s).2 := by
  rw [currentSlot]
  split
  · exact freshSlot_keepsBus s
  · split
    · exact pipelinedSlot_keepsBus s _
    · exact freshSlot_keepsBus s

/-- What comes between two instructions, the TLB's unlocked entries dropped or a walk ahead included (R18, R588). -/
theorem State.ticked_keepsBus (s : State) : KeepsBus s.ms s.ticked.ms := by
  have hmeanwhile := (TranslationStep.meanwhile s.ctx s.ms).keepsBus
  show KeepsBus s.ms (tlbTick s (s.ms.meanwhile s.ctx))
  rw [tlbTick]
  split
  · split
    · exact hmeanwhile.trans (TranslationStep.churn s.ctx _).keepsBus
    · exact ⟨hmeanwhile.wf, hmeanwhile.dcache, hmeanwhile.outside, hmeanwhile.bytes⟩
  · exact hmeanwhile

/-- The instruction and the two after it are fetched. -/
theorem State.prepared_keepsBus (s : State) : KeepsBus s.ms s.prepared.ms :=
  (s.ticked_keepsBus.trans (currentSlot_keepsBus s.ticked)).trans (fillPipe_keepsBus ..)

/-! The instruction. -/

theorem runWord_decoded {w : Word} {i : Instr} (s : State) (h : decode w = some i) : runWord w s = exec i s := by
  simp only [runWord, h]

/-- An instruction in sequence, not at the top of the address space, adds nothing (R21). -/
theorem afterInstruction_sequential {before t : State} {slot : Slot} (hpc : t.cpu.pc = before.cpu.pc + 4#32)
    (htop : before.cpu.pc &&& 0xFFFFFFFC#32 ≠ 0xFFFFFFFC#32) : afterInstruction before slot (.next t) = .next t := by
  have hmoves : ¬t.cpu.pc = before.cpu.pc := by
    rw [hpc]
    bv_omega
  by_cases hn : t.nonseq = true
  · exact afterInstruction_nonseq hn
  · exact (if_neg hn).trans ((if_neg fun h => htop h.1).trans (if_neg hmoves))

/-- Settles O4: the boundary runs the word that the fetch brings, and the fetches keep the bytes of memory. -/
theorem stepRunsDecodedInstruction : Obligations.StepRunsDecodedInstruction := by
  intro s w i hq hf hi u
  have hstep : step s = afterInstruction s.cleared (currentSlot s.ticked).1 (exec i u) := by
    rw [← runWord_decoded u hi]
    exact hq.step_eq.trans (runInstruction_word ((fetchedResult_cleared s).trans hf))
  refine ⟨hstep, rfl, rfl, rfl, rfl, fun hw hl cell hc => s.cleared.prepared_keepsBus.bytes hl hw cell hc, fun t ht hn => ?_,
    fun t ht hpc htop => ?_⟩
  · rw [hstep, ht, afterInstruction_nonseq hn]
  · rw [hstep, ht]
    exact afterInstruction_sequential hpc htop

end Sys2Proof.Machine
end

section
/-! SUPPORT. What the Software Interrupt and the Data Abort leave in the registers of the core and in the DFSR (R536, R540, R541). -/

namespace Sys2Proof.Machine

/-! The Software Interrupt. -/

theorem exec_swi_eq (c : Cond) (imm24 : BitVec 24) (s : State) : exec (.swi c imm24) s = execSwi c imm24 s := rfl

/-- Where the condition passes SWI is its exception, whatever the comment field (R536). -/
theorem exec_swi_passed {c : Cond} {s : State} (imm24 : BitVec 24) (hc : conditionPassed c s.cpu.cpsr = true) :
    exec (.swi c imm24) s = .next (takeException .swi (s.cpu.pc + 4#32) s) :=
  (exec_swi_eq c imm24 s).trans (State.conditionally_passed hc)

/-- Settles O17: the exception that SWI takes does not speak of the comment field. -/
theorem softwareInterrupt : Obligations.SoftwareInterrupt := by
  intro c imm24 other s hc
  obtain ⟨hlink, hsaved, -, -, -⟩ := takeException_enters .swi (s.cpu.pc + 4#32) s
  exact ⟨⟨_, exec_swi_passed imm24 hc, rfl, hlink, hsaved, rfl⟩,
    (exec_swi_passed imm24 hc).trans (exec_swi_passed other hc).symm⟩

/-! The Data Abort. The DFSR is a fault status word; r14 and the SPSR of Abort mode are written, no other. -/

theorem takeDataAbort_dfsr (a : AbortInfo) (s : State) :
    (takeDataAbort a s).cp15.dfsr = faultStatusWord a (s.drawn 0) := rfl

theorem takeDataAbort_mode (a : AbortInfo) (s : State) : (takeDataAbort a s).mode = 0b10111#5 :=
  takeException_mode .dataAbort _ _

theorem takeDataAbort_link (a : AbortInfo) (s : State) : (takeDataAbort a s).bankReg 0b10111#5 14 = s.cpu.pc + 8#32 :=
  (takeException_get .dataAbort _ _ (physReg 0b10111#5 14)).trans (if_pos rfl)

theorem takeDataAbort_spsr_get (a : AbortInfo) (s : State) (n : Fin 5) :
    (takeDataAbort a s).cpu.spsr.get n = if n = 3 then s.cpu.cpsr else s.cpu.spsr.get n :=
  takeException_spsr_get .dataAbort _ _ n

/-! The two faults to which the table gives two codes. -/

theorem statusBits_alignment (choice : Bool) :
    statusBits .alignment choice = 0b0001#4 ∨ statusBits .alignment choice = 0b0011#4 := by
  cases choice
  · exact .inl rfl
  · exact .inr rfl

theorem statusBits_external (choice : Bool) :
    statusBits .external choice = 0b1000#4 ∨ statusBits .external choice = 0b1010#4 := by
  cases choice
  · exact .inl rfl
  · exact .inr rfl

/-- Settles O15: the fields of the fault status word by the table of R540, and the exception entered with the DFSR, the FAR and the
coprocessor pins written. -/
theorem dataAbortRecordsFault : Obligations.DataAbortRecordsFault := by
  intro a s t
  have hdfsr : t.cp15.dfsr = faultStatusWord a (s.drawn 0) := takeDataAbort_dfsr a s
  refine ⟨rfl, fun d hd => ?_, ?_, rfl, takeDataAbort_mode a s, takeDataAbort_link a s, rfl,
    (takeDataAbort_spsr_get a s 3).trans (if_pos rfl), fun n hn => (takeDataAbort_spsr_get a s n).trans (if_neg hn),
    takeDataAbort_sameRegsBut a rfl, rfl⟩
  · rw [hdfsr]
    exact faultStatusWord_domain hd _
  · rw [hdfsr, faultStatusWord_status]
    cases a.status with
    | alignment => exact statusBits_alignment _
    | external => exact statusBits_external _
    | _ => rfl

end Sys2Proof.Machine
end
